-- ==== Sys2Proof/Word.lean ====
section
/-!
DEFINITION. The fixed-width words of the formats chapter (13_card_line_and_trunk_formats.md), and nothing else: every
field of the part that is carried at a byte width is held at that width.
-/

namespace Sys2Proof

/-- One character of a door line frame, or one byte of a trunk frame. -/
abbrev Byte := BitVec 8
/-- Two bytes: rooms, tallies, amounts, limits, zones, counts. -/
abbrev Half := BitVec 16
/-- A wing minute, 0-16,777,215 (R2). -/
abbrev Minute := BitVec 24
/-- A value of the tick counter (R1). -/
abbrev Tick := BitVec 32
/-- A card's serial (R16). -/
abbrev Serial := BitVec 32
/-- A generation, counted modulo 256 (R22). -/
abbrev Gen := BitVec 8
/-- A set of the compartments 0-7 of a minibar: bit c is compartment c (R135, R210). -/
abbrev Compartments := BitVec 8
/-- A set of the zones 0-15: bit z is zone z (R20). -/
abbrev Zones := BitVec 16
/-- A door line (R27). -/
abbrev LineNo := Fin 4
/-- A node's address on its line. -/
abbrev Addr := Fin 32
/-- An index of a table of 128 entries. -/
abbrev Slot := Fin 128

end Sys2Proof
end

