-- ==== Sys2Proof/Syntax.lean ====
section
/-!
DEFINITION. The commands of the part: one constructor for each row of spec/opcode_table.json, in the table's order,
with the operands each takes from outside. A management request's own fields are not operands: they arrive in its trunk
frame and stand in the request in hand (R191).
-/

namespace Sys2Proof

/-- A node of the wing: a door line and an address on it. -/
structure Node where
  line : LineNo
  addr : Addr
  deriving DecidableEq, Repr

/-- The two wires of a door line (R27). -/
inductive Wire where
  | clock
  | data
  deriving DecidableEq, Repr

/-- The two ports of the trunk (R182). -/
inductive Port where
  | upstream
  | downstream
  deriving DecidableEq, Repr

/-- How much of a table operation a command carries (R170): its grant by the arbiter, its completion, or both in one
step with nothing between them. -/
inductive OpForm where
  | grant
  | complete
  | whole
  deriving DecidableEq, Repr

/-- What has arrived of a node's answer: its first character's marker (R7, R30), or all its characters up to the one
that ended it (R28, R29). -/
inductive AnswerPart where
  | begins
  | ends (chars : List Byte)
  deriving DecidableEq, Repr

/-- The commands. -/
inductive Instr where
  | powerOnReset (straps : BitVec 5)
  | pinReset (straps : BitVec 5)
  | tickEvent (fire supplyFail : Bool)
  | minuteEvent
  | firePinChange
  | relockExpiry (n : Node)
  | heldExpiry (n : Node)
  | relatchExpiry (n : Node)
  | relatchExpiryOperation (form : OpForm)
  | returnExpiry (n : Node)
  | returnExpiryOperation (form : OpForm)
  | issueTimeoutExpiry (n : Node)
  | pollSlot (l : LineNo)
  | callSlot (l : LineNo)
  | commandSlot (l : LineNo)
  | answerReceived (l : LineNo) (part : AnswerPart)
  | answerWindowClose (l : LineNo)
  | stretchLimitExceeded (l : LineNo)
  | commandDelivered (l : LineNo)
  | commandNotDelivered (l : LineNo)
  | lineStuck (l : LineNo) (w : Wire)
  | lineFree (l : LineNo)
  | lineMode
  | enterHeld (l : LineNo)
  | decision (form : OpForm)
  | privacyWrite (form : OpForm)
  | reportItemOperation (form : OpForm)
  | forcedCommit (form : OpForm)
  | minibarBringIntoLine (form : OpForm)
  | issue (form : OpForm)
  | composition (form : OpForm)
  | issueClosing (form : OpForm)
  | issueCancel
  | roomCheckout (form : OpForm)
  | roomBump (form : OpForm)
  | minibarSettle (form : OpForm)
  | denyAdd (form : OpForm)
  | denyRemove (form : OpForm)
  | pruneStep (form : OpForm)
  | journalPush
  | post
  | drain (form : OpForm)
  | loadWindow
  | load
  | readEntries (form : OpForm)
  | status (form : OpForm)
  | setClock
  | setOverride
  | go
  | restart
  | restartBegin (straps : BitVec 5)
  | checkingEnd
  | supplyFail
  | vddFall
  | upstreamFrameReceived (bytes : List Byte)
  | downstreamFrameReceived (bytes : List Byte)
  | frameEndedShort (p : Port)
  | requestTake
  | nodePassDown
  | upstreamGrant
  | upstreamFrameFinished
  | relayDownSend
  | relayDownFinished
  | downstreamAbsent
  | downstreamPresent
  | answerRestart (l : LineNo)
  | pollFrameNotDelivered (l : LineNo)
  | vbakOutOfRange
  | clockCountWithoutTick
  deriving DecidableEq, Repr

end Sys2Proof
end

