-- ==== Sys2Proof/Config.lean ====
section
/-!
DEFINITION. What the manual fixes as a number, and the free values: constants without a body, so that no proof can
lean on a value the manual does not give.
-/

namespace Sys2Proof.Config

/-- Last wing minute; also the open-ended card end and the expiry that never comes (R3, R18, R123). -/
def lastMinute : Minute := 16777215
/-- Entries of the decision queue (R69). -/
def decisionQueueCap : Nat := 16
/-- Entries of the deny list (R123). -/
def denyCap : Nat := 1024
/-- Record positions of the journal ring (R156). -/
def journalCap : Nat := 1024
/-- Fill at which the journal's offer is urgent (R162). -/
def journalHighWater : Nat := 896
/-- Records of one JOURNAL frame (R163). -/
def batchCap : Nat := 8
/-- Positions of the request FIFO, the relay-down queue, the reply queue and the pass-up queue (R185, R191, R197). -/
def fifoCap : Nat := 4
/-- Positions of the relay-up queue and of the notice queue (R186, R196). -/
def upCap : Nat := 8
/-- Entries of the post buffer (R174). -/
def postCap : Nat := 2
/-- Largest duration, and the largest remaining distance of a deadline not yet passed (R12, R147). -/
def maxDistance : Nat := 6000
/-- Timeout of an issue context in AWAIT_BLANK (R106). -/
def awaitBlankTicks : Tick := 3000
/-- Timeout of an issue context in WRITING (R107). -/
def writingTicks : Tick := 50
/-- Saturation of a tally (R137). -/
def tallyCap : Nat := 65535

/-- DESIGN CHOICE (free value, log 8): whether a flag or a wrap setting carried with a code above 1 is on. R211 gives
only 0 off and 1 on. -/
opaque otherFlag : Byte → Bool
/-- DESIGN CHOICE (free value, log 9): whether a CONTACT event's content above 1 is open. R210 gives 0 and 1. -/
opaque otherContact : Byte → Bool
/-- DESIGN CHOICE (free value, log 9): whether a DEADBOLT event's content above 1 is thrown. R210 gives 0 and 1. -/
opaque otherDeadbolt : Byte → Bool

end Sys2Proof.Config
end

