-- ==== Sys2Proof/Machine/State.lean ====
section
/-!
DEFINITION. The state of the part as plain data, block by block in the order of 00_scope.md, its cleared values, and
`State.reset`. INVENTORY.md lists each field with the rule that names it.
-/

namespace Sys2Proof.Machine

/-! ### Cards -/

/-- A card grant (R16, R209), each field as carried. -/
structure Grant where
  serial : Serial
  cls : Byte
  gen : Gen
  room : Half
  start : Minute
  finish : Minute
  zones : Zones
  options : Byte
  check : Half
  deriving DecidableEq, Repr

/-- A capture stamp (R7). -/
structure Capture where
  minute : Minute
  second : Fin 60
  tick : Tick
  deriving DecidableEq, Repr

/-- A presentation (R69). -/
structure Presentation where
  node : Node
  grant : Grant
  capture : Capture
  deriving DecidableEq, Repr

/-- The reasons of a refused presentation, in the order of R74. -/
inductive Reason where
  | misread | revoked | cls | lockdown | notYet | expired | room | zone | hours
  | vacant | genOld | genFuture | privacy | option | capped | inUse
  deriving DecidableEq, Repr

/-! ### Time Unit -/

/-- The wing clock's condition (R2, R3). -/
inductive ClockCond where
  | unset | set | saturated
  deriving DecidableEq, Repr

/-- The wing clock (R2). -/
structure Clock where
  minute : Minute
  second : Fin 60
  tenth : Fin 10
  cond : ClockCond
  deriving DecidableEq, Repr

/-- The deadline kinds (R11). -/
inductive DeadlineKind where
  | relock | held | relatch | ret | issueTimeout
  deriving DecidableEq, Repr

/-- An entry of the deadline list (R11). -/
structure Deadline where
  due : Tick
  node : Node
  kind : DeadlineKind
  deriving DecidableEq, Repr

/-- The Time Unit (01_wing_time.md). `expiring` and `minuteEvents` are the model's own (log 6): expiries and minute
events that a tick has produced and that no command has taken yet. -/
structure TimeUnit where
  tick : Tick
  clock : Clock
  deadlines : List Deadline
  expiring : List (Node × DeadlineKind)
  minuteEvents : List Minute
  deriving DecidableEq, Repr

/-! ### Tables -/

/-- The node kinds (R57). -/
inductive NodeKind where
  | unused | roomDoor | commonGate | minibar | encoder
  deriving DecidableEq, Repr

/-- The bit rates of a door line (R27, R56). -/
inductive BitRate where
  | r9600 | r19200 | r38400
  deriving DecidableEq, Repr

/-- The CONFIG entry (R56). -/
structure ConfigEntry where
  siteCode : Half
  grace : Half
  returnWindow : Half
  stretch : Byte
  rates : Vector BitRate 4
  deriving DecidableEq, Repr

/-- A DOOR entry (R57). -/
structure DoorEntry where
  kind : NodeKind
  room : Half
  zone : Fin 16
  cls : Fin 8
  deriving DecidableEq, Repr

/-- The static part of a ROOM entry (R61). -/
structure RoomStatic where
  number : Half
  minibarNode : Option Node
  limit : Half
  prices : Vector (Fin 64) 8
  deriving DecidableEq, Repr

/-- The restore part of a ROOM entry (R67). -/
structure RestorePart where
  occupied : Bool
  accepted : Gen
  issued : Gen
  tally : Half
  deriving DecidableEq, Repr

/-- A daily window (R9). -/
structure Window where
  openAt : Half
  closeAt : Half
  deriving DecidableEq, Repr

/-- A PROFILE entry (R59): bit 0 of the weekday set is Monday. -/
structure ProfileEntry where
  weekdays : BitVec 7
  shift : Window
  lockdownAccess : Bool
  deriving DecidableEq, Repr

/-- A CLASS entry (R60). -/
structure ClassEntry where
  openTime : Byte
  heldLimit : Half
  deriving DecidableEq, Repr

/-- The minibar states, in the order of R135. -/
inductive MinibarState where
  | locked | guest | openGuest | capped | restock
  deriving DecidableEq, Repr

/-- A pending charge (R135). -/
structure Charge where
  compartment : Fin 8
  amount : Half
  due : Tick
  unlatched : Bool
  deriving DecidableEq, Repr

/-- The minibar part of a room record (R64, R135). The candidate set is absent while it has been emptied and no report has
come since (R144, log 47). -/
structure MinibarPart where
  state : MinibarState
  stocked : Compartments
  stable : Compartments
  candidate : Option Compartments
  tally : Half
  charges : List Charge
  deriving DecidableEq, Repr

/-- The dynamic part of a ROOM entry (R63). -/
structure RoomDyn where
  occupied : Bool
  accepted : Gen
  issued : Gen
  privacy : Bool
  marker : Option (Fin 2)
  minibar : Option MinibarPart
  deriving DecidableEq, Repr

/-- An entry of the deny list (R123). -/
structure DenyEntry where
  serial : Serial
  expiry : Minute
  deriving DecidableEq, Repr

/-- The Table Store proper (R55, R63, R123). -/
structure Store where
  config : ConfigEntry
  doors : Vector DoorEntry 128
  rooms : Vector RoomStatic 128
  zones : Vector Window 16
  profiles : Vector ProfileEntry 32
  classes : Vector ClassEntry 8
  prices : Vector Half 64
  dyns : Vector RoomDyn 128
  deny : List DenyEntry
  denyCount : Nat
  deriving DecidableEq, Repr

/-- The loaded tables, in the order of R55. -/
inductive TableId where
  | config | door | room | zone | profile | cls | price
  deriving DecidableEq, Repr

/-- An entry in the post buffer, with its table and index (R174). -/
inductive PostEntry where
  | config (e : ConfigEntry)
  | door (i : Slot) (e : DoorEntry)
  | room (i : Slot) (e : RoomStatic)
  | zone (i : Fin 16) (e : Window)
  | profile (i : Fin 32) (e : ProfileEntry)
  | cls (i : Fin 8) (e : ClassEntry)
  | price (i : Fin 64) (e : Half)
  deriving DecidableEq, Repr

/-- The load window (R176). -/
structure LoadWindow where
  table : TableId
  first : Nat
  last : Nat
  wrap : Bool
  deriving DecidableEq, Repr

/-- The load cursor (R177). -/
inductive Cursor where
  | none | at (i : Nat) | ended
  deriving DecidableEq, Repr

/-- The reasons of a refused request or entry (R194, R178), in the order of R211. -/
inductive RefuseReason where
  | full | room | vacant | encoder | phase | range | duplicate
  deriving DecidableEq, Repr

/-- The LOAD being posted (R178): its entries not yet taken, its counts, and its first refusal (no index: past the
window). -/
structure LoadInHand where
  entries : List (List Byte)
  taken : Nat
  refused : Nat
  firstRefusal : Option (Option Nat × RefuseReason)
  deriving DecidableEq, Repr

/-- The loader (R174, R176, R178). -/
structure Loader where
  buffer : List PostEntry
  window : Option LoadWindow
  cursor : Cursor
  load : Option LoadInHand
  deriving DecidableEq, Repr

/-- The pruner (R129): the cursor is a serial, or 4,294,967,296 for past the end. -/
structure Pruner where
  minute : Option Minute
  cursor : BitVec 33
  deriving DecidableEq, Repr

/-! ### Door lines -/

/-- Line modes (R45); HOLDING keeps whether it was entered from TRANSPARENT (R48). -/
inductive LineMode where
  | decide | transparent | holding (fromTransparent : Bool) | held
  deriving DecidableEq, Repr

/-- The slot kinds (R32). -/
inductive SlotKind where
  | poll | call | command
  deriving DecidableEq, Repr

/-- The commands to a node (R41). -/
inductive Command where
  | grant (openTime : Byte)
  | refuse (r : Reason)
  | defer
  | busy
  | holdOpen
  | releaseEnd
  | prepare
  | write (g : Grant)
  | pass (chars : List Byte)
  deriving DecidableEq, Repr

/-- What became of the command in flight since its frame began: it still is the node's pending command; it was
replaced (R42), dropped by a DOOR post (R34), withdrawn (R115), or dropped by a line mode entry or a return (R49, R50). -/
inductive Fate where
  | live | replaced | rewritten | withdrawn | dropped
  deriving DecidableEq, Repr

/-- What an exchange is for (R32). -/
inductive ExchangeKind where
  | poll (a : Addr)
  | call
  | command (a : Addr) (c : Command) (duty : Bool) (fate : Fate)
  deriving DecidableEq, Repr

/-- An exchange in flight. `stale` holds the DOOR entries that posts have replaced since it began (R34). -/
structure Exchange where
  kind : ExchangeKind
  frame : List Byte
  rate : BitRate
  stretch : Byte
  stamp : Option Capture
  restarted : Bool
  stale : List (Addr × DoorEntry)
  deriving DecidableEq, Repr

/-- What a line controller holds of one node (03_door_lines.md): `silent` is its presence, `faulty` its last reported
status (true for FAULT). -/
structure NodeCtl where
  silent : Bool
  missed : Fin 4
  command : Option Command
  attempts : Fin 4
  duty : Bool
  faulty : Option Bool
  inSweep : Bool
  deriving DecidableEq, Repr

/-- A line controller. -/
structure LineCtl where
  mode : LineMode
  waitingTag : Option Byte
  stuck : Bool
  prevSlot : Option SlotKind
  pollPos : Option Addr
  fifo : List Addr
  exchange : Option Exchange
  nodes : Vector NodeCtl 32
  deriving DecidableEq, Repr

/-! ### Admission Engine, Door Tracker, Override Unit -/

/-- Door states (R89). -/
inductive DoorState where
  | unknown | locked | unlocked | opened | held | forced | released
  deriving DecidableEq, Repr

/-- What the Door Tracker holds of one node (R89): the contact is absent while unknown, true when open. -/
structure DoorTrack where
  state : DoorState
  contact : Option Bool
  deadbolt : Bool
  deriving DecidableEq, Repr

/-- A pending privacy write (R96). The node is absent when a ROOM rewrite made the derivation (log 19). -/
structure PrivacyWrite where
  room : Half
  node : Option Node
  value : Bool
  deriving DecidableEq, Repr

/-- The Door Tracker. -/
structure Tracker where
  doors : Vector DoorTrack 128
  writes : List PrivacyWrite
  deriving DecidableEq, Repr

/-- Override levels (R98). -/
inductive Level where
  | normal | lockdown | release
  deriving DecidableEq, Repr

/-- The Override Unit (R97, R98). `pinChanges` is the model's own (log 6). -/
structure OverrideUnit where
  requested : Level
  pinAsserted : Bool
  lastSample : Bool
  effective : Level
  pinChanges : List Bool
  deriving DecidableEq, Repr

/-! ### Issue Unit -/

/-- The stay fields of an ISSUE request (R104). -/
structure Stay where
  cls : Byte
  room : Half
  start : Minute
  finish : Minute
  zones : Zones
  options : Byte
  deriving DecidableEq, Repr

/-- Why a session failed, in the order of R211. -/
inductive FailReason where
  | timeout | cancelled | writeFailed | lineMode | encoderSilent | encoderUnreachable
  | checkout | roomChanged | restart | shutdown
  deriving DecidableEq, Repr

/-- The outcome of a session (R104, R118). -/
inductive SessionOutcome where
  | done | void | failed (r : FailReason) (burn : Bool)
  deriving DecidableEq, Repr

/-- The states of an issue context (R104). -/
inductive CtxState where
  | free | awaitBlank | writing
  deriving DecidableEq, Repr

/-- An issue context (R104). -/
structure IssueCtx where
  state : CtxState
  void : Bool
  node : Node
  tag : Byte
  duplicate : Bool
  stay : Stay
  serial : Option Serial
  gen : Option Gen
  composed : Option Grant
  heldBlank : Option Serial
  outcome : Option SessionOutcome
  deriving DecidableEq, Repr

/-- An operation the Issue Unit has still to ask for (R104). -/
inductive IssueWork where
  | judge
  | composition (k : Fin 2)
  | closing (k : Fin 2)
  deriving DecidableEq, Repr

/-- The Issue Unit. -/
structure IssueUnit where
  ctxs : Vector IssueCtx 2
  work : List IssueWork
  deriving DecidableEq, Repr

/-! ### Minibar Engine -/

/-- Why a forced commit was asked for (R153): the node's line mode, a DOOR post (with the room the node was bound to),
or a ROOM rewrite that moved the minibar. -/
inductive ForcedCause where
  | lineMode (n : Node)
  | doorPost (room : Half)
  | moved (i : Slot) (room : Half)
  deriving DecidableEq, Repr

/-- Work of the Minibar Engine, in the order it reached it (R143, R148, R153, R155). -/
inductive MinibarWork where
  | item (n : Node) (first : Compartments) (second : Option Compartments)
  | relatch (n : Node)
  | ret (n : Node)
  | forced (c : ForcedCause)
  | lineUp (i : Slot)
  deriving DecidableEq, Repr

/-! ### Table port -/

/-- A granted table operation (R170), with what its requester handed it. -/
inductive PortOp where
  | decision (p : Presentation)
  | privacy (w : PrivacyWrite)
  | item (n : Node) (first : Compartments) (second : Option Compartments)
  | relatch (n : Node)
  | ret (n : Node)
  | forced (c : ForcedCause)
  | lineUp (i : Slot)
  | judge
  | composition (k : Fin 2)
  | closing (k : Fin 2)
  | checkout | bump | settle | denyAdd | denyRemove | readEntries | status
  | prune
  | drain
  deriving DecidableEq, Repr

/-- The requesters of the table port (R171); the Door Tracker's privacy writes are a request of their own (R170). -/
inductive Requester where
  | loader | admission | tracker | requestUnit | minibar | issue | pruner
  deriving DecidableEq, Repr

/-- The table port: the operation in hand and the waiting requests, in the order they were asked. -/
structure TablePort where
  inHand : Option PortOp
  waiting : List Requester
  deriving DecidableEq, Repr

/-! ### Journal -/

/-- A node field of a record: a node, or a line with the address absent (R157, R211). -/
inductive NodeRef where
  | node (n : Node)
  | line (l : LineNo)
  deriving DecidableEq, Repr

/-- The record kinds, in the order of R157. -/
inductive RecordKind where
  | entry | supersede | doorForced | doorHeld | doorSecured | privacy
  | minibarOpen | minibarRemove | minibarCharge | minibarReturn | minibarCapped | restock | settle
  | issueDone | issueVoid | issueFailed | checkout | deny | nodeSilent | nodeBack
  | lineStuck | lineFree | lineMode | override | clockSet | restart | gap
  deriving DecidableEq, Repr

/-- The outcome of a decision (R74, R88). -/
inductive DecisionOutcome where
  | grant
  | grantRelease
  | refuse (r : Reason)
  deriving DecidableEq, Repr

/-- Indications of a DENY record (R157). -/
inductive DenyIndication where
  | added | extended | kept | full | removed | absent | pruned | issue
  deriving DecidableEq, Repr

/-- The cause of a start (R200). -/
inductive StartCause where
  | powerOn | pin | warm | cold
  deriving DecidableEq, Repr

/-- Detail of a record, with the fields R157 gives its kind. -/
inductive Detail where
  | absent
  | entry (card accepted : Gen)
  | supersede (before after : Gen)
  | privacy (v : Bool)
  | removal (c : Fin 8) (amount : Half) (unlatched : Bool)
  | charge (c : Fin 8) (amount : Half) (unlatched : Bool) (tally : Half)
  | refund (c : Fin 8) (amount : Half)
  | capped (tally limit : Half)
  | restockBegin
  | restockEnd (count : Nat)
  | settle (amount : Half)
  | issue (gens : Option (Gen × Gen × Gen)) (failed : Option (FailReason × Bool))
  | checkout (tally : Half) (before after : Gen)
  | deny (i : DenyIndication) (expiry : Option Minute)
  | wire (w : Wire)
  | lineMode (m : LineMode) (broken : Bool)
  | levels (before after : Level)
  | requested (l : Level)
  | clock (c : ClockCond)
  | restart (c : StartCause) (kept : Bool)
  | gap (count : Nat)
  deriving DecidableEq, Repr

/-- A journal record (R157). -/
structure Record where
  kind : RecordKind
  minute : Minute
  second : Fin 60
  node : Option NodeRef
  serial : Option Serial
  room : Option Half
  cls : Option Byte
  outcome : Option DecisionOutcome
  detail : Detail
  deriving DecidableEq, Repr

/-- What the journal asks of the upstream arbiter (R162). -/
inductive Offer where
  | none | urgent | trickle
  deriving DecidableEq, Repr

/-- The journal (09_entry_journal.md); `batch` is the number of the oldest records in flight. -/
structure Journal where
  records : List Record
  push : Bool
  batch : Option Nat
  offer : Offer
  frozen : Bool
  deriving DecidableEq, Repr

/-! ### Trunk Interface -/

/-- Frame kinds (R182); other codes are `other`. -/
inductive FrameKind where
  | request | reply | notice | journal | passDown | passUp | other (code : Byte)
  deriving DecidableEq, Repr

/-- A trunk frame, without its check (R182, R211). -/
structure Frame where
  kind : FrameKind
  dest : Byte
  source : Byte
  tag : Byte
  body : List Byte
  deriving DecidableEq, Repr

/-- A request, with its fields as carried (R192, R211). `passDown` is a NODE_PASS_DOWN frame (R198). -/
inductive Request where
  | status
  | loadWindow (table : Byte) (first last : Half) (wrap : Byte)
  | load (body : List Byte)
  | readEntries (table : Byte) (first : Half) (count : Byte)
  | denyAdd (serial : Serial) (expiry : Minute)
  | denyRemove (serial : Serial)
  | roomCheckout (room : Half)
  | roomBump (room : Half)
  | minibarSettle (room : Half)
  | issue (node kind : Byte) (stay : Stay)
  | issueCancel (context : Byte)
  | setClock (minute : Minute) (second : Byte)
  | setOverride (level : Byte)
  | lineMode (line mode : Byte)
  | journalPush (v : Byte)
  | go
  | restart (mode : Byte)
  | passDown (line addr : Byte) (chars : List Byte)
  deriving DecidableEq, Repr

/-- The request in hand (R191), with what its reply needs. -/
structure RequestInHand where
  request : Request
  tag : Byte
  unicast : Bool
  deriving DecidableEq, Repr

/-- The answer to a request (R194): result fields as bytes in the order of R211. -/
inductive Answer where
  | done (fields : List Byte)
  | accepted (context : Byte)
  | busy
  | refused (r : RefuseReason)
  deriving DecidableEq, Repr

/-- A REPLY: its tag, the request code it answers and the answer (R194). -/
structure Reply where
  tag : Byte
  code : Byte
  answer : Answer
  deriving DecidableEq, Repr

/-- A frame waiting at the upstream arbiter's priority 4 (R189): a reply, or a NODE_PASS_UP (R197). -/
inductive OutFrame where
  | reply (r : Reply)
  | passUp (l : LineNo) (a : Addr) (chars : List Byte)
  deriving DecidableEq, Repr

/-- Phases (R200), in the order of R211; SHUTDOWN is not coded there. -/
inductive Phase where
  | resetting | checking | awaitLoad | run | shutdown
  deriving DecidableEq, Repr

/-- What a notice reports (R196). -/
inductive NoticeBody where
  | doorForced (n : Node)
  | doorHeld (n : Node)
  | nodeSilent (n : Node)
  | lineStuck (l : LineNo) (w : Wire)
  | holdBroken (l : LineNo)
  | issueResult (tag : Byte) (context : Fin 2) (outcome : SessionOutcome) (serial : Option Serial) (gen : Option Gen)
  | override (l : Level)
  | phase (p : Phase)
  deriving DecidableEq, Repr

/-- A notice, with the time it was queued (R196). -/
structure Notice where
  minute : Minute
  second : Fin 60
  body : NoticeBody
  deriving DecidableEq, Repr

/-- The last receive error (R183). -/
inductive ReceiveError where
  | none | check | length
  deriving DecidableEq, Repr

/-- The sources of the upstream arbiter (R189). -/
inductive UpSource where
  | notice | journal | relayUp | reply | passUp
  deriving DecidableEq, Repr

/-- The Trunk Interface (11_trunk_and_management_requests.md). `chain` is absent for a relay-only part; `outQueue` is the
reply queue and the pass-up queue in one queuing order. -/
structure Trunk where
  chain : Option (Fin 31)
  relayDown : List Frame
  relayUp : List Frame
  requests : List Frame
  inHand : Option RequestInHand
  outQueue : List OutFrame
  reserved : Nat
  notices : List Notice
  downAbsent : Bool
  lastError : ReceiveError
  upTx : Option (UpSource × List Byte)
  downTx : Option (List Byte)
  upRo : Bool
  downRo : Bool
  deriving DecidableEq, Repr

/-! ### Start-up Control, pins and supplies -/

/-- Stop work (R206, R208). -/
inductive StopWork where
  | none | warm | supplyFail
  deriving DecidableEq, Repr

/-- The steps of the supply-fail sequence (R206), 1 to 6. -/
inductive StopStep where
  | operation | drain | charges | sessions | marker | finish
  deriving DecidableEq, Repr

/-- A RESTART mode (R208). -/
inductive RestartMode where
  | warm | cold
  deriving DecidableEq, Repr

/-- Start-up Control (12_start_up_retention_and_supply_failure.md). `keep` is the path, `failTaken` that the supply-fail
pin has been taken, `restart` a RESTART answered and not yet begun. -/
structure Startup where
  phase : Phase
  cause : StartCause
  keep : Bool
  marker : Bool
  stopWork : StopWork
  stopStep : StopStep
  failTaken : Bool
  restart : Option RestartMode
  deriving DecidableEq, Repr

/-- Supplies and input pins: VDD present, VBAK having left its range while VDD was absent (R4), and the levels last
seen of the straps and the ready inputs. -/
structure Pins where
  vdd : Bool
  vbakLost : Bool
  straps : BitVec 5
  upRi : Bool
  downRi : Bool
  deriving DecidableEq, Repr

/-- The whole part. `pending` is the queue of the block interface. -/
structure State where
  pending : List Instr
  time : TimeUnit
  lines : Vector LineCtl 4
  queue : List Presentation
  tracker : Tracker
  override : OverrideUnit
  issue : IssueUnit
  minibar : List MinibarWork
  store : Store
  port : TablePort
  loader : Loader
  pruner : Pruner
  journal : Journal
  trunk : Trunk
  startup : Startup
  pins : Pins
  deriving DecidableEq, Repr

/-- No rule of the manual stops the part: it has no fault. Nothing raises one. -/
inductive Fault where
  deriving DecidableEq, Repr

/-- Why a command has no meaning. -/
inductive Refusal where
  /-- Raised by `exec` for a command not modelled yet; safe, since nothing follows it. No command of this model is. -/
  | notModelled (mnemonic : String)
  deriving DecidableEq, Repr

/-- What a command answers. -/
abbrev Outcome := Host.Outcome State Fault Refusal

/-! ### Cleared values and reset -/

/-- Cleared CONFIG (R56). -/
def ConfigEntry.cleared : ConfigEntry :=
  { siteCode := 0, grace := 120, returnWindow := 1200, stretch := 10, rates := Vector.replicate 4 .r9600 }

/-- Cleared DOOR entry (R57). -/
def DoorEntry.cleared : DoorEntry := { kind := .unused, room := 0, zone := 0, cls := 0 }

/-- Static part of an unused ROOM slot (R61). -/
def RoomStatic.cleared : RoomStatic :=
  { number := 0, minibarNode := none, limit := 0, prices := Vector.replicate 8 0 }

/-- Dynamic part of an unused ROOM slot (R63). -/
def RoomDyn.cleared : RoomDyn :=
  { occupied := false, accepted := 1, issued := 0, privacy := false, marker := none, minibar := none }

/-- The cleared store (R68, R134). -/
def Store.cleared : Store :=
  { config := .cleared
    doors := Vector.replicate 128 .cleared
    rooms := Vector.replicate 128 .cleared
    zones := Vector.replicate 16 { openAt := 0, closeAt := 0 }
    profiles := Vector.replicate 32 { weekdays := 0, shift := { openAt := 0, closeAt := 0 }, lockdownAccess := false }
    classes := Vector.replicate 8 { openTime := 50, heldLimit := 600 }
    prices := Vector.replicate 64 0
    dyns := Vector.replicate 128 .cleared
    deny := []
    denyCount := 0 }

/-- A node of a line after a reset (R54). -/
def NodeCtl.initial : NodeCtl :=
  { silent := false, missed := 0, command := none, attempts := 0, duty := false, faulty := none, inSweep := false }

/-- A line after a reset (R54). -/
def LineCtl.initial : LineCtl :=
  { mode := .decide, waitingTag := none, stuck := false, prevSlot := none, pollPos := none, fifo := [],
    exchange := none, nodes := Vector.replicate 32 .initial }

/-- A door after a reset (R89). -/
def DoorTrack.initial : DoorTrack := { state := .unknown, contact := none, deadbolt := false }

/-- A FREE issue context, all fields cleared (R115, R122). -/
def IssueCtx.free : IssueCtx :=
  { state := .free, void := false, node := { line := 0, addr := 0 }, tag := 0, duplicate := false,
    stay := { cls := 0, room := 0, start := 0, finish := 0, zones := 0, options := 0 },
    serial := none, gen := none, composed := none, heldBlank := none, outcome := none }

/-- The wing clock found lost (R4). -/
def Clock.lost : Clock := { minute := 0, second := 0, tenth := 0, cond := .unset }

/-- The Trunk Interface after a reset with the chain address given (R199). -/
def Trunk.initial (chain : Option (Fin 31)) : Trunk :=
  { chain := chain, relayDown := [], relayUp := [], requests := [], inHand := none, outQueue := [], reserved := 0,
    notices := [], downAbsent := false, lastError := .none, upTx := none, downTx := none, upRo := false,
    downRo := false }

/-- The part right after its first power-on reset: the backup found lost (R4, R205), in RESETTING (R200), straps at 0
(DESIGN CHOICE, log 1). -/
def State.reset : State :=
  { pending := []
    time := { tick := 0, clock := .lost, deadlines := [], expiring := [], minuteEvents := [] }
    lines := Vector.replicate 4 .initial
    queue := []
    tracker := { doors := Vector.replicate 128 .initial, writes := [] }
    override :=
      { requested := .normal, pinAsserted := false, lastSample := false, effective := .normal, pinChanges := [] }
    issue := { ctxs := Vector.replicate 2 .free, work := [] }
    minibar := []
    store := .cleared
    port := { inHand := none, waiting := [] }
    loader := { buffer := [], window := none, cursor := .none, load := none }
    pruner := { minute := none, cursor := 0 }
    journal := { records := [], push := true, batch := none, offer := .none, frozen := false }
    trunk := .initial (some 0)
    startup :=
      { phase := .resetting, cause := .powerOn, keep := false, marker := false, stopWork := .none,
        stopStep := .operation, failTaken := false, restart := none }
    pins := { vdd := true, vbakLost := false, straps := 0, upRi := false, downRi := false } }

end Sys2Proof.Machine
end

