-- ==== Sys2Proof/Machine/Ops.lean ====
section
/-!
DEFINITION. The named operations every block shares: indexed stores, the state with one block replaced, reads of the
tables through the post buffer (R174), the journal's append (R160), notices (R196), replies (R194), the deadline list
(R11 to R13) and the deny list (R123).
-/

namespace Sys2Proof.Machine

/-! ### Indexed stores -/

/-- The entry at an index. -/
def look {α : Type} {n : Nat} (v : Vector α n) (i : Fin n) : α := v.get i

/-- The store with the entry at an index replaced. -/
def put {α : Type} {n : Nat} (v : Vector α n) (i : Fin n) (x : α) : Vector α n := v.set i x

/-- The store of the values of `f`, index by index. -/
def tabulate {α : Type} {n : Nat} (f : Fin n → α) : Vector α n := ⟨⟨(List.finRange n).map f⟩, by simp⟩

/-- Index of a node in the DOOR table: line × 32 + address (R55). -/
def nodeIndex (n : Node) : Slot := ⟨n.line.val * 32 + n.addr.val, by omega⟩

/-- The node at a DOOR index (R55). -/
def nodeAt (i : Slot) : Node := { line := ⟨i.val / 32, by omega⟩, addr := ⟨i.val % 32, by omega⟩ }

/-- Every index of a table of 128, ascending: for DOOR, line by line in ascending address. -/
def slots : List Slot := List.finRange 128

/-- The lines, ascending. -/
def lineNos : List LineNo := List.finRange 4

/-- The addresses of a line, ascending. -/
def addrs : List Addr := List.finRange 32

/-! ### The state with one block replaced -/

/-- `s` with its queue of commands replaced. -/
def State.withPending (s : State) (x : List Instr) : State := { s with pending := x }

/-- `s` with its Time Unit replaced. -/
def State.withTime (s : State) (x : TimeUnit) : State := { s with time := x }

/-- `s` with its line controllers replaced. -/
def State.withLines (s : State) (x : Vector LineCtl 4) : State := { s with lines := x }

/-- `s` with its decision queue replaced. -/
def State.withQueue (s : State) (x : List Presentation) : State := { s with queue := x }

/-- `s` with its Door Tracker replaced. -/
def State.withTracker (s : State) (x : Tracker) : State := { s with tracker := x }

/-- `s` with its Override Unit replaced. -/
def State.withOverride (s : State) (x : OverrideUnit) : State := { s with override := x }

/-- `s` with its Issue Unit replaced. -/
def State.withIssue (s : State) (x : IssueUnit) : State := { s with issue := x }

/-- `s` with its Minibar Engine's work replaced. -/
def State.withMinibar (s : State) (x : List MinibarWork) : State := { s with minibar := x }

/-- `s` with its Table Store replaced. -/
def State.withStore (s : State) (x : Store) : State := { s with store := x }

/-- `s` with its table port replaced. -/
def State.withPort (s : State) (x : TablePort) : State := { s with port := x }

/-- `s` with its loader replaced. -/
def State.withLoader (s : State) (x : Loader) : State := { s with loader := x }

/-- `s` with its pruner replaced. -/
def State.withPruner (s : State) (x : Pruner) : State := { s with pruner := x }

/-- `s` with its journal replaced. -/
def State.withJournal (s : State) (x : Journal) : State := { s with journal := x }

/-- `s` with its Trunk Interface replaced. -/
def State.withTrunk (s : State) (x : Trunk) : State := { s with trunk := x }

/-- `s` with its Start-up Control replaced. -/
def State.withStartup (s : State) (x : Startup) : State := { s with startup := x }

/-- `s` with its pins and supplies replaced. -/
def State.withPins (s : State) (x : Pins) : State := { s with pins := x }

/-- The part is relay-only: its chain address straps read 31 (R184). -/
def State.relayOnly (s : State) : Bool := s.trunk.chain.isNone

/-! ### Reads of the tables (R174) -/

/-- The newest of the buffer's entries that `sel` selects, or the entry in the store. -/
def newest {α : Type} (buffer : List PostEntry) (sel : PostEntry → Option α) (stored : α) : α :=
  (buffer.reverse.findSome? sel).getD stored

/-- CONFIG as every block reads it. -/
def configOf (s : State) : ConfigEntry :=
  newest s.loader.buffer (fun | .config e => some e | _ => none) s.store.config

/-- A DOOR entry, by index. -/
def doorAt (s : State) (i : Slot) : DoorEntry :=
  newest s.loader.buffer (fun | .door j e => if j = i then some e else none | _ => none) (look s.store.doors i)

/-- The DOOR entry of a node. -/
def doorOf (s : State) (n : Node) : DoorEntry := doorAt s (nodeIndex n)

/-- The static part of a ROOM entry. -/
def roomOf (s : State) (i : Slot) : RoomStatic :=
  newest s.loader.buffer (fun | .room j e => if j = i then some e else none | _ => none) (look s.store.rooms i)

/-- A ZONE entry. -/
def zoneOf (s : State) (i : Fin 16) : Window :=
  newest s.loader.buffer (fun | .zone j e => if j = i then some e else none | _ => none) (look s.store.zones i)

/-- A PROFILE entry. -/
def profileOf (s : State) (i : Fin 32) : ProfileEntry :=
  newest s.loader.buffer (fun | .profile j e => if j = i then some e else none | _ => none) (look s.store.profiles i)

/-- A CLASS entry. -/
def classOf (s : State) (i : Fin 8) : ClassEntry :=
  newest s.loader.buffer (fun | .cls j e => if j = i then some e else none | _ => none) (look s.store.classes i)

/-- A PRICE entry. -/
def priceOf (s : State) (i : Fin 64) : Half :=
  newest s.loader.buffer (fun | .price j e => if j = i then some e else none | _ => none) (look s.store.prices i)

/-- The CLASS entry of a node's door class (R57, R60). -/
def doorClass (s : State) (n : Node) : ClassEntry := classOf s (doorOf s n).cls

/-- The slot whose room number is `r`; none when `r` is 0 or no slot holds it (R61). -/
def findRoom (s : State) (r : Half) : Option Slot :=
  if r = 0 then none else slots.find? fun i => (roomOf s i).number = r

/-- The slot of the room a MINIBAR node is bound to (R62). -/
def boundRoom (s : State) (n : Node) : Option Slot :=
  if (doorOf s n).kind = .minibar then
    (findRoom s (doorOf s n).room).filter fun i => (roomOf s i).minibarNode = some n
  else none

/-- The dynamic part of a room record. -/
def dynOf (s : State) (i : Slot) : RoomDyn := look s.store.dyns i

/-- `s` with the dynamic part of a room record replaced. -/
def setDyn (s : State) (i : Slot) (d : RoomDyn) : State :=
  s.withStore { s.store with dyns := put s.store.dyns i d }

/-- The minibar part of a room record (R64). -/
def partOf (s : State) (i : Slot) : Option MinibarPart := (dynOf s i).minibar

/-- `s` with the minibar part of a room record replaced. -/
def setPart (s : State) (i : Slot) (m : Option MinibarPart) : State := setDyn s i { dynOf s i with minibar := m }

/-- A node is configured when its kind is not UNUSED (03_door_lines.md). -/
def configured (d : DoorEntry) : Bool := d.kind ≠ .unused

/-- A door node: ROOM_DOOR or COMMON_GATE. -/
def isDoor (d : DoorEntry) : Bool := d.kind = .roomDoor || d.kind = .commonGate

/-! ### Journal (R158 to R161) -/

/-- A record of a kind with the time the journal reads and no other field (R158). -/
def stampedRecord (s : State) (k : RecordKind) : Record :=
  { kind := k, minute := s.time.clock.minute, second := s.time.clock.second, node := none, serial := none,
    room := none, cls := none, outcome := none, detail := .absent }

/-- The GAP that takes the place of the first record lost (R160). -/
def gapFor (r : Record) : Record :=
  { kind := .gap, minute := r.minute, second := r.second, node := none, serial := none, room := none, cls := none,
    outcome := none, detail := .gap 1 }

/-- A GAP's count raised by one, up to 65,535; any other record is not a GAP (R160). -/
def raisedGap (r : Record) : Option Record :=
  match r.detail with
  | .gap c => some { r with detail := .gap (if c < 65535 then c + 1 else c) }
  | _ => none

/-- The ring after one append (R160). -/
def appended (records : List Record) (r : Record) : List Record :=
  if records.length + 2 ≤ Config.journalCap then records ++ [r]
  else
    match records.getLast?.bind raisedGap with
    | some g => records.dropLast ++ [g]
    | none => records ++ [gapFor r]

/-- An append reaching the journal; a frozen journal (R168) and a relay-only part's (R169) take none. -/
def appendRecord (s : State) (r : Record) : State :=
  if s.journal.frozen || s.relayOnly then s
  else s.withJournal { s.journal with records := appended s.journal.records r }

/-- A record about a node, with a detail. -/
def appendNode (s : State) (k : RecordKind) (n : Node) (d : Detail) : State :=
  appendRecord s { stampedRecord s k with node := some (.node n), detail := d }

/-- A record about a line: the line with the address absent (R157). -/
def appendLine (s : State) (k : RecordKind) (l : LineNo) (d : Detail) : State :=
  appendRecord s { stampedRecord s k with node := some (.line l), detail := d }

/-- A record with no field but its detail. -/
def appendPlain (s : State) (k : RecordKind) (d : Detail) : State :=
  appendRecord s { stampedRecord s k with detail := d }

/-- A DENY record (R124 to R133). -/
def appendDeny (s : State) (serial : Serial) (i : DenyIndication) (expiry : Option Minute) : State :=
  appendRecord s { stampedRecord s .deny with serial := some serial, detail := .deny i expiry }

/-! ### Notices and replies -/

/-- A notice, lost when the queue holds 8 (R196). -/
def pushNotice (s : State) (b : NoticeBody) : State :=
  if s.trunk.notices.length < Config.upCap then
    s.withTrunk { s.trunk with
      notices := s.trunk.notices ++ [{ minute := s.time.clock.minute, second := s.time.clock.second, body := b }] }
  else s

/-- Number of replies queued (R191). -/
def replyCount (q : List OutFrame) : Nat := q.countP fun | .reply _ => true | .passUp _ _ _ => false

/-- Number of NODE_PASS_UP frames queued (R197). -/
def passUpCount (q : List OutFrame) : Nat := q.countP fun | .reply _ => false | .passUp _ _ _ => true

/-- The request codes 01H to 11H (R211); NODE_PASS_DOWN has none. -/
def requestCode : Request → Byte
  | .status => 1
  | .loadWindow _ _ _ _ => 2
  | .load _ => 3
  | .readEntries _ _ _ => 4
  | .denyAdd _ _ => 5
  | .denyRemove _ => 6
  | .roomCheckout _ => 7
  | .roomBump _ => 8
  | .minibarSettle _ => 9
  | .issue _ _ _ => 10
  | .issueCancel _ => 11
  | .setClock _ _ => 12
  | .setOverride _ => 13
  | .lineMode _ _ => 14
  | .journalPush _ => 15
  | .go => 16
  | .restart _ => 17
  | .passDown _ _ _ => 0

/-- A reserved reply position filled (R191, R194). -/
def fillReply (s : State) (tag code : Byte) (a : Answer) : State :=
  s.withTrunk { s.trunk with
    outQueue := s.trunk.outQueue ++ [.reply { tag := tag, code := code, answer := a }]
    reserved := s.trunk.reserved - 1 }

/-- The request in hand is answered, if it was unicast, and is no longer in hand (R191, R193). -/
def answerRequest (s : State) (a : Answer) : State :=
  match s.trunk.inHand with
  | none => s
  | some r =>
    let s' := if r.unicast then fillReply s r.tag (requestCode r.request) a else s
    s'.withTrunk { s'.trunk with inHand := none }

/-! ### Deadline list (R11 to R13) -/

/-- Remaining distance of a due tick (R11). -/
def distance (tick due : Tick) : Nat := (due - tick).toNat

/-- Whether a distance says that a due tick has been reached (R12, R147). -/
def reached (d : Nat) : Bool := d = 0 || Config.maxDistance < d

/-- The node kinds a deadline kind belongs to (R11). -/
def belongs : DeadlineKind → NodeKind → Bool
  | .relock, k => k = .roomDoor || k = .commonGate
  | .held, k => k = .roomDoor || k = .commonGate
  | .relatch, k => k = .minibar
  | .ret, k => k = .minibar
  | .issueTimeout, k => k = .encoder

/-- Insertion at the place of R11, after every entry as near (R12). -/
def insertDeadline (tick : Tick) (d : Deadline) : List Deadline → List Deadline
  | [] => [d]
  | e :: es =>
    if distance tick e.due ≤ distance tick d.due then e :: insertDeadline tick d es else d :: e :: es

/-- `s` with its deadline list replaced. -/
def setDeadlines (s : State) (l : List Deadline) : State := s.withTime { s.time with deadlines := l }

/-- Arming with a due tick (R12): not taken for a node of another kind (R11). -/
def armAt (s : State) (n : Node) (k : DeadlineKind) (due : Tick) : State :=
  if belongs k (doorOf s n).kind then
    let due' := if reached (distance s.time.tick due) then s.time.tick + 1 else due
    setDeadlines s
      (insertDeadline s.time.tick { due := due', node := n, kind := k }
        (s.time.deadlines.filter fun e => !(e.node = n && e.kind = k)))
  else s

/-- Arming with a duration (R12). -/
def arm (s : State) (n : Node) (k : DeadlineKind) (d : Tick) : State := armAt s n k (s.time.tick + d)

/-- Cancel by node and kind (R13). -/
def cancel (s : State) (n : Node) (k : DeadlineKind) : State :=
  setDeadlines s (s.time.deadlines.filter fun e => !(e.node = n && e.kind = k))

/-- Cancel by node (R13). -/
def cancelNode (s : State) (n : Node) : State :=
  setDeadlines s (s.time.deadlines.filter fun e => !(e.node = n))

/-- Cancel of RELOCK and HELD of every door node (R13, R100). -/
def cancelDoors (s : State) : State :=
  setDeadlines s (s.time.deadlines.filter fun e => !(e.kind = .relock || e.kind = .held))

/-- Whether the list holds an entry for a node and kind. -/
def armed (s : State) (n : Node) (k : DeadlineKind) : Bool :=
  s.time.deadlines.any fun e => e.node = n && e.kind = k

/-! ### Deny list (R123) -/

/-- The entry of a serial, if held. -/
def denyFind (l : List DenyEntry) (serial : Serial) : Option DenyEntry := l.find? fun e => e.serial = serial

/-- Insertion at its place in serial order. -/
def denyInsert (e : DenyEntry) : List DenyEntry → List DenyEntry
  | [] => [e]
  | f :: fs => if f.serial.toNat < e.serial.toNat then f :: denyInsert e fs else e :: f :: fs

/-- The list without a serial. -/
def denyErase (l : List DenyEntry) (serial : Serial) : List DenyEntry := l.filter fun e => !(e.serial = serial)

/-- `s` with its deny list replaced; the deny count is kept with it (R123). -/
def setDeny (s : State) (l : List DenyEntry) : State :=
  s.withStore { s.store with deny := l, denyCount := l.length }

/-! ### Issue contexts -/

/-- An issue context. -/
def ctxOf (s : State) (k : Fin 2) : IssueCtx := look s.issue.ctxs k

/-- `s` with an issue context replaced. -/
def setCtx (s : State) (k : Fin 2) (c : IssueCtx) : State :=
  s.withIssue { s.issue with ctxs := put s.issue.ctxs k c }

/-- A context is open when it is not FREE (R104). -/
def isOpen (c : IssueCtx) : Bool := c.state ≠ .free

/-- A context is for a guest card (R17, R104). -/
def isGuest (c : IssueCtx) : Bool := c.stay.cls = 1

/-- The open context of an encoder node (R104). -/
def ctxOfNode (s : State) (n : Node) : Option (Fin 2) :=
  (List.finRange 2).find? fun k => isOpen (ctxOf s k) && (ctxOf s k).node = n

/-- The context open for a room (R104). -/
def ctxOfRoom (s : State) (r : Half) : Option (Fin 2) :=
  (List.finRange 2).find? fun k => isOpen (ctxOf s k) && isGuest (ctxOf s k) && (ctxOf s k).stay.room = r

/-! ### Lines and nodes -/

/-- A line controller. -/
def lineOf (s : State) (l : LineNo) : LineCtl := look s.lines l

/-- `s` with a line controller replaced. -/
def setLine (s : State) (l : LineNo) (c : LineCtl) : State := s.withLines (put s.lines l c)

/-- What a line controller holds of a node. -/
def nodeOf (s : State) (n : Node) : NodeCtl := look (lineOf s n.line).nodes n.addr

/-- A line with one node replaced. -/
def LineCtl.withNode (c : LineCtl) (a : Addr) (x : NodeCtl) : LineCtl := { c with nodes := put c.nodes a x }

/-- `s` with what a line controller holds of a node replaced. -/
def setNode (s : State) (n : Node) (x : NodeCtl) : State := setLine s n.line ((lineOf s n.line).withNode n.addr x)

/-- What the Door Tracker holds of a node. -/
def trackOf (s : State) (n : Node) : DoorTrack := look s.tracker.doors (nodeIndex n)

/-- `s` with what the Door Tracker holds of a node replaced. -/
def setTrack (s : State) (n : Node) (d : DoorTrack) : State :=
  s.withTracker { s.tracker with doors := put s.tracker.doors (nodeIndex n) d }

/-- `s` with work added for the Minibar Engine. -/
def addMinibarWork (s : State) (w : MinibarWork) : State := s.withMinibar (s.minibar ++ [w])

end Sys2Proof.Machine
end

