-- ==== Sys2Proof/Machine/Operands.lean ====
section
/-!
DEFINITION. Everything the part reads from bytes: multi-byte fields (most significant first), card grants (R209), node
answers (R210), trunk frames and their checks (R183, R211), requests (R192, R211) and LOAD entries (R55 to R61, R211).
-/

namespace Sys2Proof.Machine

/-! ### Fields -/

/-- Sum of bytes as numbers. -/
def byteSum (bs : List Byte) : Nat := (bs.map BitVec.toNat).sum

/-- A two-byte field. -/
def half (a b : Byte) : Half := a ++ b

/-- A three-byte field. -/
def minute3 (a b c : Byte) : Minute := a ++ b ++ c

/-- A four-byte field. -/
def word4 (a b c d : Byte) : Serial := a ++ b ++ c ++ d

/-- A flag: 0 off, 1 on (R211); other codes are a free value (log 8). -/
def flagOf (b : Byte) : Bool := if b = 0 then false else if b = 1 then true else Config.otherFlag b

/-- A node byte with its address present (R211). -/
def nodeOfByte (b : Byte) : Node :=
  { line := (b.extractLsb' 5 2).toFin, addr := (b.extractLsb' 0 5).toFin }

/-- A node byte: absent when bit 7 is set (R211). -/
def nodeByte? (b : Byte) : Option Node := if b.getLsbD 7 then none else some (nodeOfByte b)

/-! ### Grants (R209) -/

/-- A grant of 19 bytes. -/
def parseGrant : List Byte → Option Grant
  | [s0, s1, s2, s3, c, g, r0, r1, a0, a1, a2, e0, e1, e2, z0, z1, o, k0, k1] =>
    some
      { serial := word4 s0 s1 s2 s3, cls := c, gen := g, room := half r0 r1, start := minute3 a0 a1 a2,
        finish := minute3 e0 e1 e2, zones := half z0 z1, options := o, check := half k0 k1 }
  | _ => none

/-! ### Door line answers (R28, R210) -/

/-- An event of an answer (R37, R210). -/
inductive NodeEvent where
  | none
  | present (g : Grant)
  | contact (v : Byte)
  | deadbolt (v : Byte)
  | compartments (set : Compartments)
  | blank (serial : Serial)
  | written
  | writeFailed
  deriving DecidableEq, Repr

/-- A delivered answer: the address it carries, its status, its event, and its characters less the check. -/
structure NodeAnswer where
  addr : Addr
  status : Byte
  event : Option NodeEvent
  chars : List Byte
  deriving DecidableEq, Repr

/-- The event of an answer by its code and content; none when the content's length is not the event's (R210). -/
def parseEvent (code : BitVec 3) (content : List Byte) : Option NodeEvent :=
  match code.toNat, content with
  | 0, [] => some .none
  | 1, bs => (parseGrant bs).map .present
  | 2, [v] => some (.contact v)
  | 3, [v] => some (.deadbolt v)
  | 4, [v] => some (.compartments v)
  | 5, [a, b, c, d] => some (.blank (word4 a b c d))
  | 6, [] => some .written
  | 7, [] => some .writeFailed
  | _, _ => none

/-- A frame of characters with its check sums to 255 modulo 256 (R28). -/
def lineCheckOk (chars : List Byte) : Bool := byteSum chars % 256 = 255

/-- The characters of an answer, delivered: a first character, a length n of 1 to 40, n content characters, and a check
that verifies (R29, R210). None when the answer is not delivered. -/
def parseAnswer (chars : List Byte) : Option NodeAnswer :=
  match chars with
  | first :: n :: status :: rest =>
    if 1 ≤ n.toNat && n.toNat ≤ 40 && rest.length = n.toNat && lineCheckOk chars then
      some
        { addr := (first.extractLsb' 3 5).toFin
          status := status
          event := parseEvent (first.extractLsb' 0 3) rest.dropLast
          chars := chars.dropLast }
    else none
  | _ => none

/-! ### Trunk frames (R182, R183, R211) -/

/-- A frame kind by its code. -/
def frameKind (b : Byte) : FrameKind :=
  match b.toNat with
  | 1 => .request
  | 2 => .reply
  | 3 => .notice
  | 4 => .journal
  | 5 => .passDown
  | 6 => .passUp
  | _ => .other b

/-- The code of a frame kind. -/
def frameCode : FrameKind → Byte
  | .request => 1
  | .reply => 2
  | .notice => 3
  | .journal => 4
  | .passDown => 5
  | .passUp => 6
  | .other b => b

/-- What a receiver makes of the bytes that reached it (R183): a frame that ended short, a complete frame that is not
good, or a good frame. -/
inductive Received where
  | short
  | bad
  | good (f : Frame)
  deriving DecidableEq, Repr

/-- A receiver takes the body length from the header and counts the frame to its end (R182); bytes past the end are no
part of it (log 33). -/
def receive (bytes : List Byte) : Received :=
  match bytes with
  | kind :: dest :: source :: tag :: len :: rest =>
    let body := rest.take len.toNat
    match rest.drop len.toNat with
    | c0 :: c1 :: _ =>
      if (byteSum (kind :: dest :: source :: tag :: len :: body) + (half c0 c1).toNat) % 65536 = 65535 then
        .good { kind := frameKind kind, dest := dest, source := source, tag := tag, body := body }
      else .bad
    | _ => .short
  | _ => .short

/-! ### Requests (R192, R193, R211) -/

/-- A request by its code and fields, with fields beyond its own ignored; none when the code names none of the
seventeen or the body is too short (R193). -/
def parseRequest (body : List Byte) : Option Request :=
  match body with
  | [] => none
  | code :: fields =>
    match code.toNat, fields with
    | 1, _ => some .status
    | 2, t :: f0 :: f1 :: l0 :: l1 :: w :: _ => some (.loadWindow t (half f0 f1) (half l0 l1) w)
    | 3, bs => some (.load bs)
    | 4, t :: f0 :: f1 :: c :: _ => some (.readEntries t (half f0 f1) c)
    | 5, a :: b :: c :: d :: e0 :: e1 :: e2 :: _ => some (.denyAdd (word4 a b c d) (minute3 e0 e1 e2))
    | 6, a :: b :: c :: d :: _ => some (.denyRemove (word4 a b c d))
    | 7, r0 :: r1 :: _ => some (.roomCheckout (half r0 r1))
    | 8, r0 :: r1 :: _ => some (.roomBump (half r0 r1))
    | 9, r0 :: r1 :: _ => some (.minibarSettle (half r0 r1))
    | 10, n :: k :: c :: r0 :: r1 :: a0 :: a1 :: a2 :: e0 :: e1 :: e2 :: z0 :: z1 :: o :: _ =>
      some (.issue n k
        { cls := c, room := half r0 r1, start := minute3 a0 a1 a2, finish := minute3 e0 e1 e2, zones := half z0 z1,
          options := o })
    | 11, c :: _ => some (.issueCancel c)
    | 12, m0 :: m1 :: m2 :: sec :: _ => some (.setClock (minute3 m0 m1 m2) sec)
    | 13, l :: _ => some (.setOverride l)
    | 14, l :: m :: _ => some (.lineMode l m)
    | 15, v :: _ => some (.journalPush v)
    | 16, _ => some .go
    | 17, m :: _ => some (.restart m)
    | _, _ => none

/-- A NODE_PASS_DOWN body: a line, a node address, then the characters (R198). -/
def parsePassDown (body : List Byte) : Request :=
  match body with
  | l :: a :: chars => .passDown l a chars
  | _ => .passDown 0 0 []

/-! ### Coded values -/

/-- A level by its code (R211). -/
def levelOf (b : Byte) : Option Level :=
  match b.toNat with
  | 0 => some .normal
  | 1 => some .lockdown
  | 2 => some .release
  | _ => none

/-- A RESTART mode by its code, in the order of R208 (log 34). -/
def restartModeOf (b : Byte) : Option RestartMode :=
  match b.toNat with
  | 0 => some .warm
  | 1 => some .cold
  | _ => none

/-- A table by its code (R211). -/
def tableOf (b : Byte) : Option TableId :=
  match b.toNat with
  | 1 => some .config
  | 2 => some .door
  | 3 => some .room
  | 4 => some .zone
  | 5 => some .profile
  | 6 => some .cls
  | 7 => some .price
  | _ => none

/-- The number of entries of a table (R55). -/
def tableSize : TableId → Nat
  | .config => 1
  | .door => 128
  | .room => 128
  | .zone => 16
  | .profile => 32
  | .cls => 8
  | .price => 64

/-- The ranges READ_ENTRIES is held to: a table or the deny list (code 8), a first index on the table, a count of 1 to 8
(R180). -/
def readInRange (table : Byte) (first : Half) (count : Byte) : Bool :=
  decide (1 ≤ count.toNat) && decide (count.toNat ≤ 8) &&
    (match tableOf table with
      | some t => decide (first.toNat < tableSize t)
      | none => table = 8)

/-- Bytes of one LOAD entry of a table (R211). -/
def entryBytes : TableId → Nat
  | .config => 11
  | .door => 5
  | .room => 19
  | .zone => 4
  | .profile => 6
  | .cls => 3
  | .price => 2

/-- `count` whole entries of `size` bytes. -/
def splitEntries (size : Nat) (bs : List Byte) : Nat → List (List Byte)
  | 0 => []
  | n + 1 => bs.take size :: splitEntries size (bs.drop size) n

/-- A LOAD body as whole entries of a table, if it divides into them (R178). -/
def entriesOf (t : TableId) (bs : List Byte) : Option (List (List Byte)) :=
  if bs.length % entryBytes t = 0 then some (splitEntries (entryBytes t) bs (bs.length / entryBytes t)) else none

/-! ### LOAD entries, clamped as Wing Tables states (R55 to R61) -/

/-- A carried value brought to the nearest value of a range (R55). -/
def clamp {w : Nat} (lo hi : Nat) (v : BitVec w) : BitVec w := BitVec.ofNat w (max lo (min hi v.toNat))

/-- A bit rate by its code (R211). -/
def rateOf (b : Byte) : Option BitRate :=
  match b.toNat with
  | 1 => some .r9600
  | 2 => some .r19200
  | 3 => some .r38400
  | _ => none

/-- A CONFIG entry (R56). -/
def parseConfig : List Byte → Option ConfigEntry
  | [k0, k1, g0, g1, w0, w1, st, r0, r1, r2, r3] =>
    match rateOf r0, rateOf r1, rateOf r2, rateOf r3 with
    | some a, some b, some c, some d =>
      some
        { siteCode := half k0 k1, grace := clamp 0 1439 (half g0 g1), returnWindow := clamp 0 6000 (half w0 w1),
          stretch := clamp 1 50 st, rates := #v[a, b, c, d] }
    | _, _, _, _ => none
  | _ => none

/-- A DOOR entry (R57): fields its kind does not use are not checked and are stored as 0. -/
def parseDoor : List Byte → Option DoorEntry
  | [k, r0, r1, z, c] =>
    let room := half r0 r1
    let place (kind : NodeKind) (room : Half) : Option DoorEntry :=
      if hz : z.toNat < 16 then
        if hc : c.toNat < 8 then some { kind := kind, room := room, zone := ⟨z.toNat, hz⟩, cls := ⟨c.toNat, hc⟩ }
        else none
      else none
    match k.toNat with
    | 0 => some .cleared
    | 1 => if room = 0 then none else place .roomDoor room
    | 2 => place .commonGate 0
    | 3 => if room = 0 then none else place .minibar room
    | 4 => some { DoorEntry.cleared with kind := .encoder }
    | _ => none
  | _ => none

/-- A window (R59). -/
def parseWindow : List Byte → Option Window
  | [o0, o1, c0, c1] => some { openAt := clamp 0 1439 (half o0 o1), closeAt := clamp 0 1439 (half c0 c1) }
  | _ => none

/-- A PROFILE entry (R59). -/
def parseProfile : List Byte → Option ProfileEntry
  | [w, o0, o1, c0, c1, f] =>
    some
      { weekdays := w.extractLsb' 0 7
        shift := { openAt := clamp 0 1439 (half o0 o1), closeAt := clamp 0 1439 (half c0 c1) }
        lockdownAccess := flagOf f }
  | _ => none

/-- A CLASS entry (R60). -/
def parseClass : List Byte → Option ClassEntry
  | [o, h0, h1] => some { openTime := clamp 1 250 o, heldLimit := clamp 10 6000 (half h0 h1) }
  | _ => none

/-- A PRICE entry (R60). -/
def parsePrice : List Byte → Option Half
  | [a0, a1] => some (half a0 a1)
  | _ => none

/-- A price index (R61). -/
def priceIndex (b : Byte) : Option (Fin 64) := if h : b.toNat < 64 then some ⟨b.toNat, h⟩ else none

/-- Eight price indexes, none if one is above 63 (R61). -/
def priceIndexes (a b c d e f g h : Byte) : Option (Vector (Fin 64) 8) := do
  let a ← priceIndex a
  let b ← priceIndex b
  let c ← priceIndex c
  let d ← priceIndex d
  let e ← priceIndex e
  let f ← priceIndex f
  let g ← priceIndex g
  let h ← priceIndex h
  some #v[a, b, c, d, e, f, g, h]

/-- The static part of a ROOM entry (R61): a slot with room number 0 stores no minibar arrangement. -/
def roomStaticOf (number : Half) (minibarNode : Option Node) (limit : Half) (prices : Vector (Fin 64) 8) :
    RoomStatic :=
  if number = 0 then .cleared
  else { number := number, minibarNode := minibarNode, limit := limit, prices := prices }

/-- The room number and the minibar node a ROOM entry carries (R211). -/
def roomNames : List Byte → Option (Half × Option Node)
  | n0 :: n1 :: m :: _ => some (half n0 n1, nodeByte? m)
  | _ => none

/-- A ROOM entry as carried: its static part as given, and the restore part, taken only when its flag is 1 (R67, R211).
None when a price index or the restore occupancy refuses it. -/
def parseRoom : List Byte → Option (RoomStatic × Option RestorePart)
  | [n0, n1, m, l0, l1, p0, p1, p2, p3, p4, p5, p6, p7, f, occ, acc, iss, t0, t1] =>
    match priceIndexes p0 p1 p2 p3 p4 p5 p6 p7 with
    | none => none
    | some prices =>
      let st : RoomStatic :=
        { number := half n0 n1, minibarNode := nodeByte? m, limit := half l0 l1, prices := prices }
      if f = 1 then
        if occ = 0 || occ = 1 then
          some (st, some { occupied := occ = 1, accepted := acc, issued := iss, tally := half t0 t1 })
        else none
      else some (st, none)
  | _ => none

end Sys2Proof.Machine
end

