-- ==== Sys2Proof/Machine/Flags.lean ====
section
/-!
DEFINITION. What a block computes from the state it stands in: whether the part is active, working or stopping (R187,
R200, R206), the journal's offer (R162), the ready outputs (R187), who asks for the table port and who is granted
(R171, R172), and `settle`, which brings these up to date at the end of every command.
-/

namespace Sys2Proof.Machine

/-- The trunk and the lines run: VDD is present and the phase is CHECKING, AWAIT_LOAD or RUN (R187, R200). -/
def State.active (s : State) : Bool :=
  s.pins.vdd && (s.startup.phase = .checking || s.startup.phase = .awaitLoad || s.startup.phase = .run)

/-- The job blocks work: the part is active and not relay-only (R184). -/
def State.serving (s : State) : Bool := s.active && !s.relayOnly

/-- The blocks stop: the supply-fail pin has been taken, or the warm stop work runs (R206, R208). -/
def State.stopping (s : State) : Bool := s.startup.failTaken || decide (s.startup.stopWork ≠ .none)

/-- The job blocks take up new work. -/
def State.working (s : State) : Bool := s.serving && !s.stopping

/-- Tick events run (R1, R207). -/
def State.ticking (s : State) : Bool := s.pins.vdd && decide (s.startup.phase ≠ .shutdown)

/-- The journal's offer (R162). -/
def offerOf (s : State) : Offer :=
  if s.journal.push && s.journal.batch.isNone && !s.journal.records.isEmpty && s.working then
    if Config.journalHighWater ≤ s.journal.records.length then .urgent else .trickle
  else .none

/-- UP_RO (R187). -/
def upReady (s : State) : Bool :=
  s.active && !s.stopping && decide (s.trunk.requests.length < Config.fifoCap) &&
    decide (s.trunk.relayDown.length < Config.fifoCap)

/-- DN_RO (R187). -/
def downReady (s : State) : Bool :=
  s.active && !s.stopping && decide (s.trunk.relayUp.length < Config.upCap)

/-! ### Table port (R170 to R172) -/

/-- The block on whose behalf an operation is asked (R170). -/
def requesterOf : PortOp → Requester
  | .decision _ => .admission
  | .privacy _ => .tracker
  | .item _ _ _ => .minibar
  | .relatch _ => .minibar
  | .ret _ => .minibar
  | .forced _ => .minibar
  | .lineUp _ => .minibar
  | .judge => .issue
  | .composition _ => .issue
  | .closing _ => .issue
  | .checkout => .requestUnit
  | .bump => .requestUnit
  | .settle => .requestUnit
  | .denyAdd => .requestUnit
  | .denyRemove => .requestUnit
  | .readEntries => .requestUnit
  | .status => .requestUnit
  | .prune => .pruner
  | .drain => .loader

/-- The table operation a request asks for on the Request Unit's behalf (R170, R192); a READ_ENTRIES out of range asks
for none (R180). -/
def operationOf : Request → Option PortOp
  | .status => some .status
  | .readEntries t f c => if readInRange t f c then some .readEntries else none
  | .denyAdd _ _ => some .denyAdd
  | .denyRemove _ => some .denyRemove
  | .roomCheckout _ => some .checkout
  | .roomBump _ => some .bump
  | .minibarSettle _ => some .settle
  | _ => none

/-- A requester has work for the port (R170 to R175); the pruner asks for nothing once the part stops (R131). -/
def hasWork (s : State) : Requester → Bool
  | .loader => !s.loader.buffer.isEmpty
  | .admission => !s.queue.isEmpty
  | .tracker => !s.tracker.writes.isEmpty
  | .requestUnit => (s.trunk.inHand.bind fun r => operationOf r.request).isSome
  | .minibar => !s.minibar.isEmpty
  | .issue => !s.issue.work.isEmpty
  | .pruner => s.pruner.minute.isSome && !s.stopping

/-- A requester asks for an operation: it has work and none of its own in hand (R170). -/
def wants (s : State) (r : Requester) : Bool :=
  hasWork s r && decide (s.port.inHand.map requesterOf ≠ some r)

/-- Every requester. -/
def requesters : List Requester := [.loader, .admission, .tracker, .requestUnit, .minibar, .issue, .pruner]

/-- The priority of a request (R171), the drain's by the post buffer's fill. -/
def priority (s : State) : Requester → Nat
  | .loader => if Config.postCap ≤ s.loader.buffer.length then 1 else 6
  | .admission => 2
  | .tracker => 2
  | .requestUnit => 3
  | .minibar => 4
  | .issue => 5
  | .pruner => 7

/-- The first request of highest priority, in the order they were asked (R171). -/
def bestOf (s : State) : List Requester → Option Requester
  | [] => none
  | r :: rs =>
    match bestOf s rs with
    | some q => if priority s q < priority s r then some q else some r
    | none => some r

/-- The loader has an entry to post and the post buffer a free position (R173). -/
def postReady (s : State) : Bool :=
  !s.stopping && decide (s.loader.buffer.length < Config.postCap) &&
    (match s.loader.load with | some ld => !ld.entries.isEmpty | none => false)

/-- The requester the arbiter grants next (R171, R172, R173). -/
def nextGrant (s : State) : Option Requester :=
  if s.serving && s.port.inHand.isNone && !postReady s then
    bestOf s (if s.stopping then s.port.waiting.filter (fun r => r = .loader) else s.port.waiting)
  else none

/-- The waiting requests after a change: those withdrawn are gone, those new stand last (R172). -/
def waitingNow (s : State) : List Requester :=
  s.port.waiting.filter (wants s) ++ requesters.filter fun r => wants s r && !s.port.waiting.contains r

/-- `s` with the waiting requests, the journal's offer and the ready outputs brought up to date. -/
def settle (s : State) : State :=
  ((s.withPort { s.port with waiting := waitingNow s }).withJournal { s.journal with offer := offerOf s }).withTrunk
    { s.trunk with upRo := upReady s, downRo := downReady s }

/-- What a command answers when it has its effect. -/
def done (s : State) : Outcome := .next (settle s)

/-- What a command answers when the rules do not let it happen: nothing changes (DESIGN CHOICE, log 3). -/
def idle (s : State) : Outcome := .next s

/-- The operation in hand, taken or given back. -/
def setInHand (s : State) (op : Option PortOp) : State := s.withPort { s.port with inHand := op }

/-- The forms of a table operation (R170, log 4): `grant` is what the arbiter's grant does (none: not granted now);
`complete` what the completion does (none: no such operation in hand); `whole` is the one and then the other. The
operation is out of hand when `complete` makes its effects. -/
def runForm (form : OpForm) (grant complete : State → Option State) (s : State) : Outcome :=
  match form with
  | .grant => match grant s with
    | some s' => done s'
    | none => idle s
  | .complete => match complete s with
    | some s' => done s'
    | none => idle s
  | .whole => match (grant s).bind fun g => complete (settle g) with
    | some s' => done s'
    | none => idle s

/-- The grant of an operation that its requester does not take from a list. -/
def grantSimple (r : Requester) (op : PortOp) (ready : State → Bool) (s : State) : Option State :=
  if nextGrant s = some r && ready s then some (setInHand s (some op)) else none

/-- The Request Unit's request in hand asks for the operation `op`. -/
def requestAsks (op : PortOp) (s : State) : Bool :=
  (s.trunk.inHand.bind fun r => operationOf r.request) = some op

end Sys2Proof.Machine
end

