-- ==== Sys2Proof/Machine/MinibarOps.lean ====
section
/-!
DEFINITION. What the Minibar Engine does to the minibar part of one room record (08_minibars.md): recomputation, commits,
the RETURN deadline, restocks, reports, forced commits.
-/

namespace Sys2Proof.Machine

/-- A record of the Minibar Engine: the room and its minibar node (R154). -/
def appendMinibar (s : State) (i : Slot) (k : RecordKind) (d : Detail) : State :=
  appendRecord s
    { stampedRecord s k with
      node := (roomOf s i).minibarNode.map .node, room := some (roomOf s i).number, detail := d }

/-- The minibar state recomputed from occupancy, limit and tally (R136). -/
def recomputed (occupied : Bool) (limit tally : Half) : MinibarState :=
  if !occupied || limit = 0 then .locked else if limit.toNat ≤ tally.toNat then .capped else .guest

/-- A state that a recomputation keeps where R136 says so. -/
def keptState (m : MinibarState) : Bool := m = .openGuest || m = .restock

/-- The minibar part with its state recomputed (R136). -/
def recompute (s : State) (i : Slot) (m : MinibarPart) : MinibarPart :=
  { m with state := recomputed (dynOf s i).occupied (roomOf s i).limit m.tally }

/-- The minibar part recomputed, with OPEN_GUEST and RESTOCK kept (R136). -/
def recomputeKeeping (s : State) (i : Slot) (m : MinibarPart) : MinibarPart :=
  if keptState m.state then m else recompute s i m

/-- A tally with an amount added, saturating (R137). -/
def addTally (tally amount : Half) : Half := BitVec.ofNat 16 (min Config.tallyCap (tally.toNat + amount.toNat))

/-- A commit of one charge: the tally, the MINIBAR_CHARGE record, and MINIBAR_CAPPED with a recomputation when it
takes the tally to the limit (R149). -/
def commitCharge (i : Slot) (s : State) (c : Charge) : State :=
  match partOf s i with
  | none => s
  | some m =>
    let tally := addTally m.tally c.amount
    let limit := (roomOf s i).limit
    let s1 := appendMinibar (setPart s i (some { m with tally := tally })) i .minibarCharge
      (.charge c.compartment c.amount c.unlatched tally)
    if limit ≠ 0 ∧ m.tally.toNat < limit.toNat ∧ limit.toNat ≤ tally.toNat then
      let s2 := appendMinibar s1 i .minibarCapped (.capped tally limit)
      setPart s2 i (some (recomputeKeeping s2 i { m with tally := tally }))
    else s1

/-- The pending charges that `due` selects, committed in list order and removed from the list (R148, R149). -/
def commitWhere (s : State) (i : Slot) (due : Charge → Bool) : State :=
  match partOf s i with
  | none => s
  | some m =>
    (m.charges.filter due).foldl (commitCharge i)
      (setPart s i (some { m with charges := m.charges.filter fun c => !due c }))

/-- Every pending charge committed (R152, R153, R155). -/
def commitAll (s : State) (i : Slot) : State := commitWhere s i fun _ => true

/-- The entry of least remaining distance, the first in list order where two are equal (R147). -/
def earliest (tick : Tick) : List Charge → Option Charge
  | [] => none
  | c :: cs =>
    match earliest tick cs with
    | some d => if distance tick d.due < distance tick c.due then some d else some c
    | none => some c

/-- RETURN set for a room's minibar node after a change of its pending charges (R147). -/
def setReturn (s : State) (i : Slot) : State :=
  match (roomOf s i).minibarNode, partOf s i with
  | some n, some m =>
    match earliest s.time.tick m.charges with
    | some c => armAt s n .ret c.due
    | none => cancel s n .ret
  | _, _ => s

/-- Number of compartments in a set. -/
def setSize (c : Compartments) : Nat := (List.finRange 8).countP fun k => c.getLsbD k.val

/-- The end of a restock (R150). -/
def endRestock (s : State) (i : Slot) : State :=
  match partOf s i with
  | none => s
  | some m =>
    let s1 := appendMinibar (setPart s i (some { m with stocked := m.stable })) i .restock
      (.restockEnd (setSize m.stable))
    setPart s1 i (some (recompute s1 i { m with stocked := m.stable }))

/-- OPEN_GUEST or RESTOCK ended as a RELATCH expiry ends it; any other state is left (R142). -/
def relatchEnd (s : State) (i : Slot) : State :=
  match partOf s i with
  | none => s
  | some m =>
    match m.state with
    | .openGuest => setPart s i (some (recompute s i m))
    | .restock => endRestock s i
    | .locked => s
    | .guest => s
    | .capped => s

/-- The candidate set emptied, so that the next report is held whatever it is (R144, R153, R155, log 47). -/
def emptyCandidate (s : State) (i : Slot) : State :=
  match partOf s i with
  | none => s
  | some m => setPart s i (some { m with candidate := none })

/-! ### Reports (R144 to R146) -/

/-- A compartment is in a set. -/
def holds (set : Compartments) (c : Fin 8) : Bool := set.getLsbD c.val

/-- A compartment leaving the stable set (R145); RETURN is set where the list has changed (R147). Within one operation
each setting replaces the one before, so the last stands. -/
def processRemoval (i : Slot) (s : State) (c : Fin 8) : State :=
  match partOf s i with
  | none => s
  | some m =>
    if m.state = .restock || !holds m.stocked c then s
    else
      let amount := priceOf s (look (roomOf s i).prices c)
      let window := (configOf s).returnWindow
      let charge : Charge :=
        { compartment := c, amount := amount, due := s.time.tick + window.setWidth 32,
          unlatched := m.state ≠ .openGuest }
      let s1 := commitWhere s i fun d => d.compartment = c
      if window = 0 then
        let s2 := commitCharge i s1 charge
        if m.charges.any (fun d => d.compartment = c) then setReturn s2 i else s2
      else
        match partOf s1 i with
        | none => s1
        | some m1 =>
          setReturn
            (appendMinibar (setPart s1 i (some { m1 with charges := m1.charges ++ [charge] })) i .minibarRemove
              (.removal c amount charge.unlatched)) i

/-- A compartment entering the stable set (R146); RETURN is set where a charge was taken off (R147). -/
def processReturn (i : Slot) (s : State) (c : Fin 8) : State :=
  match partOf s i with
  | none => s
  | some m =>
    if m.state = .restock then s
    else
      match m.charges.find? (fun d => d.compartment = c) with
      | none => s
      | some d =>
        setReturn
          (appendMinibar
            (setPart s i (some { m with charges := m.charges.filter fun e => !(e.compartment = c) })) i .minibarReturn
            (.refund c d.amount)) i

/-- A change of the stable set at one compartment (R145, R146). -/
def processCompartment (i : Slot) (before after : Compartments) (s : State) (c : Fin 8) : State :=
  if holds before c && !holds after c then processRemoval i s c
  else if !holds before c && holds after c then processReturn i s c
  else s

/-- A report applied to the minibar part (R144): an emptied candidate set equals none (log 47). -/
def applyReport (s : State) (i : Slot) (set : Compartments) : State :=
  match partOf s i with
  | none => s
  | some m =>
    if m.candidate ≠ some set then setPart s i (some { m with candidate := some set })
    else if set = m.stable then s
    else
      let s1 := (List.finRange 8).foldl (processCompartment i m.stable set) s
      match partOf s1 i with
      | none => s1
      | some m1 => setPart s1 i (some { m1 with stable := set })

/-- A report item applied to the room its node is bound to (R143). -/
def applyItem (s : State) (n : Node) (first : Compartments) (second : Option Compartments) : State :=
  match boundRoom s n with
  | none => s
  | some i =>
    let s1 := applyReport s i first
    match second with
    | some set => applyReport s1 i set
    | none => s1

/-- A RELATCH expiry's operation (R142). -/
def applyRelatch (s : State) (n : Node) : State :=
  match boundRoom s n with
  | none => s
  | some i => relatchEnd s i

/-- A RETURN expiry's operation (R148). -/
def applyReturn (s : State) (n : Node) : State :=
  match boundRoom s n with
  | none => s
  | some i => setReturn (commitWhere s i fun c => reached (distance s.time.tick c.due)) i

/-- A forced commit with the ending of OPEN_GUEST or RESTOCK and the emptying of the candidate set (R153). -/
def forcedEnd (s : State) (i : Slot) : State := emptyCandidate (relatchEnd (setReturn (commitAll s i) i) i) i

/-- A forced commit's operation (R153). A move of the minibar ends a RESTOCK without an END record (log 53). -/
def applyForced (s : State) : ForcedCause → State
  | .lineMode n =>
    match boundRoom s n with
    | none => s
    | some i => forcedEnd s i
  | .doorPost room =>
    match findRoom s room with
    | none => s
    | some i => forcedEnd s i
  | .moved i room =>
    if (roomOf s i).number = room then
      let s1 := setReturn (commitAll s i) i
      match partOf s1 i with
      | none => s1
      | some m => setPart s1 i (some (recompute s1 i { m with stocked := 0, stable := 0, candidate := none }))
    else s

/-- A minibar part brought into line in CHECKING (R155). -/
def bringIntoLine (s : State) (i : Slot) : State :=
  let s1 := emptyCandidate (relatchEnd s i) i
  match partOf s1 i with
  | none => s1
  | some m => setPart s1 i (some (recompute s1 i m))

end Sys2Proof.Machine
end

