-- ==== Sys2Proof/Machine/IssueOps.lean ====
section
/-!
DEFINITION. A node's pending command (R41 to R43) and the end of an issue session (R103, R109 to R118), which bear on
each other: a command that replaces a PREPARE or WRITE ends its session, and a session's end withdraws its command.
-/

namespace Sys2Proof.Machine

/-! ### Pending commands -/

/-- What becomes of the command in flight when its node's pending command is replaced, dropped or withdrawn. One that a
newer command had replaced is dropped where a change of line mode drops the newer one (R49, R50); where the newer one is
kept, or goes by a DOOR post or a withdrawal, the older one's delivery is still handed on (log 56). -/
def Fate.then (now : Fate) (f : Fate) : Fate :=
  match now with
  | .live => f
  | .withdrawn => f
  | .replaced => if f = .dropped then .dropped else .replaced
  | .rewritten => .rewritten
  | .dropped => .dropped

/-- The exchange in flight marked, when it carries a command of node `a`. -/
def markFlight (a : Addr) (f : Fate) (e : Exchange) : Exchange :=
  match e.kind with
  | .command b c duty now => if b = a then { e with kind := .command b c duty (now.then f) } else e
  | .poll _ => e
  | .call => e

/-- What became of the command of node `a` in flight, if one is. -/
def flightFate (c : LineCtl) (a : Addr) : Option Fate :=
  match c.exchange with
  | some e =>
    match e.kind with
    | .command b _ _ now => if b = a then some now else none
    | .poll _ => none
    | .call => none
  | none => none

/-- A node's pending command dropped, with its FIFO place and its end-hold duty (R42, R43, R49, R53). -/
def dropCommand (c : LineCtl) (a : Addr) (f : Fate) : LineCtl :=
  { (c.withNode a { look c.nodes a with command := none, attempts := 0, duty := false }) with
    fifo := c.fifo.filter fun b => !(b = a)
    exchange := c.exchange.map (markFlight a f) }

/-- The commands of an issue session. -/
def isSessionCommand : Command → Bool
  | .prepare => true
  | .write _ => true
  | _ => false

/-- A session's PREPARE or WRITE withdrawn, if still pending; while its exchange is in flight the withdrawal takes
effect at the exchange's end (R115). -/
def withdraw (s : State) (n : Node) : State :=
  match (nodeOf s n).command with
  | none => s
  | some c =>
    if isSessionCommand c then
      if flightFate (lineOf s n.line) n.addr = some .live then
        setLine s n.line
          { lineOf s n.line with exchange := (lineOf s n.line).exchange.map (markFlight n.addr .withdrawn) }
      else setLine s n.line (dropCommand (lineOf s n.line) n.addr .withdrawn)
    else s

/-! ### Sessions -/

/-- The room record of a context's stay (R61). -/
def ctxRoom (s : State) (c : IssueCtx) : Option Slot := if isGuest c then findRoom s c.stay.room else none

/-- Generations of the room after the closing operation, for the record of a GUEST session (R118); 0 for a generation
not composed or a room no slot holds (log 18). -/
def ctxGens (s : State) (c : IssueCtx) : Option (Gen × Gen × Gen) :=
  if isGuest c then
    match findRoom s c.stay.room with
    | some i => some (c.gen.getD 0, (dynOf s i).accepted, (dynOf s i).issued)
    | none => some (c.gen.getD 0, 0, 0)
  else none

/-- The record kind of an outcome (R118). -/
def outcomeKind : SessionOutcome → RecordKind
  | .done => .issueDone
  | .void => .issueVoid
  | .failed _ _ => .issueFailed

/-- The reason and burn flag of a FAILED outcome (R118). -/
def outcomeFailure : SessionOutcome → Option (FailReason × Bool)
  | .done => none
  | .void => none
  | .failed r b => some (r, b)

/-- The end of a session: its record, its notice when `notify`, and the context FREE (R115, R118, R122). -/
def finishSession (s : State) (k : Fin 2) (out : SessionOutcome) (notify : Bool) : State :=
  let c := ctxOf s k
  let s1 := appendRecord s
    { stampedRecord s (outcomeKind out) with
      node := some (.node c.node), serial := c.serial, room := if isGuest c then some c.stay.room else none,
      cls := some c.stay.cls, detail := .issue (ctxGens s c) (outcomeFailure out) }
  let s2 :=
    if notify then
      pushNotice s1 (.issueResult c.tag k out c.serial (if isGuest c then c.gen else none))
    else s1
  setCtx s2 k .free

/-- R103: accepted advances if the span is 16, and issued becomes g. -/
def raiseGen (d : RoomDyn) (g : Gen) : RoomDyn :=
  { d with accepted := if d.issued - d.accepted + 1 = 16 then d.accepted + 1 else d.accepted, issued := g }

/-- The issue-in-flight marker cleared. -/
def clearMarker (d : RoomDyn) : RoomDyn := { d with marker := none }

/-- The commit of a GUEST NEW session (R109, steps 1 and 2). Where a load has moved the room's issued generation since
the composition, so that g no longer follows it, the generations, occupancy and tally loaded stand (log 16). -/
def commitNew (s : State) (i : Slot) (g : Gen) : State :=
  let d := dynOf s i
  if g = d.issued + 1 then
    let s1 := setDyn s i { raiseGen d g with occupied := true }
    if d.occupied then s1
    else
      match partOf s1 i with
      | none => s1
      | some m => setPart s1 i (some (recomputeKeeping s1 i { m with tally := 0 }))
  else s

/-- A VOID commit (R111): the room stays VACANT with span 0. Whatever a load has given the room since the outcome was
decided is overwritten (log 44). -/
def commitVoid (d : RoomDyn) (g : Gen) : RoomDyn := { d with issued := g, accepted := g + 1, occupied := false }

/-- A burn (R114, steps 1 and 2), with the proviso of `commitNew` (log 16). With the VOID flag set, or on a VACANT room,
g is put out of reach and the room is VACANT (log 17). -/
def burned (d : RoomDyn) (g : Gen) (void : Bool) : RoomDyn :=
  if g = d.issued + 1 then
    if !d.occupied || void then { raiseGen d g with accepted := g + 1, occupied := false } else raiseGen d g
  else d

/-- The deny entry of the serial a commit wrote removed, with its DENY record (R110, R133). -/
def undeny (s : State) (serial : Option Serial) : State :=
  match serial with
  | none => s
  | some x =>
    match denyFind s.store.deny x with
    | none => s
    | some e => appendDeny (setDeny s (denyErase s.store.deny x)) x .issue (some e.expiry)

/-- The issue-in-flight marker of a room record cleared. -/
def unmark (s : State) (i : Slot) : State := setDyn s i (clearMarker (dynOf s i))

/-- The outcome a closing operation gives: DONE becomes VOID when the VOID flag is set (R109, R111). -/
def finalOutcome (c : IssueCtx) (out : SessionOutcome) : SessionOutcome :=
  match out with
  | .done => if c.void then .void else .done
  | .void => .void
  | .failed r b => .failed r b

/-- A dynamic part under a VOID commit; unchanged where no generation was composed (R111). -/
def voidedPart (d : RoomDyn) : Option Gen → RoomDyn
  | some g => commitVoid d g
  | none => d

/-- A dynamic part under a burn, if the outcome burns (R114). -/
def burnedPart (d : RoomDyn) (burn void : Bool) : Option Gen → RoomDyn
  | some g => if burn then burned d g void else d
  | none => d

/-- The generation of a GUEST NEW commit, none for a DUPLICATE, which changes no generation (R109). -/
def committedGen (c : IssueCtx) : Option Gen := if c.duplicate then none else c.gen

/-- A commit with outcome DONE: the room's generations, then the deny entry, then the marker (R109, R110). -/
def closeDone (s : State) (c : IssueCtx) : State :=
  match ctxRoom s c with
  | none => undeny s c.serial
  | some i =>
    let s1 := match committedGen c with
      | some g => commitNew s i g
      | none => s
    unmark (undeny s1 c.serial) i

/-- A commit with outcome VOID (R111). -/
def closeVoid (s : State) (c : IssueCtx) : State :=
  match ctxRoom s c with
  | none => s
  | some i => setDyn s i (clearMarker (voidedPart (dynOf s i) c.gen))

/-- The closing of a FAILED session (R113, R114). -/
def closeFailed (s : State) (c : IssueCtx) (burn : Bool) : State :=
  match ctxRoom s c with
  | none => s
  | some i => setDyn s i (clearMarker (burnedPart (dynOf s i) burn c.void c.gen))

/-- What a closing operation does to the room record and the deny list (R109 to R111, R113, R114). -/
def closeEffects (s : State) (c : IssueCtx) : SessionOutcome → State
  | .done => closeDone s c
  | .void => closeVoid s c
  | .failed _ burn => closeFailed s c burn

/-- A closing operation (R115). -/
def closeSession (s : State) (k : Fin 2) (notify : Bool) : State :=
  let c := ctxOf s k
  match c.outcome with
  | none => s
  | some out =>
    let final := finalOutcome c out
    finishSession (closeEffects s c final) k final notify

/-- The outcome of a session that ends without WRITTEN (R113, R114). -/
def failOutcome (c : IssueCtx) (r : FailReason) : SessionOutcome :=
  .failed r (c.state = .writing && isGuest c && !c.duplicate && decide (r ≠ .roomChanged))

/-- Work of the Issue Unit with a composition withdrawn (R107). -/
def withoutComposition (w : List IssueWork) (k : Fin 2) : List IssueWork :=
  w.filter fun x => !(x = .composition k)

/-- The first cause to reach an open context decides its outcome (R112, R115): the timeout is cancelled unless it was
the cause, the pending PREPARE or WRITE is withdrawn, a held BLANK is discarded, and the closing operation is asked for
where one is needed (GUEST), or the session ends at once. -/
def endSession (s : State) (k : Fin 2) (r : FailReason) : State :=
  let c := ctxOf s k
  if isOpen c && c.outcome.isNone then
    let out := failOutcome c r
    let s1 := if r = .timeout then s else cancel s c.node .issueTimeout
    let s2 := withdraw s1 c.node
    let s3 := setCtx s2 k { c with outcome := some out, heldBlank := none }
    let s4 := s3.withIssue { s3.issue with work := withoutComposition s3.issue.work k }
    if isGuest c then s4.withIssue { s4.issue with work := s4.issue.work ++ [.closing k] }
    else finishSession s4 k out true
  else s

/-- The session open on an encoder node, if one is, ended (R112). -/
def endNodeSession (s : State) (n : Node) (r : FailReason) : State :=
  match ctxOfNode s n with
  | none => s
  | some k => endSession s k r

/-- The session open for a room, if one is, ended (R112). -/
def endRoomSession (s : State) (room : Half) (r : FailReason) : State :=
  match ctxOfRoom s room with
  | none => s
  | some k => endSession s k r

/-- A dropped PREPARE or WRITE handed to the Issue Unit (R112): a PREPARE dropped while WRITING is ignored. -/
def issueDrop (s : State) (n : Node) (c : Command) : State :=
  match ctxOfNode s n with
  | none => s
  | some k =>
    match c, (ctxOf s k).state with
    | .prepare, .awaitBlank => endSession s k .encoderUnreachable
    | .write _, .writing => endSession s k .encoderUnreachable
    | _, _ => s

/-! ### Queuing a command (R41 to R43) -/

/-- A newer command does not replace the pending one (R42). -/
def keepsPending (old new : Command) : Bool :=
  match old with
  | .holdOpen => decide (new ≠ .releaseEnd)
  | .grant _ => decide (new = .busy)
  | .refuse _ => decide (new = .busy)
  | _ => false

/-- The end-hold duty after a replacement (R43). -/
def dutyAfter (old new : Command) (duty : Bool) : Bool :=
  decide (new ≠ .holdOpen) && (duty || decide (old = .releaseEnd))

/-- A PASS is taken only on a TRANSPARENT line (R41). -/
def passTaken (m : LineMode) : Command → Bool
  | .pass _ => decide (m = .transparent)
  | _ => true

/-- A command queued for a node (R41, R42), also by an exchange or operation that completes once the part stops
(log 43). -/
def queueCommand (s : State) (n : Node) (c : Command) : State :=
  let line := lineOf s n.line
  let node := nodeOf s n
  if configured (doorOf s n) && passTaken line.mode c then
    match node.command with
    | none =>
      setLine s n.line
        { (line.withNode n.addr { node with command := some c, attempts := 0, duty := false }) with
          fifo := line.fifo.filter (fun b => !(b = n.addr)) ++ [n.addr] }
    | some old =>
      if keepsPending old c then s
      else
        let s1 := setLine s n.line
          { (line.withNode n.addr
              { node with command := some c, attempts := 0, duty := dutyAfter old c node.duty }) with
            exchange := line.exchange.map (markFlight n.addr .replaced) }
        if isSessionCommand old && decide (flightFate line n.addr ≠ some .withdrawn) then issueDrop s1 n old
        else s1
  else s

end Sys2Proof.Machine
end

