-- ==== Sys2Proof/Machine/DoorOps.lean ====
section
/-!
DEFINITION. The Door Tracker (R89 to R96): contact and deadbolt reports, accepted commands, privacy; and the Override
Unit's change of effective level with its effects (R49 to R51, R98, R100, R101), which reach the doors and the lines.
-/

namespace Sys2Proof.Machine

/-! ### Contact and acceptance -/

/-- HELD armed for the held limit of the node's door class (R91). -/
def armHeld (s : State) (n : Node) : State := arm s n .held ((doorClass s n).heldLimit.setWidth 32)

/-- The door state set. -/
def setDoorState (s : State) (n : Node) (d : DoorState) : State := setTrack s n { trackOf s n with state := d }

/-- The contact set. -/
def setContact (s : State) (n : Node) (v : Bool) : State := setTrack s n { trackOf s n with contact := some v }

/-- UNLOCKED if RELOCK is pending, else LOCKED (R92). -/
def closedState (s : State) (n : Node) : DoorState := if armed s n .relock then .unlocked else .locked

/-- A report of the contact open (R91). -/
def contactOpen (s : State) (n : Node) : State :=
  let s1 := setContact s n true
  match (trackOf s n).state with
  | .unknown => armHeld (setDoorState s1 n .opened) n
  | .locked => pushNotice (appendNode (setDoorState s1 n .forced) .doorForced n .absent) (.doorForced n)
  | .unlocked => armHeld (setDoorState s1 n .opened) n
  | .opened => s1
  | .held => s1
  | .forced => s1
  | .released => s1

/-- A report of the contact closed (R92). -/
def contactClosed (s : State) (n : Node) : State :=
  let s1 := setContact s n false
  match (trackOf s n).state with
  | .unknown => setDoorState s1 n .locked
  | .locked => s1
  | .unlocked => s1
  | .opened => setDoorState (cancel s1 n .held) n (closedState s n)
  | .held => setDoorState (appendNode s1 .doorSecured n .absent) n (closedState s n)
  | .forced => setDoorState (appendNode s1 .doorSecured n .absent) n (closedState s n)
  | .released => s1

/-- A contact report (R91, R92). -/
def contactReport (s : State) (n : Node) (isOpen : Bool) : State := if isOpen then contactOpen s n else contactClosed s n

/-- RELOCK armed for the open time of the node's door class (R90). -/
def armRelock (s : State) (n : Node) : State := arm s n .relock ((doorClass s n).openTime.setWidth 32)

/-- GRANT accepted at a door node (R90). -/
def grantAccepted (s : State) (n : Node) : State :=
  match (trackOf s n).state with
  | .unknown => armRelock (setDoorState s n .unlocked) n
  | .locked => armRelock (setDoorState s n .unlocked) n
  | .unlocked => armRelock s n
  | .opened => armRelock s n
  | .held => armRelock s n
  | .forced => armRelock s n
  | .released => s

/-- HOLD_OPEN accepted at a door node (R95). -/
def holdOpenAccepted (s : State) (n : Node) : State :=
  setDoorState (cancel (cancel s n .relock) n .held) n .released

/-- RELEASE_END accepted at a door node (R95). -/
def releaseEndAccepted (s : State) (n : Node) : State :=
  if (trackOf s n).state = .released then
    match (trackOf s n).contact with
    | none => setDoorState s n .unknown
    | some false => setDoorState s n .locked
    | some true => armHeld (setDoorState s n .opened) n
  else s

/-- An acceptance handed to the Door Tracker (R44). -/
def acceptedByDoor (s : State) (n : Node) : Command → State
  | .grant _ => grantAccepted s n
  | .holdOpen => holdOpenAccepted s n
  | .releaseEnd => releaseEndAccepted s n
  | _ => s

/-! ### Deadbolt and privacy (R96) -/

/-- A room is in privacy when a ROOM_DOOR node whose DOOR entry names it has its deadbolt thrown. -/
def derivedPrivacy (s : State) (room : Half) : Bool :=
  slots.any fun i => (doorAt s i).kind = .roomDoor && (doorAt s i).room = room && (look s.tracker.doors i).deadbolt

/-- A write added at the tail, or replacing the value and node of the room's waiting write in its place. -/
def mergeWrite (w : PrivacyWrite) : List PrivacyWrite → List PrivacyWrite
  | [] => [w]
  | x :: xs => if x.room = w.room then w :: xs else x :: mergeWrite w xs

/-- A derivation of a room's privacy; for a number that names no slot it changes nothing. -/
def derivePrivacy (s : State) (room : Half) (n : Option Node) : State :=
  if (findRoom s room).isSome then
    s.withTracker { s.tracker with
      writes := mergeWrite { room := room, node := n, value := derivedPrivacy s room } s.tracker.writes }
  else s

/-- A deadbolt report from a ROOM_DOOR node. -/
def deadboltReport (s : State) (n : Node) (thrown : Bool) : State :=
  derivePrivacy (setTrack s n { trackOf s n with deadbolt := thrown }) (doorOf s n).room (some n)

/-- A pending privacy write carried out. -/
def applyPrivacy (s : State) (w : PrivacyWrite) : State :=
  match findRoom s w.room with
  | none => s
  | some i =>
    if (dynOf s i).privacy = w.value then s
    else
      appendRecord (setDyn s i { dynOf s i with privacy := w.value })
        { stampedRecord s .privacy with
          node := w.node.map .node, room := some w.room, detail := .privacy w.value }

/-! ### Entering and leaving line modes (R49, R50) -/

/-- Every node of a line, ascending. -/
def lineNodes (l : LineNo) : List Node := addrs.map fun a => { line := l, addr := a }

/-- A node's presentation waiting in the decision queue removed (R49, R72). -/
def unqueue (s : State) (n : Node) : State := s.withQueue (s.queue.filter fun p => !(p.node = n))

/-- What entering TRANSPARENT or HELD does to one node (R49). -/
def entryEffect (s : State) (n : Node) : State :=
  let s1 := unqueue s n
  let s2 :=
    if (nodeOf s1 n).command = some .holdOpen then s1
    else setLine s1 n.line (dropCommand (lineOf s1 n.line) n.addr .dropped)
  let s3 := cancelNode s2 n
  match (doorOf s3 n).kind with
  | .roomDoor => setTrack s3 n { trackOf s3 n with state := .unknown, contact := none }
  | .commonGate => setTrack s3 n { trackOf s3 n with state := .unknown, contact := none }
  | .minibar => addMinibarWork s3 (.forced (.lineMode n))
  | .encoder => endNodeSession s3 n .lineMode
  | .unused => s3

/-- Entering TRANSPARENT or HELD (R49). -/
def entryEffects (s : State) (l : LineNo) : State := (lineNodes l).foldl entryEffect s

/-- A command is a PASS. -/
def isPass : Command → Bool
  | .pass _ => true
  | _ => false

/-- The pending PASS of a node dropped (R50). -/
def dropPass (c : LineCtl) (a : Addr) : LineCtl :=
  match (look c.nodes a).command with
  | some x => if isPass x then dropCommand c a .dropped else c
  | none => c

/-- The sweep set loaded with every configured node of a line (R34, R50, R54). -/
def loadSweep (s : State) (l : LineNo) : State :=
  setLine s l
    { lineOf s l with
      nodes := tabulate fun a =>
        { look (lineOf s l).nodes a with inSweep := configured (doorOf s { line := l, addr := a }) } }

/-- The mode of a line changed, with its LINE_MODE record (R45). -/
def changeMode (s : State) (l : LineNo) (m : LineMode) (broken : Bool) : State :=
  appendLine (setLine s l { lineOf s l with mode := m }) .lineMode l (.lineMode m broken)

/-- Slot choice restarted: the previous slot kind is none (R50). -/
def restartChoice (s : State) (l : LineNo) : State := setLine s l { lineOf s l with prevSlot := none }

/-- The return effects on leaving TRANSPARENT or HELD for DECIDE (R50); PASS commands are dropped when the mode left
is TRANSPARENT. -/
def returnEffects (s : State) (l : LineNo) (fromTransparent : Bool) : State :=
  let s1 := if fromTransparent then setLine s l (addrs.foldl dropPass (lineOf s l)) else s
  restartChoice (loadSweep s1 l) l

/-- A line HOLDING or HELD taken back by RELEASE: the broken flag and the HOLD_BROKEN notice (R51). -/
def breakHold (s : State) (l : LineNo) : State := pushNotice (changeMode s l .decide true) (.holdBroken l)

/-- The LINE_MODE request waiting for HELD answered (R48, R51). -/
def answerWaiting (s : State) (l : LineNo) (a : Answer) : State :=
  match (lineOf s l).waitingTag with
  | none => s
  | some tag => fillReply (setLine s l { lineOf s l with waitingTag := none }) tag 14 a

/-- A line's answer to the effective level becoming RELEASE (R51). -/
def releaseLine (s : State) (l : LineNo) : State :=
  match (lineOf s l).mode with
  | .decide => s
  | .transparent => changeMode (returnEffects s l true) l .decide false
  | .holding fromTransparent =>
    let s1 := if fromTransparent then returnEffects s l true else s
    breakHold (answerWaiting s1 l (.refused .phase)) l
  | .held => breakHold (returnEffects s l false) l

/-! ### Effective level (R98, R100, R101) -/

/-- A command queued for every door node, line by line in ascending address (R100, R101). -/
def queueDoors (s : State) (c : Command) : State :=
  (slots.filter fun i => isDoor (doorAt s i)).foldl (fun t i => queueCommand t (nodeAt i) c) s

/-- The effective level becomes RELEASE (R100). -/
def enterRelease (s : State) : State := queueDoors (lineNos.foldl releaseLine (cancelDoors s)) .holdOpen

/-- The effective level leaves RELEASE (R101). -/
def leaveRelease (s : State) : State := queueDoors s .releaseEnd

/-- The effective level that the pin state and the requested level give (R98). -/
def levelNow (o : OverrideUnit) : Level := if o.pinAsserted then .release else o.requested

/-- The effective level recomputed, with the record, the notice and the effects of a change (R98). -/
def recomputeLevel (s : State) : State :=
  let before := s.override.effective
  let now := levelNow s.override
  if now = before then s
  else
    let s1 := appendPlain s .override (.levels before now)
    let s2 := pushNotice s1 (.override now)
    let s3 := s2.withOverride { s2.override with effective := now }
    let s4 := if before = .release then leaveRelease s3 else s3
    if now = .release then enterRelease s4 else s4

end Sys2Proof.Machine
end

