-- ==== Sys2Proof/Machine/Formats.lean ====
section
/-!
DEFINITION. Everything the part writes as bytes (13_card_line_and_trunk_formats.md): grants (R209), the frames of a
door line (R210), trunk frames and their bodies (R211), journal records and the status record (R212).
-/

namespace Sys2Proof.Machine

/-! ### Fields -/

/-- A one-byte field. -/
def byteOf (n : Nat) : Byte := BitVec.ofNat 8 n

/-- A flag: 0 off, 1 on (R211). -/
def flagByte (b : Bool) : Byte := if b then 1 else 0

/-- Two bytes, most significant first. -/
def be2 (v : Half) : List Byte := [v.extractLsb' 8 8, v.extractLsb' 0 8]

/-- Three bytes, most significant first. -/
def be3 (v : Minute) : List Byte := [v.extractLsb' 16 8, v.extractLsb' 8 8, v.extractLsb' 0 8]

/-- Four bytes, most significant first. -/
def be4 (v : Serial) : List Byte :=
  [v.extractLsb' 24 8, v.extractLsb' 16 8, v.extractLsb' 8 8, v.extractLsb' 0 8]

/-- A count or index in two bytes. -/
def num2 (n : Nat) : List Byte := be2 (BitVec.ofNat 16 n)

/-- A node byte (R211). -/
def nodeByte (n : Node) : Byte := byteOf (n.line.val * 32 + n.addr.val)

/-- A node byte whose node may be absent: bit 7 set (R211). -/
def optNodeByte : Option Node → Byte
  | some n => nodeByte n
  | none => 0x80

/-- A record's node byte: for a line record, the line with the address absent (R157, R211). -/
def nodeRefByte : NodeRef → Byte
  | .node n => nodeByte n
  | .line l => byteOf (0x80 + l.val * 32)

/-- A grant in 19 bytes (R209). -/
def grantBytes (g : Grant) : List Byte :=
  be4 g.serial ++ [g.cls, g.gen] ++ be2 g.room ++ be3 g.start ++ be3 g.finish ++ be2 g.zones ++ [g.options] ++
    be2 g.check

/-! ### Codes -/

/-- Refusal reasons 1 to 16 (R211). -/
def reasonCode : Reason → Byte
  | .misread => 1
  | .revoked => 2
  | .cls => 3
  | .lockdown => 4
  | .notYet => 5
  | .expired => 6
  | .room => 7
  | .zone => 8
  | .hours => 9
  | .vacant => 10
  | .genOld => 11
  | .genFuture => 12
  | .privacy => 13
  | .option => 14
  | .capped => 15
  | .inUse => 16

/-- Reasons of REFUSED, and of a LOAD's first refusal (R211). -/
def refuseCode : RefuseReason → Byte
  | .full => 1
  | .room => 2
  | .vacant => 3
  | .encoder => 4
  | .phase => 5
  | .range => 6
  | .duplicate => 7

/-- Levels (R211). -/
def levelCode : Level → Byte
  | .normal => 0
  | .lockdown => 1
  | .release => 2

/-- Line modes (R211). -/
def modeCode : LineMode → Byte
  | .decide => 0
  | .transparent => 1
  | .holding _ => 2
  | .held => 3

/-- Phases (R211); no frame is sent in SHUTDOWN. -/
def phaseCode : Phase → Byte
  | .resetting => 0
  | .checking => 1
  | .awaitLoad => 2
  | .run => 3
  | .shutdown => 4

/-- Clock conditions (R212). -/
def condCode : ClockCond → Byte
  | .unset => 0
  | .set => 1
  | .saturated => 2

/-- Issue failure reasons (R211). -/
def failCode : FailReason → Byte
  | .timeout => 0
  | .cancelled => 1
  | .writeFailed => 2
  | .lineMode => 3
  | .encoderSilent => 4
  | .encoderUnreachable => 5
  | .checkout => 6
  | .roomChanged => 7
  | .restart => 8
  | .shutdown => 9

/-- DENY indications, in the order of R157 (log 34). -/
def denyCode : DenyIndication → Byte
  | .added => 0
  | .extended => 1
  | .kept => 2
  | .full => 3
  | .removed => 4
  | .absent => 5
  | .pruned => 6
  | .issue => 7

/-- Wires, in the order of R157 (log 34). -/
def wireCode : Wire → Byte
  | .clock => 0
  | .data => 1

/-- Start causes, in the order of 12_start_up_retention_and_supply_failure.md (log 34). -/
def causeCode : StartCause → Byte
  | .powerOn => 0
  | .pin => 1
  | .warm => 2
  | .cold => 3

/-- Minibar states (R211). -/
def minibarCode : MinibarState → Byte
  | .locked => 0
  | .guest => 1
  | .openGuest => 2
  | .capped => 3
  | .restock => 4

/-- Context states (R212). -/
def ctxCode : CtxState → Nat
  | .free => 0
  | .awaitBlank => 1
  | .writing => 2

/-- Tables (R211). -/
def tableCode : TableId → Byte
  | .config => 1
  | .door => 2
  | .room => 3
  | .zone => 4
  | .profile => 5
  | .cls => 6
  | .price => 7

/-- Journal record kinds, 01H to 1BH in the order of R157 (R212). -/
def kindCode : RecordKind → Byte
  | .entry => 0x01
  | .supersede => 0x02
  | .doorForced => 0x03
  | .doorHeld => 0x04
  | .doorSecured => 0x05
  | .privacy => 0x06
  | .minibarOpen => 0x07
  | .minibarRemove => 0x08
  | .minibarCharge => 0x09
  | .minibarReturn => 0x0A
  | .minibarCapped => 0x0B
  | .restock => 0x0C
  | .settle => 0x0D
  | .issueDone => 0x0E
  | .issueVoid => 0x0F
  | .issueFailed => 0x10
  | .checkout => 0x11
  | .deny => 0x12
  | .nodeSilent => 0x13
  | .nodeBack => 0x14
  | .lineStuck => 0x15
  | .lineFree => 0x16
  | .lineMode => 0x17
  | .override => 0x18
  | .clockSet => 0x19
  | .restart => 0x1A
  | .gap => 0x1B

/-! ### Door line frames (R28, R210) -/

/-- A frame's characters with its check character (R28). -/
def withLineCheck (chars : List Byte) : List Byte := chars ++ [byteOf (255 - byteSum chars % 256)]

/-- First character of a concentrator frame: kind in bits 7-5, address in bits 4-0 (R210). -/
def firstChar (kind : Nat) (a : Addr) : Byte := byteOf (kind * 32 + a.val)

/-- A POLL frame. -/
def pollFrame (a : Addr) : List Byte := withLineCheck [firstChar 1 a]

/-- A CALL frame; it carries address 0. -/
def callFrame : List Byte := withLineCheck [firstChar 2 0]

/-- A COMMAND frame; a PASS is its own characters (R41, R210). -/
def commandFrame (a : Addr) : Command → List Byte
  | .grant t => withLineCheck [firstChar 3 a, 1, t]
  | .refuse r => withLineCheck [firstChar 3 a, 2, reasonCode r]
  | .defer => withLineCheck [firstChar 3 a, 3]
  | .busy => withLineCheck [firstChar 3 a, 4]
  | .holdOpen => withLineCheck [firstChar 3 a, 5]
  | .releaseEnd => withLineCheck [firstChar 3 a, 6]
  | .prepare => withLineCheck [firstChar 3 a, 7]
  | .write g => withLineCheck (firstChar 3 a :: 8 :: grantBytes g)
  | .pass chars => withLineCheck chars

/-! ### Table entries as READ_ENTRIES returns them (R180, R211) -/

/-- Bit rate codes (R211). -/
def rateCode : BitRate → Byte
  | .r9600 => 1
  | .r19200 => 2
  | .r38400 => 3

/-- Node kind codes (R211). -/
def nodeKindCode : NodeKind → Byte
  | .unused => 0
  | .roomDoor => 1
  | .commonGate => 2
  | .minibar => 3
  | .encoder => 4

/-- A CONFIG entry in 11 bytes. -/
def configBytes (e : ConfigEntry) : List Byte :=
  be2 e.siteCode ++ be2 e.grace ++ be2 e.returnWindow ++ [e.stretch] ++ e.rates.toList.map rateCode

/-- A DOOR entry in 5 bytes. -/
def doorBytes (e : DoorEntry) : List Byte :=
  [nodeKindCode e.kind] ++ be2 e.room ++ [byteOf e.zone.val, byteOf e.cls.val]

/-- A window in 4 bytes. -/
def windowBytes (w : Window) : List Byte := be2 w.openAt ++ be2 w.closeAt

/-- A PROFILE entry in 6 bytes. -/
def profileBytes (e : ProfileEntry) : List Byte :=
  [e.weekdays.setWidth 8] ++ windowBytes e.shift ++ [flagByte e.lockdownAccess]

/-- A CLASS entry in 3 bytes. -/
def classBytes (e : ClassEntry) : List Byte := [e.openTime] ++ be2 e.heldLimit

/-- The tally of a room record, 0 without a minibar part. -/
def tallyOf (d : RoomDyn) : Half := (d.minibar.map (·.tally)).getD 0

/-- A ROOM entry in 23 bytes: the LOAD layout with the restore part holding the current values, then privacy, issue
marker, minibar state and the number of pending charges. The privacy byte is a flag, 1 in privacy (log 55). -/
def roomBytes (st : RoomStatic) (d : RoomDyn) : List Byte :=
  be2 st.number ++ [optNodeByte st.minibarNode] ++ be2 st.limit ++ st.prices.toList.map (fun p => byteOf p.val) ++
    [1, flagByte d.occupied, d.accepted, d.issued] ++ be2 (tallyOf d) ++
    [flagByte d.privacy, (d.marker.map fun k => byteOf k.val).getD 0xFF,
      (d.minibar.map fun m => minibarCode m.state).getD 0xFF,
      byteOf ((d.minibar.map fun m => m.charges.length).getD 0)]

/-- A deny list entry in 7 bytes. -/
def denyBytes (e : DenyEntry) : List Byte := be4 e.serial ++ be3 e.expiry

/-! ### Journal records (R212) -/

/-- The detail fields of a record; none when the detail is absent. A DENY record's indication stands before its expiry,
and a GUEST ISSUE_FAILED record's generations before its reason and burn flag (log 46). A PRIVACY record's value is a flag,
1 in privacy (log 55). -/
def detailBytes : Detail → Option (List Byte)
  | .absent => none
  | .entry c a => some [c, a]
  | .supersede b a => some [b, a]
  | .privacy v => some [flagByte v]
  | .removal c a u => some ([byteOf c.val] ++ be2 a ++ [flagByte u])
  | .charge c a u t => some ([byteOf c.val] ++ be2 a ++ [flagByte u] ++ be2 t)
  | .refund c a => some ([byteOf c.val] ++ be2 a)
  | .capped t l => some (be2 t ++ be2 l)
  | .restockBegin => some [0]
  | .restockEnd n => some [1, byteOf n]
  | .settle a => some (be2 a)
  | .issue gens failed =>
    let g := match gens with
      | some (g, a, i) => [g, a, i]
      | none => []
    let f := match failed with
      | some (r, b) => [failCode r, flagByte b]
      | none => []
    if (g ++ f).isEmpty then none else some (g ++ f)
  | .checkout t b a => some (be2 t ++ [b, a])
  | .deny i e => some ([denyCode i] ++ (match e with | some m => be3 m | none => []))
  | .wire w => some [wireCode w]
  | .lineMode m b => some [modeCode m, flagByte b]
  | .levels b a => some [levelCode b, levelCode a]
  | .requested l => some [levelCode l]
  | .clock c => some [condCode c]
  | .restart c kept => some [causeCode c, if kept then 0 else 1]
  | .gap n => some (num2 n)

/-- Outcome and reason of an ENTRY record (R212). -/
def outcomeBytes : DecisionOutcome → List Byte
  | .grant => [1, 0]
  | .grantRelease => [2, 0]
  | .refuse r => [3, reasonCode r]

/-- A field, with its presence bit. -/
def present (bit : Nat) (bytes : Option (List Byte)) : Nat × List Byte :=
  match bytes with
  | some b => (2 ^ bit, b)
  | none => (0, [])

/-- A record as it is pushed. -/
def recordBytes (r : Record) : List Byte :=
  let fields : List (Nat × List Byte) :=
    [present 0 (r.node.map fun n => [nodeRefByte n]),
     present 1 (r.serial.map be4),
     present 2 (r.room.map be2),
     present 3 (r.cls.map fun c => [c]),
     present 4 (r.outcome.map outcomeBytes),
     present 5 ((detailBytes r.detail).map fun d => byteOf d.length :: d)]
  [kindCode r.kind, byteOf (fields.map Prod.fst).sum] ++ be3 r.minute ++ [byteOf r.second.val] ++
    (fields.map Prod.snd).flatten

/-! ### Trunk frames (R182, R183, R211) -/

/-- A frame as sent: header, body and check. -/
def frameBytes (f : Frame) : List Byte :=
  let hb := [frameCode f.kind, f.dest, f.source, f.tag, byteOf f.body.length] ++ f.body
  hb ++ num2 (65535 - byteSum hb % 65536)

/-- The destination of an upward frame, the property controller, and of a broadcast (R182). -/
def controller : Byte := 31

/-- An upward frame of this part (R182). -/
def upFrame (s : State) (kind : FrameKind) (tag : Byte) (body : List Byte) : Frame :=
  { kind := kind, dest := controller, source := byteOf ((s.trunk.chain.map Fin.val).getD 31), tag := tag, body := body }

/-- Body of a REPLY (R194, R211). -/
def replyBody (r : Reply) : List Byte :=
  r.code :: (match r.answer with
    | .done fields => 1 :: fields
    | .accepted c => [2, c]
    | .busy => [3]
    | .refused why => [4, refuseCode why])

/-- Body of a NOTICE (R196, R211): fields its case does not use are 0 (log 31). -/
def noticeBody (n : Notice) : List Byte :=
  let head (code : Byte) := [code] ++ be3 n.minute ++ [byteOf n.second.val]
  match n.body with
  | .doorForced m => head 1 ++ [nodeByte m]
  | .doorHeld m => head 2 ++ [nodeByte m]
  | .nodeSilent m => head 3 ++ [nodeByte m]
  | .lineStuck l w => head 4 ++ [byteOf l.val, wireCode w]
  | .holdBroken l => head 5 ++ [byteOf l.val]
  | .issueResult tag k out serial g =>
    head 6 ++ [tag, byteOf k.val] ++
      (match out with
        | .done => [0, 0, 0]
        | .void => [1, 0, 0]
        | .failed r b => [2, failCode r, flagByte b]) ++
      be4 (serial.getD 0) ++ [g.getD 0]
  | .override l => head 7 ++ [levelCode l]
  | .phase p => head 8 ++ [phaseCode p]

/-- A reply or pass-up frame as sent (R194, R197). -/
def outFrameBytes (s : State) : OutFrame → List Byte
  | .reply r => frameBytes (upFrame s .reply r.tag (replyBody r))
  | .passUp l a chars => frameBytes (upFrame s .passUp 0 (byteOf l.val :: byteOf a.val :: chars))

/-- A NOTICE frame as sent (R196). -/
def noticeBytes (s : State) (n : Notice) : List Byte := frameBytes (upFrame s .notice 0 (noticeBody n))

/-- A JOURNAL frame of a batch (R163, R211). -/
def journalBytes (s : State) (batch : List Record) : List Byte :=
  frameBytes (upFrame s .journal 0 (byteOf batch.length :: (batch.map recordBytes).flatten))

/-! ### Status record (R195, R212) -/

/-- A line's byte. -/
def lineByte (c : LineCtl) : Byte := byteOf ((modeCode c.mode).toNat + if c.stuck then 4 else 0)

/-- A context's two bytes; the node of a FREE context is sent as 0. -/
def ctxBytes (c : IssueCtx) : List Byte :=
  [byteOf (ctxCode c.state + if c.void then 4 else 0), if isOpen c then nodeByte c.node else 0]

/-- Last receive error code (R212). -/
def errorCode : ReceiveError → Byte
  | .none => 0
  | .check => 1
  | .length => 2

/-- The status record, 26 bytes. -/
def statusBytes (s : State) : List Byte :=
  [phaseCode s.startup.phase] ++ be3 s.time.clock.minute ++
    [byteOf s.time.clock.second.val, condCode s.time.clock.cond, levelCode s.override.effective,
      levelCode s.override.requested] ++
    s.lines.toList.map lineByte ++
    [byteOf s.queue.length, byteOf s.loader.buffer.length] ++ num2 s.store.denyCount ++
    num2 s.journal.records.length ++ [flagByte s.journal.push] ++
    (s.issue.ctxs.toList.map ctxBytes).flatten ++
    [flagByte s.trunk.downAbsent, byteOf ((s.trunk.chain.map Fin.val).getD 31), errorCode s.trunk.lastError]

end Sys2Proof.Machine
end

