-- ==== Sys2Proof/Machine/LineOps.lean ====
section
/-!
DEFINITION. The line controllers (03_door_lines.md): slot choice (R33, R34), exchanges and their ends (R28 to R31, R36,
R39, R40, R44), and what is handed on of an answer (R37, R38, R46), with the reports of encoders (R107 to R109) and the
decision queue that take it (R69, R70).
-/

namespace Sys2Proof.Machine

/-! ### Decision queue (R69, R70) -/

/-- How far back a capture lies from the tick counter (R69). -/
def age (tick : Tick) (p : Presentation) : Nat := (tick - p.capture.tick).toNat

/-- Insertion in capture order, after every entry captured as early (R69). -/
def insertPresentation (tick : Tick) (p : Presentation) : List Presentation → List Presentation
  | [] => [p]
  | q :: qs => if age tick p ≤ age tick q then q :: insertPresentation tick p qs else p :: q :: qs

/-- The node of the decision in hand (R71). -/
def decidingNode (s : State) : Option Node :=
  match s.port.inHand with
  | some (.decision p) => some p.node
  | _ => none

/-- A presentation handed to the Admission Engine (R70). -/
def handPresentation (s : State) (p : Presentation) : State :=
  if decidingNode s = some p.node then s
  else if s.queue.any (fun q => q.node = p.node) then
    s.withQueue (insertPresentation s.time.tick p (s.queue.filter fun q => !(q.node = p.node)))
  else if s.queue.length < Config.decisionQueueCap then
    s.withQueue (insertPresentation s.time.tick p s.queue)
  else queueCommand s p.node .busy

/-! ### Encoder reports (R107 to R109, R112) -/

/-- A BLANK report (R107, R108). -/
def blankReport (s : State) (n : Node) (serial : Serial) : State :=
  match ctxOfNode s n with
  | none => s
  | some k =>
    let c := ctxOf s k
    if c.state = .awaitBlank ∧ c.heldBlank = none ∧ c.outcome = none then
      let s1 := setCtx s k { c with heldBlank := some serial }
      s1.withIssue { s1.issue with work := s1.issue.work ++ [.composition k] }
    else s

/-- A WRITTEN report (R108, R109): the outcome is decided DONE and the closing operation asked for (R115). -/
def writtenReport (s : State) (n : Node) : State :=
  match ctxOfNode s n with
  | none => s
  | some k =>
    let c := ctxOf s k
    if c.state = .writing ∧ c.outcome = none then
      let s1 := setCtx (withdraw (cancel s n .issueTimeout) n) k { c with outcome := some .done }
      s1.withIssue { s1.issue with work := s1.issue.work ++ [.closing k] }
    else s

/-- A WRITE_FAILED report (R108): discarded while a BLANK is held. -/
def writeFailedReport (s : State) (n : Node) : State :=
  match ctxOfNode s n with
  | none => s
  | some k => if (ctxOf s k).heldBlank = none then endSession s k .writeFailed else s

/-- An encoder's status kept, and a change to FAULT handed to the Issue Unit (R37). -/
def encoderStatus (s : State) (n : Node) (status : Byte) : State :=
  let fault := decide (status ≠ 0)
  let changed := fault && decide ((nodeOf s n).faulty ≠ some true)
  let s1 := setNode s n { nodeOf s n with faulty := some fault }
  if changed then endNodeSession s1 n .encoderSilent else s1

/-! ### Minibar report items (R143) -/

/-- A waiting item of a node replaced in its place, or the item added last. -/
def mergeItem (n : Node) (first : Compartments) (second : Option Compartments) : List MinibarWork → List MinibarWork
  | [] => [.item n first second]
  | .item m a b :: ws =>
    if m = n then .item n first second :: ws else .item m a b :: mergeItem n first second ws
  | w :: ws => w :: mergeItem n first second ws

/-- The report item of a minibar's answer: the event's set, if any, then the status set where it differs. -/
def reportItem (s : State) (n : Node) (event : NodeEvent) (status : Compartments) : State :=
  match event with
  | .compartments set =>
    s.withMinibar (mergeItem n set (if status = set then none else some status) s.minibar)
  | _ => s.withMinibar (mergeItem n status none s.minibar)

/-! ### Handing an answer on (R37, R38, R46) -/

/-- The capture stamp of this moment (R7). -/
def captureNow (s : State) : Capture :=
  { minute := s.time.clock.minute, second := s.time.clock.second, tick := s.time.tick }

/-- A CONTACT event's level: 1 is open (R210); other codes are a free value (log 9). -/
def contactLevel (b : Byte) : Bool := if b = 0 then false else if b = 1 then true else Config.otherContact b

/-- A DEADBOLT event's level: 1 is thrown (R210); other codes are a free value (log 9). -/
def deadboltLevel (b : Byte) : Bool := if b = 0 then false else if b = 1 then true else Config.otherDeadbolt b

/-- The tamper indication of a door node's status (R210). -/
def tampered (status : Byte) : Bool := status.getLsbD 2

/-- A PRESENT event (R38): handed over in RUN, answered DEFER in the other phases. -/
def handPresent (s : State) (n : Node) (g : Grant) (stamp : Capture) : State :=
  if s.startup.phase = .run then handPresentation s { node := n, grant := g, capture := stamp }
  else queueCommand s n .defer

/-- A contact handed to the Door Tracker: open while the tamper indication is set (R37, log 15). -/
def handContact (s : State) (n : Node) (status : Byte) (level : Bool) : State :=
  contactReport s n (tampered status || level)

/-- An event handed by the kind of its node; one the kind does not list is discarded (R37). -/
def handEvent (s : State) (n : Node) (kind : NodeKind) (event : NodeEvent) (status : Byte) (stamp : Capture) : State :=
  match event with
  | .none => s
  | .present g => if kind = .unused then s else handPresent s n g stamp
  | .contact v =>
    if kind = .roomDoor ∨ kind = .commonGate then handContact s n status (contactLevel v) else s
  | .deadbolt v => if kind = .roomDoor then deadboltReport s n (deadboltLevel v) else s
  | .compartments _ => s
  | .blank serial => if kind = .encoder then blankReport s n serial else s
  | .written => if kind = .encoder then writtenReport s n else s
  | .writeFailed => if kind = .encoder then writeFailedReport s n else s

/-- A status handed by the kind of its node (R37); a minibar's goes with its event as one item (R143). -/
def handStatus (s : State) (n : Node) (kind : NodeKind) (event : NodeEvent) (status : Byte) : State :=
  match kind with
  | .roomDoor => deadboltReport (handContact s n status (status.getLsbD 0)) n (status.getLsbD 1)
  | .commonGate => handContact s n status (status.getLsbD 0)
  | .minibar => reportItem s n event status
  | .encoder => encoderStatus s n status
  | .unused => s

/-- An answer handed on: first its event, then its status (R37). `kind` is that of the entry the exchange began under (R34);
what a receiver reads for itself it reads from the entry now held (log 60). -/
def handAnswer (s : State) (n : Node) (kind : NodeKind) (event : NodeEvent) (status : Byte) (stamp : Capture) : State :=
  handStatus (handEvent s n kind event status stamp) n kind event status

/-- An answer placed whole in the pass-up queue, or discarded when it is full (R46, R197). -/
def passUp (s : State) (l : LineNo) (a : Addr) (chars : List Byte) : State :=
  if passUpCount s.trunk.outQueue < Config.fifoCap then
    s.withTrunk { s.trunk with outQueue := s.trunk.outQueue ++ [.passUp l a chars] }
  else s

/-! ### Presence (R39, R40) -/

/-- A good answer: the missed count is 0, and a SILENT node is back. -/
def goodAnswer (s : State) (n : Node) : State :=
  let node := nodeOf s n
  let s1 := setNode s n { node with missed := 0, silent := false }
  if node.silent then appendNode s1 .nodeBack n .absent else s1

/-- A missed count raised by one, up to 3. -/
def raisedMissed (m : Fin 4) : Fin 4 := if m = 3 then 3 else m + 1

/-- A missed answer: at 3 a PRESENT node becomes SILENT, with record and notice, and its session ends; NODE_SILENT stands before
that session's record (log 59). -/
def missedAnswer (s : State) (n : Node) : State :=
  let node := nodeOf s n
  let missed := raisedMissed node.missed
  let s1 := setNode s n { node with missed := missed }
  if missed = 3 ∧ node.silent = false then
    let s2 := setNode s1 n { nodeOf s1 n with silent := true }
    let s3 := pushNotice (appendNode s2 .nodeSilent n .absent) (.nodeSilent n)
    endNodeSession s3 n .encoderSilent
  else s1

/-! ### Slots (R32 to R34) -/

/-- A line may begin a slot (R32, R52, R54). -/
def lineRuns (s : State) (l : LineNo) : Bool :=
  s.working && ((lineOf s l).mode = .decide || (lineOf s l).mode = .transparent) && !(lineOf s l).stuck &&
    (lineOf s l).exchange.isNone

/-- The next slot of a line (R33). -/
inductive SlotChoice where
  | call
  | poll (a : Addr)
  | command (a : Addr)
  deriving DecidableEq, Repr

/-- The first address after the poll position, in the order of the rotation, that `p` holds for (R34). -/
def nextAddr (pos : Option Addr) (p : Addr → Bool) : Option Addr :=
  match pos with
  | none => addrs.find? p
  | some a => (addrs.filter (fun b => a < b) ++ addrs.filter fun b => b ≤ a).find? p

/-- The next node of the sweep (R34). -/
def nextSweep (c : LineCtl) : Option Addr := nextAddr c.pollPos fun a => (look c.nodes a).inSweep

/-- The next node of the rotation (R34). -/
def nextRotation (s : State) (l : LineNo) : Option Addr :=
  nextAddr (lineOf s l).pollPos fun a => configured (doorOf s { line := l, addr := a })

/-- The slot choice of R33. -/
def chooseSlot (s : State) (l : LineNo) : SlotChoice :=
  let c := lineOf s l
  if c.prevSlot ≠ some .call then .call
  else
    match nextSweep c with
    | some a => .poll a
    | none =>
      match c.fifo with
      | a :: _ => .command a
      | [] =>
        match nextRotation s l with
        | some a => .poll a
        | none => .call

/-- The bit rate of a line as its CONFIG entry gives it (R27). -/
def rateNow (s : State) (l : LineNo) : BitRate := look (configOf s).rates l

/-- An exchange beginning, at the rate and stretch limit now in force (R27, R31). -/
def newExchange (s : State) (l : LineNo) (kind : ExchangeKind) (frame : List Byte) : Exchange :=
  { kind := kind, frame := frame, rate := rateNow s l, stretch := (configOf s).stretch, stamp := none,
    restarted := false, stale := [] }

/-- A POLL of a node begins (R34). -/
def beginPoll (s : State) (l : LineNo) (a : Addr) : State :=
  let c := lineOf s l
  setLine s l
    { (c.withNode a { look c.nodes a with inSweep := false }) with
      pollPos := some a, prevSlot := some .poll, exchange := some (newExchange s l (.poll a) (pollFrame a)) }

/-- A CALL begins (R35). -/
def beginCall (s : State) (l : LineNo) : State :=
  setLine s l { lineOf s l with prevSlot := some .call, exchange := some (newExchange s l .call callFrame) }

/-- A COMMAND to a node begins (R44). -/
def beginCommand (s : State) (l : LineNo) (a : Addr) (c : Command) : State :=
  let line := lineOf s l
  setLine s l
    { line with
      prevSlot := some .command
      exchange := some (newExchange s l (.command a c (look line.nodes a).duty .live) (commandFrame a c)) }

/-! ### Ends of an exchange -/

/-- The exchange of a line over. -/
def endExchange (s : State) (l : LineNo) : State := setLine s l { lineOf s l with exchange := none }

/-- The DOOR entry an exchange with a node began under (R34); for the node that answers a CALL, the entry at the CALL's
beginning (log 49). -/
def doorDuring (s : State) (l : LineNo) (e : Exchange) (a : Addr) : DoorEntry :=
  match e.stale.find? (fun x => x.1 = a) with
  | some x => x.2
  | none => doorOf s { line := l, addr := a }

/-- An answer of this line is passed up raw: TRANSPARENT, or HOLDING entered from it (R46, R48). -/
def passesUp (m : LineMode) : Bool := m = .transparent || m = .holding true

/-- A missed answer counted for a configured node (R39). -/
def missIf (s : State) (n : Node) (d : DoorEntry) : State := if configured d then missedAnswer s n else s

/-- A good answer of a node, handed on under R37 and R38 or passed up under R46. A NODE_BACK record stands before the
records that the answer's event and status cause (log 57). -/
def takeAnswer (s : State) (l : LineNo) (d : DoorEntry) (ans : NodeAnswer) (event : NodeEvent) (stamp : Capture) :
    State :=
  let n : Node := { line := l, addr := ans.addr }
  let s1 := goodAnswer s n
  if passesUp (lineOf s l).mode then passUp s1 l ans.addr ans.chars
  else handAnswer s1 n d.kind event ans.status stamp

/-- The event an answer is taken with: in TRANSPARENT every delivered answer is good; in DECIDE and HOLDING one whose
length is not its event's is not, whatever mode HOLDING was entered from (R210). -/
def takenEvent (m : LineMode) (ans : NodeAnswer) : Option NodeEvent :=
  if m = .transparent then some (ans.event.getD .none) else ans.event

/-- The end of an answer in the window of exchange `e`: good, missed for a polled node, or nothing (R29, R32, R36,
R39). It has its whole effect once the part stops, too (R54, log 43). -/
def answerEnd (s : State) (l : LineNo) (e : Exchange) (chars : List Byte) : State :=
  let s1 := endExchange s l
  let stamp := e.stamp.getD (captureNow s)
  match e.kind with
  | .poll a =>
    let d := doorDuring s l e a
    match parseAnswer chars with
    | some ans =>
      match takenEvent (lineOf s l).mode ans with
      | some event =>
        if ans.addr = a then takeAnswer s1 l d ans event stamp else missIf s1 { line := l, addr := a } d
      | none => missIf s1 { line := l, addr := a } d
    | none => missIf s1 { line := l, addr := a } d
  | .call =>
    match parseAnswer chars with
    | some ans =>
      let d := doorDuring s l e ans.addr
      match takenEvent (lineOf s l).mode ans with
      | some event => if configured d then takeAnswer s1 l d ans event stamp else s1
      | none => s1
    | none => s1
  | .command _ _ _ _ => s

/-- A node's address moved from its place to the tail of the FIFO (R44). -/
def moveToTail (c : LineCtl) (a : Addr) : LineCtl :=
  if a ∈ c.fifo then { c with fifo := c.fifo.filter (fun b => !(b = a)) ++ [a] } else c

/-- A command that is never dropped for failures (R43, R44). -/
def retriedAlways (c : Command) (duty : Bool) : Bool := c = .holdOpen || c = .releaseEnd || duty

/-- A failed attempt of the command in flight (R34, R44, R115). -/
def failedAttempt (s : State) (n : Node) (c : Command) (duty : Bool) (fate : Fate) : State :=
  let line := lineOf s n.line
  match fate with
  | .live =>
    if retriedAlways c duty then setLine s n.line (moveToTail line n.addr)
    else if (nodeOf s n).attempts.val + 1 < 3 then
      setLine s n.line
        (moveToTail (line.withNode n.addr { nodeOf s n with attempts := (nodeOf s n).attempts + 1 }) n.addr)
    else
      let s1 := setLine s n.line (dropCommand line n.addr .dropped)
      if isSessionCommand c then issueDrop s1 n c else s1
  | .withdrawn => setLine s n.line (dropCommand line n.addr .dropped)
  | .replaced => setLine s n.line (moveToTail line n.addr)
  | .rewritten => s
  | .dropped => s

/-- A COMMAND frame not delivered, or abandoned: a failed attempt and a missed answer (R29, R31). The failed attempt
comes first, so a third failure that is also the third missed answer ends the session ENCODER_UNREACHABLE (log 42). -/
def commandFailed (s : State) (l : LineNo) (e : Exchange) (a : Addr) (c : Command) (duty : Bool) (fate : Fate) :
    State :=
  missIf (failedAttempt (endExchange s l) { line := l, addr := a } c duty fate) { line := l, addr := a }
    (doorDuring s l e a)

/-- The acceptance of a delivered command handed to the Door Tracker (R43, R44), by the entry `d` the exchange began under
(R34, log 60). -/
def handAcceptance (s : State) (n : Node) (d : DoorEntry) (c : Command) (duty : Bool) : State :=
  if isDoor d then acceptedByDoor (if duty then releaseEndAccepted s n else s) n c else s

/-- A COMMAND frame delivered (R34, R44, R115). The end-hold duty handed on is the one the command carried when its
exchange began, whatever was queued since (log 50). -/
def commandAccepted (s : State) (l : LineNo) (e : Exchange) (a : Addr) (c : Command) (duty : Bool) (fate : Fate) :
    State :=
  let n : Node := { line := l, addr := a }
  let d := doorDuring s l e a
  let s1 := endExchange s l
  let s2 :=
    if fate = .live ∨ fate = .withdrawn then setLine s1 l (dropCommand (lineOf s1 l) a .dropped) else s1
  let s3 := if configured d then goodAnswer s2 n else s2
  if fate = .withdrawn ∨ fate = .dropped then s3 else handAcceptance s3 n d c duty

/-- An exchange abandoned (R31). -/
def abandon (s : State) (l : LineNo) (e : Exchange) : State :=
  match e.kind with
  | .poll a => missIf (endExchange s l) { line := l, addr := a } (doorDuring s l e a)
  | .call => endExchange s l
  | .command a c duty fate => commandFailed s l e a c duty fate

/-- A HOLDING line whose exchange is over enters HELD (R48). -/
def toHeld (s : State) (l : LineNo) : State :=
  answerWaiting (changeMode (entryEffects s l) l .held false) l (.done [])

end Sys2Proof.Machine
end

