-- ==== Sys2Proof/Machine/Admission.lean ====
section
/-!
DEFINITION. The Admission Engine: the check code (R23, R24), the calendar (R8 to R10), the stages of a decision (R74 to
R85, R138 to R141), its effects (R86 to R88), and the meanings of DECISION and PRIVACY_WRITE.
-/

namespace Sys2Proof.Machine

/-! ### Check code (R23, R24) -/

/-- The options as they enter the sum: MINIBAR 1 and PRIVACY_OVERRIDE 2, other positions ignored (R21). -/
def optionsValue (o : Byte) : Nat := (o.extractLsb' 0 2).toNat

/-- The check code sum of a grant under a site code (R23). -/
def checkSum (k : Half) (g : Grant) : Nat :=
  k.toNat + g.serial.toNat / 65536 + g.serial.toNat % 65536 + g.cls.toNat * 256 + g.gen.toNat + g.room.toNat +
    g.start.toNat / 65536 + g.start.toNat % 65536 + g.finish.toNat / 65536 + g.finish.toNat % 65536 +
    g.zones.toNat + optionsValue g.options

/-- The check code a grant must carry (R23). -/
def checkCode (k : Half) (g : Grant) : Half := BitVec.ofNat 16 (65535 - checkSum k g % 65536)

/-- A presented grant verifies under a site code (R24). -/
def verifies (k : Half) (g : Grant) : Bool := (checkSum k g + g.check.toNat) % 65536 = 65535

/-! ### Classes and options (R17, R21) -/

/-- Card classes (R17). -/
inductive CardClass where
  | guest | staff | service | master | emergency
  deriving DecidableEq, Repr

/-- The class of a class code; none for 0 and 6-255 (R17). -/
def classOfCode (b : Byte) : Option CardClass :=
  match b.toNat with
  | 1 => some .guest
  | 2 => some .staff
  | 3 => some .service
  | 4 => some .master
  | 5 => some .emergency
  | _ => none

/-- The option MINIBAR (R21). -/
def hasMinibar (g : Grant) : Bool := g.options.getLsbD 0

/-- The option PRIVACY_OVERRIDE (R21). -/
def hasOverride (g : Grant) : Bool := g.options.getLsbD 1

/-! ### Calendar (R8 to R10) -/

/-- Day number of a wing minute (R8). -/
def dayNumber (t : Minute) : Nat := t.toNat / 1440

/-- Weekday of a wing minute, 0 is Monday (R8). -/
def weekday (t : Minute) : Nat := dayNumber t % 7

/-- Minute of day (R8). -/
def minuteOfDay (t : Minute) : Nat := t.toNat % 1440

/-- A window is open at a minute of day (R9). -/
def windowOpen (w : Window) (m : Nat) : Bool :=
  if w.openAt.toNat < w.closeAt.toNat then decide (w.openAt.toNat ≤ m) && decide (m < w.closeAt.toNat)
  else if w.closeAt.toNat < w.openAt.toNat then decide (w.openAt.toNat ≤ m) || decide (m < w.closeAt.toNat)
  else true

/-- The weekday a shift is tested against: the previous one after midnight of a window that wraps (R10). -/
def testedWeekday (w : Window) (t : Minute) : Nat :=
  if w.closeAt.toNat < w.openAt.toNat ∧ minuteOfDay t < w.closeAt.toNat then (weekday t + 6) % 7 else weekday t

/-- A profile's shift is open at a wing minute (R10). -/
def shiftOpen (p : ProfileEntry) (t : Minute) : Bool :=
  windowOpen p.shift (minuteOfDay t) && p.weekdays.getLsbD (testedWeekday p.shift t)

/-- The profile a card names; none for an index above 31 (R19). -/
def profileFor (s : State) (g : Grant) : Option ProfileEntry :=
  if h : g.room.toNat < 32 then some (profileOf s ⟨g.room.toNat, h⟩) else none

/-! ### Stages (R74) -/

/-- A test that fails with a reason. -/
def failIf (b : Bool) (r : Reason) : Option Reason := if b then some r else none

/-- Stage 0 applies (R75). -/
def stageRelease (s : State) (d : DoorEntry) : Bool := s.override.effective = .release && isDoor d

/-- Stage 1 (R76). -/
def stageCheck (s : State) (g : Grant) : Option Reason := failIf (!verifies (configOf s).siteCode g) .misread

/-- Stage 2 (R77). -/
def stageDeny (s : State) (g : Grant) : Option Reason := failIf (denyFind s.store.deny g.serial).isSome .revoked

/-- The class matrix (R78). -/
def admittedAt (c : CardClass) (k : NodeKind) : Bool :=
  match k with
  | .roomDoor => true
  | .commonGate => true
  | .minibar => c = .guest || c = .service
  | .encoder => false
  | .unused => false

/-- Stage 3 (R78). -/
def stageClass (c : Option CardClass) (d : DoorEntry) : Option Reason :=
  match c with
  | none => some .cls
  | some c => failIf (!admittedAt c d.kind) .cls

/-- The card passes LOCKDOWN (R79). -/
def passesLockdown (s : State) (c : CardClass) (g : Grant) : Bool :=
  match c with
  | .master => true
  | .emergency => true
  | .staff => ((profileFor s g).map (·.lockdownAccess)).getD false
  | .guest => false
  | .service => false

/-- Stage 4 (R79). -/
def stageLockdown (s : State) (c : CardClass) (g : Grant) (d : DoorEntry) : Option Reason :=
  failIf (s.override.effective = .lockdown && isDoor d && !passesLockdown s c g) .lockdown

/-- Stage 5 (R18, R80). -/
def stageTime (s : State) (c : CardClass) (g : Grant) (t : Minute) : Option Reason :=
  let grace := if c = .guest then (configOf s).grace.toNat else 0
  if t.toNat < g.start.toNat then some .notYet
  else if g.finish ≠ Config.lastMinute ∧ g.finish.toNat + grace ≤ t.toNat then some .expired
  else none

/-- The node's zone is in the card's zones (R20). -/
def inZone (g : Grant) (d : DoorEntry) : Bool := g.zones.getLsbD d.zone.val

/-- Stage 6 (R81). -/
def stagePlace (c : CardClass) (g : Grant) (d : DoorEntry) : Option Reason :=
  match c with
  | .guest => if d.kind = .commonGate then failIf (!inZone g d) .zone else failIf (g.room ≠ d.room) .room
  | .staff => failIf (!inZone g d) .zone
  | .service => failIf (!inZone g d) .zone
  | .master => failIf (!inZone g d) .zone
  | .emergency => none

/-- Stage 7 (R82). -/
def stageHours (s : State) (c : CardClass) (g : Grant) (d : DoorEntry) (t : Minute) : Option Reason :=
  let shift := failIf (!((profileFor s g).map fun p => shiftOpen p t).getD false) .hours
  match c with
  | .guest => if d.kind = .commonGate then failIf (!windowOpen (zoneOf s d.zone) (minuteOfDay t)) .hours else none
  | .staff => shift
  | .service => shift
  | .master => none
  | .emergency => none

/-- The span of a room record (R63). -/
def spanOf (d : RoomDyn) : Gen := d.issued - d.accepted + 1

/-- A card's distance above the accepted generation (R83). -/
def genDistance (d : RoomDyn) (g : Grant) : Gen := g.gen - d.accepted

/-- Stage 8 (R83). -/
def stageRoom (s : State) (c : CardClass) (g : Grant) : Option Reason :=
  if c = .guest then
    match findRoom s g.room with
    | none => some .room
    | some i =>
      let r := dynOf s i
      if !r.occupied then some .vacant
      else if (genDistance r g).toNat < (spanOf r).toNat then none
      else if 128 ≤ (genDistance r g).toNat then some .genOld
      else some .genFuture
  else none

/-- The room a node's DOOR entry names is in privacy (R84). -/
def doorPrivate (s : State) (d : DoorEntry) : Bool :=
  match findRoom s d.room with
  | none => false
  | some i => (dynOf s i).privacy

/-- Stage 9 (R84). -/
def stagePrivacy (s : State) (c : CardClass) (g : Grant) (d : DoorEntry) : Option Reason :=
  match d.kind with
  | .roomDoor =>
    failIf
      (doorPrivate s d &&
        (match c with
          | .guest => true
          | .staff => true
          | .service => true
          | .master => !hasOverride g
          | .emergency => false))
      .privacy
  | .minibar => failIf (doorPrivate s d && decide (c = .service)) .privacy
  | .commonGate => none
  | .encoder => none
  | .unused => none

/-- What stage 10 does at a minibar when it grants (R139, R140). -/
inductive MinibarGrant where
  | openGuest
  | reopen
  | restockBegin
  | restockEnd
  deriving DecidableEq, Repr

/-- The minibar part a node's cards are judged against (R138). -/
def boundPart (s : State) (n : Node) : Option (Slot × MinibarPart) :=
  match boundRoom s n with
  | none => none
  | some i =>
    match partOf s i with
    | none => none
    | some m => some (i, m)

/-- Stage 10 for a GUEST card at a minibar (R139). -/
def judgeGuest (s : State) (n : Node) (g : Grant) : Except Reason MinibarGrant :=
  if !hasMinibar g then .error .option
  else
    match boundPart s n with
    | none => .error .capped
    | some (i, m) =>
      match m.state with
      | .locked => .error .capped
      | .capped => .error .capped
      | .restock => .error .inUse
      | .openGuest => if (roomOf s i).limit.toNat ≤ m.tally.toNat then .error .capped else .ok .reopen
      | .guest => .ok .openGuest

/-- Stage 10 for a SERVICE card at a minibar (R140). -/
def judgeService (s : State) (n : Node) : Except Reason MinibarGrant :=
  match boundPart s n with
  | none => .error .inUse
  | some (_, m) =>
    match m.state with
    | .openGuest => .error .inUse
    | .restock => .ok .restockEnd
    | .locked => .ok .restockBegin
    | .guest => .ok .restockBegin
    | .capped => .ok .restockBegin

/-- Stage 10: what it does at a minibar, and nothing elsewhere (R85). -/
def stageMinibar (s : State) (c : CardClass) (n : Node) (g : Grant) (d : DoorEntry) :
    Except Reason (Option MinibarGrant) :=
  if d.kind = .minibar then
    if c = .guest then (judgeGuest s n g).map some else (judgeService s n).map some
  else .ok none

/-- Stages 1 to 7: the reason of the first that fails (R74). -/
def earlyStages (s : State) (p : Presentation) (d : DoorEntry) : Option Reason :=
  let g := p.grant
  let t := p.capture.minute
  let cls := classOfCode g.cls
  stageCheck s g <|> stageDeny s g <|> stageClass cls d <|>
    cls.bind fun c => stageLockdown s c g d <|> stageTime s c g t <|> stagePlace c g d <|> stageHours s c g d t

/-- What a decision decides (R74): GRANT_RELEASE, REFUSE with a reason, or GRANT with what stage 10 does. -/
inductive Verdict where
  | release
  | refuse (r : Reason)
  | grant (c : CardClass) (m : Option MinibarGrant)
  deriving DecidableEq, Repr

/-- Stages 8 to 10, for a card that passed the earlier ones. -/
def lateStages (s : State) (c : CardClass) (p : Presentation) (d : DoorEntry) : Verdict :=
  match stageRoom s c p.grant <|> stagePrivacy s c p.grant d with
  | some r => .refuse r
  | none =>
    match stageMinibar s c p.node p.grant d with
    | .error r => .refuse r
    | .ok m => .grant c m

/-- The decision of a presentation (R74). -/
def decidePresentation (s : State) (p : Presentation) : Verdict :=
  let d := doorOf s p.node
  if stageRelease s d then .release
  else
    match earlyStages s p d, classOfCode p.grant.cls with
    | some r, _ => .refuse r
    | none, some c => lateStages s c p d
    | none, none => .refuse .cls

/-! ### Effects (R86 to R88, R141) -/

/-- Supersession: a GUEST card granted with d above 0 (R86). -/
def supersede (s : State) (p : Presentation) (c : CardClass) : State :=
  if c = .guest then
    match findRoom s p.grant.room with
    | none => s
    | some i =>
      let r := dynOf s i
      if r.accepted = p.grant.gen then s
      else
        appendRecord (setDyn s i { r with accepted := p.grant.gen })
          { stampedRecord s .supersede with
            node := some (.node p.node), serial := some p.grant.serial, room := some p.grant.room,
            detail := .supersede r.accepted p.grant.gen }
  else s

/-- RELATCH armed for the open time of the node's door class (R141). -/
def armRelatch (s : State) (n : Node) : State := arm s n .relatch ((doorClass s n).openTime.setWidth 32)

/-- The minibar part's state set. -/
def setMinibarState (s : State) (i : Slot) (st : MinibarState) : State :=
  match partOf s i with
  | none => s
  | some m => setPart s i (some { m with state := st })

/-- The changes stage 10 makes on a grant (R139 to R141, R150). -/
def minibarGrant (s : State) (n : Node) (m : MinibarGrant) : State :=
  match boundRoom s n with
  | none => s
  | some i =>
    match m with
    | .openGuest => armRelatch (appendMinibar (setMinibarState s i .openGuest) i .minibarOpen .absent) n
    | .reopen => armRelatch s n
    | .restockBegin => armRelatch (appendMinibar (setMinibarState s i .restock) i .restock .restockBegin) n
    | .restockEnd => cancel (endRestock s i) n .relatch

/-- The outcome field of a verdict (R88). -/
def verdictOutcome : Verdict → DecisionOutcome
  | .release => .grantRelease
  | .refuse r => .refuse r
  | .grant _ _ => .grant

/-- The command of a verdict (R87). -/
def verdictCommand (s : State) (n : Node) : Verdict → Command
  | .release => .holdOpen
  | .refuse r => .refuse r
  | .grant _ _ => .grant (doorClass s n).openTime

/-- The detail of an ENTRY record: for a GUEST card that reached stage 8 and found its room (R88). -/
def entryDetail (s : State) (p : Presentation) : Detail :=
  let d := doorOf s p.node
  if !stageRelease s d && classOfCode p.grant.cls = some .guest && (earlyStages s p d).isNone then
    match findRoom s p.grant.room with
    | some i => .entry p.grant.gen (dynOf s i).accepted
    | none => .absent
  else .absent

/-- The ENTRY record of a decision (R88), from the state before its effects. -/
def entryRecord (s : State) (p : Presentation) (v : Verdict) : Record :=
  let ok := verifies (configOf s).siteCode p.grant
  { kind := .entry, minute := p.capture.minute, second := p.capture.second, node := some (.node p.node),
    serial := if ok then some p.grant.serial else none,
    room := if ok && classOfCode p.grant.cls = some .guest then some p.grant.room else none,
    cls := if ok then some p.grant.cls else none,
    outcome := some (verdictOutcome v),
    detail := entryDetail s p }

/-- The table changes and records of a verdict before its ENTRY record (R86, R88). -/
def verdictEffects (s : State) (p : Presentation) : Verdict → State
  | .release => s
  | .refuse _ => s
  | .grant c m =>
    let s1 := supersede s p c
    match m with
    | none => s1
    | some k => minibarGrant s1 p.node k

/-- The command of a decision queued, if the node's line is in DECIDE (R87). -/
def queueIfDecide (s : State) (n : Node) (c : Command) : State :=
  if (lineOf s n.line).mode = .decide then queueCommand s n c else s

/-- A decision's completion (R73, R87, R88); ENTRY stands before the record of a session that its command ends (log 59). -/
def completeDecision (s : State) (p : Presentation) : State :=
  let v := decidePresentation s p
  let s1 := appendRecord (verdictEffects s p v) (entryRecord s p v)
  queueIfDecide s1 p.node (verdictCommand s p.node v)

/-- The grant of a decision: the oldest entry leaves the queue (R71); none begins while the part stops (R72). -/
def grantDecision (s : State) : Option State :=
  if nextGrant s = some .admission then
    match s.queue with
    | [] => none
    | p :: q => some (setInHand (s.withQueue q) (some (.decision p)))
  else none

/-- The completion of the decision in hand. -/
def finishDecision (s : State) : Option State :=
  match s.port.inHand with
  | some (.decision p) => if s.serving then some (completeDecision (setInHand s none) p) else none
  | _ => none

/-- DECISION (R73). -/
def execDecision (form : OpForm) (s : State) : Outcome := runForm form grantDecision finishDecision s

/-- The grant of the oldest pending privacy write (R96). -/
def grantPrivacy (s : State) : Option State :=
  if nextGrant s = some .tracker then
    match s.tracker.writes with
    | [] => none
    | w :: ws => some (setInHand (s.withTracker { s.tracker with writes := ws }) (some (.privacy w)))
  else none

/-- The completion of the privacy write in hand. -/
def finishPrivacy (s : State) : Option State :=
  match s.port.inHand with
  | some (.privacy w) => if s.serving then some (applyPrivacy (setInHand s none) w) else none
  | _ => none

/-- PRIVACY_WRITE (R96). -/
def execPrivacyWrite (form : OpForm) (s : State) : Outcome := runForm form grantPrivacy finishPrivacy s

end Sys2Proof.Machine
end

