-- ==== Sys2Proof/Machine/Minibar.lean ====
section
/-!
DEFINITION. The commands of the Minibar Engine: RELATCH_EXPIRY and RETURN_EXPIRY and their operations,
REPORT_ITEM_OPERATION, FORCED_COMMIT, MINIBAR_BRING_INTO_LINE; and how an owner takes an expiry (R14).
-/

namespace Sys2Proof.Machine

/-- Two deadline kinds have the same owner (R11). -/
def sameOwner : DeadlineKind → DeadlineKind → Bool
  | .relock, k => k = .relock || k = .held
  | .held, k => k = .relock || k = .held
  | .relatch, k => k = .relatch || k = .ret
  | .ret, k => k = .relatch || k = .ret
  | .issueTimeout, k => k = .issueTimeout

/-- The oldest expiry waiting for an owner taken by it, if it is that of `n` and `k` (R14); none is delivered once the
part stops (R15). -/
def takeExpiry (s : State) (n : Node) (k : DeadlineKind) : Option State :=
  if s.working && decide (s.time.expiring.find? (fun x => sameOwner k x.2) = some (n, k)) then
    some (s.withTime { s.time with expiring := s.time.expiring.erase (n, k) })
  else none

/-- RELATCH_EXPIRY: held by the Minibar Engine for a table operation (R14, R142). -/
def execRelatchExpiry (n : Node) (s : State) : Outcome :=
  match takeExpiry s n .relatch with
  | some s1 => done (addMinibarWork s1 (.relatch n))
  | none => idle s

/-- RETURN_EXPIRY: held by the Minibar Engine for a table operation (R14, R148). -/
def execReturnExpiry (n : Node) (s : State) : Outcome :=
  match takeExpiry s n .ret with
  | some s1 => done (addMinibarWork s1 (.ret n))
  | none => idle s

/-- The grant of the Minibar Engine's oldest work, when `sel` selects it (R143). -/
def grantMinibar (sel : MinibarWork → Option PortOp) (s : State) : Option State :=
  if nextGrant s = some .minibar then
    match s.minibar with
    | [] => none
    | w :: ws => (sel w).map fun op => setInHand (s.withMinibar ws) (some op)
  else none

/-- The completion of an operation in hand that `eff` gives an effect (R170). -/
def finishOp (eff : PortOp → Option (State → State)) (s : State) : Option State :=
  if s.serving then (s.port.inHand.bind eff).map fun f => f (setInHand s none) else none

/-- A RELATCH expiry's work. -/
def selRelatch : MinibarWork → Option PortOp
  | .relatch n => some (.relatch n)
  | _ => none

/-- A RETURN expiry's work. -/
def selReturn : MinibarWork → Option PortOp
  | .ret n => some (.ret n)
  | _ => none

/-- A report item. -/
def selItem : MinibarWork → Option PortOp
  | .item n a b => some (.item n a b)
  | _ => none

/-- A forced commit. -/
def selForced : MinibarWork → Option PortOp
  | .forced c => some (.forced c)
  | _ => none

/-- A room to be brought into line. -/
def selLineUp : MinibarWork → Option PortOp
  | .lineUp i => some (.lineUp i)
  | _ => none

/-- Effect of a RELATCH expiry's operation. -/
def effRelatch : PortOp → Option (State → State)
  | .relatch n => some fun s => applyRelatch s n
  | _ => none

/-- Effect of a RETURN expiry's operation. -/
def effReturn : PortOp → Option (State → State)
  | .ret n => some fun s => applyReturn s n
  | _ => none

/-- Effect of a report item's operation. -/
def effItem : PortOp → Option (State → State)
  | .item n a b => some fun s => applyItem s n a b
  | _ => none

/-- Effect of a forced commit's operation. -/
def effForced : PortOp → Option (State → State)
  | .forced c => some fun s => applyForced s c
  | _ => none

/-- Effect of bringing a minibar part into line. -/
def effLineUp : PortOp → Option (State → State)
  | .lineUp i => some fun s => bringIntoLine s i
  | _ => none

/-- RELATCH_EXPIRY_OPERATION (R142). -/
def execRelatchExpiryOperation (form : OpForm) (s : State) : Outcome :=
  runForm form (grantMinibar selRelatch) (finishOp effRelatch) s

/-- RETURN_EXPIRY_OPERATION (R148). -/
def execReturnExpiryOperation (form : OpForm) (s : State) : Outcome :=
  runForm form (grantMinibar selReturn) (finishOp effReturn) s

/-- REPORT_ITEM_OPERATION (R143, R144). -/
def execReportItemOperation (form : OpForm) (s : State) : Outcome :=
  runForm form (grantMinibar selItem) (finishOp effItem) s

/-- FORCED_COMMIT (R153). -/
def execForcedCommit (form : OpForm) (s : State) : Outcome :=
  runForm form (grantMinibar selForced) (finishOp effForced) s

/-- MINIBAR_BRING_INTO_LINE (R155). -/
def execMinibarBringIntoLine (form : OpForm) (s : State) : Outcome :=
  runForm form (grantMinibar selLineUp) (finishOp effLineUp) s

end Sys2Proof.Machine
end

