-- ==== Sys2Proof/Machine/Issue.lean ====
section
/-!
DEFINITION. The commands of the Issue Unit (06_issue_and_supersession.md): ISSUE, COMPOSITION, ISSUE_CLOSING,
ISSUE_CANCEL, ISSUE_TIMEOUT_EXPIRY, and the room requests ROOM_CHECKOUT and ROOM_BUMP.
-/

namespace Sys2Proof.Machine

/-! ### ISSUE (R105, R106) -/

/-- An issue kind by its code: NEW 0, DUPLICATE 1 (log 34); true for DUPLICATE. -/
def duplicateOf (b : Byte) : Option Bool :=
  match b.toNat with
  | 0 => some false
  | 1 => some true
  | _ => none

/-- The class and room fields of a stay are in range (R105, test 1). -/
def stayInRange (c : CardClass) (duplicate : Bool) (stay : Stay) : Bool :=
  match c with
  | .guest => true
  | .staff => !duplicate && decide (stay.room.toNat < 32)
  | .service => !duplicate && decide (stay.room.toNat < 32)
  | .master => !duplicate && decide (stay.room = 0)
  | .emergency => !duplicate && decide (stay.room = 0)

/-- Test 1 of R105: the encoder node and whether it is a DUPLICATE. A node byte with its address absent names no node
(log 11). -/
def issueForm (node kind : Byte) (stay : Stay) : Option (Node × Bool) :=
  match nodeByte? node, duplicateOf kind, classOfCode stay.cls with
  | some n, some dup, some c => if stayInRange c dup stay then some (n, dup) else none
  | _, _, _ => none

/-- Test 2 of R105. -/
def encoderReady (s : State) (n : Node) : Bool :=
  (doorOf s n).kind = .encoder && (lineOf s n.line).mode = .decide && !(nodeOf s n).silent &&
    decide ((nodeOf s n).faulty ≠ some true)

/-- The lowest-numbered FREE context (R106). -/
def freeCtx (s : State) : Option (Fin 2) := (List.finRange 2).find? fun k => !isOpen (ctxOf s k)

/-- Test 5 of R105: the context that takes the issue. -/
def ctxForIssue (s : State) (n : Node) (stay : Stay) : Option (Fin 2) :=
  if (ctxOfNode s n).isSome || (stay.cls = 1 && (ctxOfRoom s stay.room).isSome) then none else freeCtx s

/-- An ISSUE judged (R105): the reply on failure, or the context that takes it. -/
def judgeIssue (s : State) (node kind : Byte) (stay : Stay) : Except Answer (Fin 2 × Node × Bool) :=
  match issueForm node kind stay with
  | none => .error (.refused .range)
  | some (n, dup) =>
    if !encoderReady s n then .error (.refused .encoder)
    else if stay.cls = 1 ∧ findRoom s stay.room = none then .error (.refused .room)
    else if stay.cls = 1 ∧ dup = true ∧ ((findRoom s stay.room).map fun i => (dynOf s i).occupied) = some false then
      .error (.refused .vacant)
    else
      match ctxForIssue s n stay with
      | none => .error .busy
      | some k => .ok (k, n, dup)

/-- The issue-in-flight marker set on the room record of a GUEST stay (R106). -/
def markRoom (s : State) (c : IssueCtx) (k : Fin 2) : State :=
  match ctxRoom s c with
  | none => s
  | some i => setDyn s i { dynOf s i with marker := some k }

/-- An accepted ISSUE (R106). -/
def acceptIssue (s : State) (k : Fin 2) (n : Node) (dup : Bool) (tag : Byte) (stay : Stay) : State :=
  let s1 := setCtx s k { IssueCtx.free with state := .awaitBlank, node := n, tag := tag, duplicate := dup, stay := stay }
  let s2 := markRoom s1 (ctxOf s1 k) k
  let s3 := queueCommand s2 n .prepare
  let s4 := arm s3 n .issueTimeout Config.awaitBlankTicks
  answerRequest s4 (.accepted (byteOf k.val))

/-- The completion of the judgement (R105, R106). -/
def completeIssue (s : State) : State :=
  match s.trunk.inHand with
  | some { request := .issue node kind stay, tag := tag, unicast := _ } =>
    match judgeIssue s node kind stay with
    | .error a => answerRequest s a
    | .ok (k, n, dup) => acceptIssue s k n dup tag stay
  | _ => s

/-- The grant of the Issue Unit's oldest work, when `sel` selects it (R104). -/
def grantIssue (sel : IssueWork → Option PortOp) (s : State) : Option State :=
  if nextGrant s = some .issue then
    match s.issue.work with
    | [] => none
    | w :: ws => (sel w).map fun op => setInHand (s.withIssue { s.issue with work := ws }) (some op)
  else none

/-- The judgement of an ISSUE. -/
def selJudge : IssueWork → Option PortOp
  | .judge => some .judge
  | _ => none

/-- A composition. -/
def selComposition : IssueWork → Option PortOp
  | .composition k => some (.composition k)
  | _ => none

/-- A closing operation. -/
def selClosing : IssueWork → Option PortOp
  | .closing k => some (.closing k)
  | _ => none

/-- Effect of the judgement. -/
def effJudge : PortOp → Option (State → State)
  | .judge => some completeIssue
  | _ => none

/-- ISSUE (R105). -/
def execIssue (form : OpForm) (s : State) : Outcome := runForm form (grantIssue selJudge) (finishOp effJudge) s

/-! ### COMPOSITION (R26, R107) -/

/-- The generation of the grant being composed (R26): none when a guest's room is in no slot. -/
def composedGen (s : State) (c : IssueCtx) : Option Gen :=
  if isGuest c then
    (findRoom s c.stay.room).map fun i => if c.duplicate then (dynOf s i).issued else (dynOf s i).issued + 1
  else some 0

/-- The grant of a session under a site code (R26). -/
def composeGrant (k : Half) (stay : Stay) (serial : Serial) (g : Gen) : Grant :=
  let grant : Grant :=
    { serial := serial, cls := stay.cls, gen := g, room := stay.room, start := stay.start, finish := stay.finish,
      zones := stay.zones, options := stay.options &&& 3, check := 0 }
  { grant with check := checkCode k grant }

/-- The completion of a composition; none takes place once the outcome is decided (R107, log 23). -/
def completeComposition (s : State) (k : Fin 2) : State :=
  let c := ctxOf s k
  if c.state = .awaitBlank ∧ c.outcome = none then
    match c.heldBlank, composedGen s c with
    | some serial, some g =>
      let grant := composeGrant (configOf s).siteCode c.stay serial g
      let s1 := setCtx s k
        { c with
          state := .writing, serial := some serial, gen := some g, composed := some grant, heldBlank := none }
      arm (queueCommand s1 c.node (.write grant)) c.node .issueTimeout Config.writingTicks
    | _, _ => s
  else s

/-- Effect of a composition. -/
def effComposition : PortOp → Option (State → State)
  | .composition k => some fun s => completeComposition s k
  | _ => none

/-- COMPOSITION (R107). -/
def execComposition (form : OpForm) (s : State) : Outcome :=
  runForm form (grantIssue selComposition) (finishOp effComposition) s

/-! ### ISSUE_CLOSING (R115) -/

/-- Effect of a closing operation. -/
def effClosing : PortOp → Option (State → State)
  | .closing k => some fun s => closeSession s k true
  | _ => none

/-- ISSUE_CLOSING (R109 to R115). -/
def execIssueClosing (form : OpForm) (s : State) : Outcome :=
  runForm form (grantIssue selClosing) (finishOp effClosing) s

/-! ### ISSUE_CANCEL and ISSUE_TIMEOUT_EXPIRY (R116, R117) -/

/-- A context by the number a request carries (R117). -/
def ctxNumber (b : Byte) : Option (Fin 2) :=
  match b.toNat with
  | 0 => some 0
  | 1 => some 1
  | _ => none

/-- ISSUE_CANCEL by the state of the context (R117). -/
def cancelIssue (s : State) (b : Byte) : State :=
  match ctxNumber b with
  | none => answerRequest s (.refused .range)
  | some k =>
    match (ctxOf s k).state with
    | .free => answerRequest s (.done [1])
    | .awaitBlank => answerRequest (endSession s k .cancelled) (.done [0])
    | .writing => answerRequest s .busy

/-- ISSUE_CANCEL (R117). -/
def execIssueCancel (s : State) : Outcome :=
  match s.trunk.inHand with
  | some { request := .issueCancel b, tag := _, unicast := _ } => if s.working then done (cancelIssue s b) else idle s
  | _ => idle s

/-- ISSUE_TIMEOUT_EXPIRY (R116). -/
def execIssueTimeoutExpiry (n : Node) (s : State) : Outcome :=
  match takeExpiry s n .issueTimeout with
  | some s1 => done (endNodeSession s1 n .timeout)
  | none => idle s

/-! ### ROOM_CHECKOUT and ROOM_BUMP (R119, R120) -/

/-- The minibar side of a checkout up to the final tally (R152): commits, and the end of a restock. -/
def checkoutCharges (s : State) (i : Slot) : State :=
  let s1 := commitAll s i
  match partOf s1 i with
  | none => s1
  | some m => if m.state = .restock then endRestock s1 i else s1

/-- The tally set to 0, the state LOCKED, RETURN and RELATCH cancelled (R152). -/
def checkoutMinibar (s : State) (i : Slot) : State :=
  match partOf s i with
  | none => s
  | some m =>
    let s1 := setPart s i (some { m with tally := 0, state := .locked })
    match (roomOf s i).minibarNode with
    | none => s1
    | some n => cancel (cancel s1 n .ret) n .relatch

/-- Step 4 of R119: the context open for the room. -/
def checkoutSession (s : State) (room : Half) : State :=
  match ctxOfRoom s room with
  | none => s
  | some k =>
    match (ctxOf s k).state with
    | .free => s
    | .awaitBlank => endSession s k .checkout
    | .writing => setCtx s k { ctxOf s k with void := true }

/-- ROOM_CHECKOUT's operation (R119). -/
def checkoutRoom (s : State) (room : Half) : State :=
  match findRoom s room with
  | none => answerRequest s (.refused .room)
  | some i =>
    let s1 := checkoutCharges s i
    let tally := tallyOf (dynOf s1 i)
    let s2 := checkoutMinibar s1 i
    let before := (dynOf s2 i).accepted
    let after := (dynOf s2 i).issued + 1
    let s3 := setDyn s2 i { dynOf s2 i with accepted := after, occupied := false }
    let s4 := checkoutSession s3 room
    let s5 := appendRecord s4
      { stampedRecord s4 .checkout with room := some room, detail := .checkout tally before after }
    answerRequest s5 (.done (be2 room ++ be2 tally ++ [after, (dynOf s5 i).issued]))

/-- Effect of a checkout. -/
def effCheckout : PortOp → Option (State → State)
  | .checkout => some fun s =>
    match s.trunk.inHand with
    | some { request := .roomCheckout room, tag := _, unicast := _ } => checkoutRoom s room
    | _ => s
  | _ => none

/-- ROOM_CHECKOUT (R119). -/
def execRoomCheckout (form : OpForm) (s : State) : Outcome :=
  runForm form (grantSimple .requestUnit .checkout (requestAsks .checkout)) (finishOp effCheckout) s

/-- ROOM_BUMP's operation (R120). -/
def bumpRoom (s : State) (room : Half) : State :=
  match findRoom s room with
  | none => answerRequest s (.refused .room)
  | some i =>
    let d := dynOf s i
    if !d.occupied then answerRequest s (.refused .vacant)
    else
      let s1 := setDyn s i { d with accepted := d.issued }
      let s2 :=
        if d.accepted = d.issued then s1
        else appendRecord s1
          { stampedRecord s1 .supersede with room := some room, detail := .supersede d.accepted d.issued }
      answerRequest s2 (.done [d.issued, d.issued])

/-- Effect of a bump. -/
def effBump : PortOp → Option (State → State)
  | .bump => some fun s =>
    match s.trunk.inHand with
    | some { request := .roomBump room, tag := _, unicast := _ } => bumpRoom s room
    | _ => s
  | _ => none

/-- ROOM_BUMP (R120). -/
def execRoomBump (form : OpForm) (s : State) : Outcome :=
  runForm form (grantSimple .requestUnit .bump (requestAsks .bump)) (finishOp effBump) s

/-! ### MINIBAR_SETTLE (R151) -/

/-- MINIBAR_SETTLE's operation (R151). -/
def settleRoom (s : State) (room : Half) : State :=
  match findRoom s room with
  | none => answerRequest s (.refused .room)
  | some i =>
    match partOf s i with
    | none =>
      answerRequest
        (appendRecord s { stampedRecord s .settle with room := some room, detail := .settle 0 })
        (.done (be2 room ++ be2 0 ++ [0, 0]))
    | some m =>
      let s1 := appendMinibar s i .settle (.settle m.tally)
      let m1 := recomputeKeeping s1 i { m with tally := 0 }
      answerRequest (setPart s1 i (some m1))
        (.done (be2 room ++ be2 m.tally ++ [minibarCode m1.state, byteOf m1.charges.length]))

/-- Effect of a settle. -/
def effSettle : PortOp → Option (State → State)
  | .settle => some fun s =>
    match s.trunk.inHand with
    | some { request := .minibarSettle room, tag := _, unicast := _ } => settleRoom s room
    | _ => s
  | _ => none

/-- MINIBAR_SETTLE (R151). -/
def execMinibarSettle (form : OpForm) (s : State) : Outcome :=
  runForm form (grantSimple .requestUnit .settle (requestAsks .settle)) (finishOp effSettle) s

end Sys2Proof.Machine
end

