-- ==== Sys2Proof/Machine/Deny.lean ====
section
/-!
DEFINITION. The deny unit and the pruner (07_the_deny_list.md): DENY_ADD, DENY_REMOVE and PRUNE_STEP.
-/

namespace Sys2Proof.Machine

/-! ### DENY_ADD (R124 to R126) -/

/-- The list with a held serial's expiry replaced; the entry keeps its place (R124). -/
def denyExtend (l : List DenyEntry) (serial : Serial) (expiry : Minute) : List DenyEntry :=
  l.map fun e => if e.serial = serial then { e with expiry := expiry } else e

/-- The DENY record and the DONE reply of a deny request (R124, R127): serial, indication, expiry (0 where there is
none), and the deny count after the change. -/
def denyAnswer (s : State) (serial : Serial) (i : DenyIndication) (recorded : Option Minute) (expiry : Minute) : State :=
  answerRequest (appendDeny s serial i recorded)
    (.done (be4 serial ++ [denyCode i] ++ be3 expiry ++ num2 s.store.denyCount))

/-- DENY_ADD's operation (R124, R125). -/
def denyAddEntry (s : State) (serial : Serial) (expiry : Minute) : State :=
  match denyFind s.store.deny serial with
  | some e =>
    if e.expiry.toNat < expiry.toNat then
      denyAnswer (setDeny s (denyExtend s.store.deny serial expiry)) serial .extended (some expiry) expiry
    else denyAnswer s serial .kept (some e.expiry) e.expiry
  | none =>
    if s.store.deny.length < Config.denyCap then
      denyAnswer (setDeny s (denyInsert { serial := serial, expiry := expiry } s.store.deny)) serial .added
        (some expiry) expiry
    else answerRequest (appendDeny s serial .full (some expiry)) (.refused .full)

/-- Effect of DENY_ADD. -/
def effDenyAdd : PortOp → Option (State → State)
  | .denyAdd => some fun s =>
    match s.trunk.inHand with
    | some { request := .denyAdd serial expiry, tag := _, unicast := _ } => denyAddEntry s serial expiry
    | _ => s
  | _ => none

/-- DENY_ADD (R124). -/
def execDenyAdd (form : OpForm) (s : State) : Outcome :=
  runForm form (grantSimple .requestUnit .denyAdd (requestAsks .denyAdd)) (finishOp effDenyAdd) s

/-! ### DENY_REMOVE (R127) -/

/-- DENY_REMOVE's operation (R127). -/
def denyRemoveEntry (s : State) (serial : Serial) : State :=
  match denyFind s.store.deny serial with
  | some e => denyAnswer (setDeny s (denyErase s.store.deny serial)) serial .removed none e.expiry
  | none => denyAnswer s serial .absent none 0

/-- Effect of DENY_REMOVE. -/
def effDenyRemove : PortOp → Option (State → State)
  | .denyRemove => some fun s =>
    match s.trunk.inHand with
    | some { request := .denyRemove serial, tag := _, unicast := _ } => denyRemoveEntry s serial
    | _ => s
  | _ => none

/-- DENY_REMOVE (R127). -/
def execDenyRemove (form : OpForm) (s : State) : Outcome :=
  runForm form (grantSimple .requestUnit .denyRemove (requestAsks .denyRemove)) (finishOp effDenyRemove) s

/-! ### PRUNE_STEP (R129) -/

/-- An entry that a pass at prune minute `m` removes when its cursor stands at `cursor` (R129). -/
def prunable (m : Minute) (cursor : BitVec 33) (e : DenyEntry) : Bool :=
  decide (cursor.toNat ≤ e.serial.toNat) && decide (e.expiry.toNat ≤ m.toNat) &&
    decide (e.expiry ≠ Config.lastMinute)

/-- One operation of a pass (R129). -/
def pruneOnce (s : State) : State :=
  match s.pruner.minute with
  | none => s
  | some m =>
    match s.store.deny.find? (prunable m s.pruner.cursor) with
    | some e =>
      (appendDeny (setDeny s (denyErase s.store.deny e.serial)) e.serial .pruned (some e.expiry)).withPruner
        { s.pruner with cursor := e.serial.setWidth 33 + 1 }
    | none => s.withPruner { s.pruner with minute := none }

/-- Effect of a pruner's operation. -/
def effPrune : PortOp → Option (State → State)
  | .prune => some pruneOnce
  | _ => none

/-- PRUNE_STEP (R129). -/
def execPruneStep (form : OpForm) (s : State) : Outcome :=
  runForm form (grantSimple .pruner .prune fun s => s.pruner.minute.isSome) (finishOp effPrune) s

end Sys2Proof.Machine
end

