-- ==== Sys2Proof/Machine/Store.lean ====
section
/-!
DEFINITION. The loader and the post buffer (10_table_store.md): POST with the effects of the rewrites of
04_wing_tables.md, DRAIN, LOAD_WINDOW and LOAD; READ_ENTRIES and STATUS.
-/

namespace Sys2Proof.Machine

/-! ### DOOR rewrite (R34, R53, R58) -/

/-- An accepted entry placed at the tail of the post buffer (R173). -/
def pushPost (s : State) (e : PostEntry) : State := s.withLoader { s.loader with buffer := s.loader.buffer ++ [e] }

/-- The DOOR entry an exchange in flight began under, kept at the first rewrite after its beginning (R34). A CALL in
flight, which names no node, is taken as an exchange with every node of its line (log 49). -/
def noteStale (a : Addr) (old : DoorEntry) (e : Exchange) : Exchange :=
  if e.stale.any (fun x => x.1 = a) then e else { e with stale := e.stale ++ [(a, old)] }

/-- Sweep membership after a rewrite: joined from UNUSED, left for UNUSED (R34). -/
def sweepAfter (old new : DoorEntry) (inSweep : Bool) : Bool :=
  configured new && (inSweep || !configured old)

/-- The line controller's part of a DOOR rewrite: the pending command dropped, the sweep set, the presence and the last
reported status (R34, R40, R53). -/
def rewriteNode (s : State) (n : Node) (old new : DoorEntry) : State :=
  let c := dropCommand (lineOf s n.line) n.addr .rewritten
  let x := look c.nodes n.addr
  setLine s n.line
    { (c.withNode n.addr
        { x with silent := false, missed := 0, faulty := none, inSweep := sweepAfter old new x.inSweep }) with
      exchange := c.exchange.map (noteStale n.addr old) }

/-- The Door Tracker's part of a DOOR rewrite (R58, R96). -/
def rewriteTrack (s : State) (n : Node) (old new : DoorEntry) : State :=
  if isDoor old || isDoor new then
    derivePrivacy (derivePrivacy (setTrack s n .initial) old.room (some n)) new.room (some n)
  else s

/-- A DOOR entry posted (R58). -/
def postDoor (s : State) (i : Slot) (new : DoorEntry) : State :=
  let n := nodeAt i
  let old := doorAt s i
  let bound := (boundRoom s n).map fun j => (roomOf s j).number
  let s1 := rewriteTrack (rewriteNode (cancelNode (pushPost s (.door i new)) n) n old new) n old new
  let s2 := if old.kind = .encoder then endNodeSession s1 n .encoderUnreachable else s1
  match bound with
  | some room => addMinibarWork s2 (.forced (.doorPost room))
  | none => s2

/-! ### ROOM rewrite (R61, R64 to R67) -/

/-- A new minibar part: sets and pending list empty, its state recomputed (R64). -/
def newPart (s : State) (i : Slot) (tally : Half) : MinibarPart :=
  recompute s i { state := .locked, stocked := 0, stable := 0, candidate := none, tally := tally, charges := [] }

/-- The accepted generation a restore part stores (R67). -/
def restoredAccepted (p : RestorePart) : Gen :=
  if !p.occupied then p.issued + 1
  else
    let span := p.issued - p.accepted + 1
    if span = 0 then p.issued else if span.toNat ≤ 16 then p.accepted else p.issued - 15

/-- A dynamic part with the values of a restore part (R67). -/
def restored (d : RoomDyn) (p : RestorePart) : RoomDyn :=
  { d with occupied := p.occupied, accepted := restoredAccepted p, issued := p.issued, marker := none,
           minibar := d.minibar.map fun m => { m with tally := p.tally } }

/-- The minibar part under a rewrite that keeps the room (R65); the entry is already posted. -/
def minibarRewrite (s : State) (i : Slot) (before after : Option Node) : State :=
  match before, after with
  | none, none => s
  | none, some _ => setPart s i (some (newPart s i 0))
  | some a, some b =>
    if a = b then
      match partOf s i with
      | none => s
      | some m => setPart s i (some (recomputeKeeping s i m))
    else addMinibarWork (cancelNode s a) (.forced (.moved i (roomOf s i).number))
  | some a, none => setPart (cancelNode s a) i none

/-- A restore part applied to a room that keeps its number (R65, R67). -/
def restoreKept (s : State) (i : Slot) (room : Half) (p : RestorePart) : State :=
  let s1 := setDyn s i (restored (dynOf s i) p)
  let s2 := match partOf s1 i with
    | none => s1
    | some m => setPart s1 i (some (recomputeKeeping s1 i m))
  derivePrivacy (endRoomSession s2 room .roomChanged) room none

/-- A ROOM entry that keeps the slot's room (R65). -/
def keepRoom (s : State) (i : Slot) (old new : RoomStatic) (restore : Option RestorePart) : State :=
  let s1 := minibarRewrite (pushPost s (.room i new)) i old.minibarNode new.minibarNode
  match restore with
  | none => s1
  | some p => restoreKept s1 i new.number p

/-- Deadlines of the minibar node a slot gives up cancelled by node (R13, R66). -/
def dropMinibarNode (s : State) (old : Option Node) : State :=
  match old with
  | none => s
  | some a => cancelNode s a

/-- The dynamic part a replaced room begins with (R66, R67); a slot with room number 0 holds that of R63. With a restore
part, too, the room is not in privacy until the derived value is written (log 52). -/
def replacedDyn (number : Half) (restore : Option RestorePart) : RoomDyn :=
  if number = 0 then .cleared
  else
    match restore with
    | none => .cleared
    | some p => restored .cleared p

/-- A ROOM entry that replaces the slot's room (R66). -/
def replaceRoom (s : State) (i : Slot) (old new : RoomStatic) (restore : Option RestorePart) : State :=
  let s1 := setDyn (dropMinibarNode (pushPost s (.room i new)) old.minibarNode) i (replacedDyn new.number restore)
  let s2 := match new.minibarNode with
    | none => s1
    | some _ => setPart s1 i (some (newPart s1 i ((restore.map (·.tally)).getD 0)))
  derivePrivacy (endRoomSession s2 old.number .roomChanged) new.number none

/-- Another slot holds the room number, not 0, or the minibar node (R61). -/
def duplicateRoom (s : State) (i : Slot) (number : Half) (minibarNode : Option Node) : Bool :=
  slots.any fun j =>
    decide (j ≠ i) &&
      ((decide (number ≠ 0) && decide ((roomOf s j).number = number)) ||
        (minibarNode.isSome && decide ((roomOf s j).minibarNode = minibarNode)))

/-- The entry would remove a minibar part that holds a tally or a pending charge (R65, R178). -/
def removesOwed (s : State) (i : Slot) (number : Half) (minibarNode : Option Node) : Bool :=
  decide (number ≠ 0) && decide (number = (roomOf s i).number) && (roomOf s i).minibarNode.isSome &&
    minibarNode.isNone && ((partOf s i).any fun m => decide (m.tally ≠ 0) || !m.charges.isEmpty)

/-- What refuses a ROOM entry for the rooms already held: DUPLICATE, then ROOM (R61, R65, R178, log 20). -/
def roomConflict (s : State) (i : Slot) (bytes : List Byte) : Option RefuseReason :=
  (roomNames bytes).bind fun x =>
    if duplicateRoom s i x.1 x.2 then some .duplicate else if removesOwed s i x.1 x.2 then some .room else none

/-- An accepted ROOM entry (R65, R66). -/
def takeRoom (s : State) (i : Slot) (st : RoomStatic) (restore : Option RestorePart) : State :=
  let old := roomOf s i
  let new := roomStaticOf st.number st.minibarNode st.limit st.prices
  if new.number ≠ 0 ∧ new.number = old.number then keepRoom s i old new restore else replaceRoom s i old new restore

/-- A ROOM entry examined and posted: DUPLICATE and ROOM where R178 gives them, RANGE for every other refusal. -/
def postRoom (s : State) (i : Slot) (bytes : List Byte) : Except RefuseReason State :=
  match roomConflict s i bytes with
  | some r => .error r
  | none =>
    match parseRoom bytes with
    | none => .error .range
    | some (st, restore) => .ok (takeRoom s i st restore)

/-! ### POST (R173, R177, R178) -/

/-- A parsed entry posted at an index below `n`, or refused RANGE. -/
def postParsed {α : Type} (n i : Nat) (e : Option α) (place : Fin n → α → State) : Except RefuseReason State :=
  match e with
  | none => .error .range
  | some x => if h : i < n then .ok (place ⟨i, h⟩ x) else .error .range

/-- One entry examined and refused or posted, with the effects of its table (R173, steps 1 to 3). -/
def postAt (s : State) (t : TableId) (i : Nat) (bytes : List Byte) : Except RefuseReason State :=
  match t with
  | .config => postParsed 1 i (parseConfig bytes) fun _ e => pushPost s (.config e)
  | .door => postParsed 128 i (parseDoor bytes) fun j e => postDoor s j e
  | .room => if h : i < 128 then postRoom s ⟨i, h⟩ bytes else .error .range
  | .zone => postParsed 16 i (parseWindow bytes) fun j e => pushPost s (.zone j e)
  | .profile => postParsed 32 i (parseProfile bytes) fun j e => pushPost s (.profile j e)
  | .cls => postParsed 8 i (parseClass bytes) fun j e => pushPost s (.cls j e)
  | .price => postParsed 64 i (parsePrice bytes) fun j e => pushPost s (.price j e)

/-- The cursor after an entry (R177). -/
def cursorAfter (w : LoadWindow) : Cursor → Cursor
  | .at i => if i < w.last then .at (i + 1) else if w.wrap then .at w.first else .ended
  | .ended => .ended
  | .none => .none

/-- A cursor or index in two bytes (R211). -/
def cursorBytes : Cursor → List Byte
  | .at i => num2 i
  | .ended => [0xFF, 0xFF]
  | .none => [0xFF, 0xFF]

/-- The first refusal of a LOAD (R178, R211): absent FFFFH and 0; past the window FFFEH. -/
def firstRefusalBytes : Option (Option Nat × RefuseReason) → List Byte
  | none => [0xFF, 0xFF, 0]
  | some (some i, r) => num2 i ++ [refuseCode r]
  | some (none, r) => [0xFF, 0xFE, refuseCode r]

/-- The DONE reply of a LOAD (R178). -/
def loadReply (ld : LoadInHand) (c : Cursor) : Answer :=
  .done (num2 ld.taken ++ num2 ld.refused ++ cursorBytes c ++ firstRefusalBytes ld.firstRefusal)

/-- The next entry taken or refused; past the window it is refused without examination (R177). -/
def examine (s : State) (w : LoadWindow) (e : List Byte) : Except (Option Nat × RefuseReason) State :=
  match s.loader.cursor with
  | .at i =>
    match postAt s w.table i e with
    | .ok s1 => .ok s1
    | .error r => .error (some i, r)
  | .ended => .error (none, .range)
  | .none => .error (none, .range)

/-- The first refusal kept (R178). -/
def keepFirst (old : Option (Option Nat × RefuseReason)) (new : Option Nat × RefuseReason) :
    Option (Option Nat × RefuseReason) :=
  match old with
  | some f => some f
  | none => some new

/-- The LOAD in hand after one more entry, or its reply after the last (R178). -/
def loadAfter (s : State) (w : LoadWindow) (ld : LoadInHand) : State :=
  let c := cursorAfter w s.loader.cursor
  if ld.entries.isEmpty then
    answerRequest (s.withLoader { s.loader with cursor := c, load := none }) (loadReply ld c)
  else s.withLoader { s.loader with cursor := c, load := some ld }

/-- One post (R173). -/
def postNext (s : State) (w : LoadWindow) (ld : LoadInHand) (e : List Byte) (es : List (List Byte)) : State :=
  match examine s w e with
  | .ok s1 => loadAfter s1 w { ld with entries := es, taken := ld.taken + 1 }
  | .error f =>
    loadAfter s w { ld with entries := es, refused := ld.refused + 1, firstRefusal := keepFirst ld.firstRefusal f }

/-- POST (R173): made between table operations, while the post buffer has a free position. -/
def execPost (s : State) : Outcome :=
  if s.serving && s.port.inHand.isNone && postReady s then
    match s.loader.load, s.loader.window with
    | some ld, some w =>
      match ld.entries with
      | e :: es => done (postNext s w ld e es)
      | [] => idle s
    | _, _ => idle s
  else idle s

/-! ### DRAIN (R175) -/

/-- A post buffer entry written into the store at its index. -/
def writePost (t : Store) : PostEntry → Store
  | .config e => { t with config := e }
  | .door i e => { t with doors := put t.doors i e }
  | .room i e => { t with rooms := put t.rooms i e }
  | .zone i e => { t with zones := put t.zones i e }
  | .profile i e => { t with profiles := put t.profiles i e }
  | .cls i e => { t with classes := put t.classes i e }
  | .price i e => { t with prices := put t.prices i e }

/-- The oldest entry of the post buffer drained. -/
def drainOldest (s : State) : State :=
  match s.loader.buffer with
  | [] => s
  | e :: es => (s.withStore (writePost s.store e)).withLoader { s.loader with buffer := es }

/-- Effect of a drain. -/
def effDrain : PortOp → Option (State → State)
  | .drain => some drainOldest
  | _ => none

/-- DRAIN (R175). -/
def execDrain (form : OpForm) (s : State) : Outcome :=
  runForm form (grantSimple .loader .drain fun s => !s.loader.buffer.isEmpty) (finishOp effDrain) s

/-! ### LOAD_WINDOW and LOAD (R176, R178) -/

/-- LOAD_WINDOW taken by the loader (R176). -/
def setWindow (s : State) (table : Byte) (first last : Half) (wrap : Byte) : State :=
  match tableOf table with
  | none => answerRequest s (.refused .range)
  | some t =>
    if first.toNat ≤ last.toNat ∧ last.toNat < tableSize t then
      let w : LoadWindow := { table := t, first := first.toNat, last := last.toNat, wrap := flagOf wrap }
      answerRequest (s.withLoader { s.loader with window := some w, cursor := .at w.first })
        (.done ([tableCode t] ++ be2 first ++ be2 last ++ [flagByte w.wrap]))
    else answerRequest s (.refused .range)

/-- LOAD_WINDOW (R176). -/
def execLoadWindow (s : State) : Outcome :=
  match s.trunk.inHand with
  | some { request := .loadWindow t f l w, tag := _, unicast := _ } =>
    if s.working then done (setWindow s t f l w) else idle s
  | _ => idle s

/-- LOAD taken by the loader (R178). -/
def beginLoad (s : State) (body : List Byte) : State :=
  match s.loader.window with
  | none => answerRequest s (.refused .range)
  | some w =>
    match entriesOf w.table body with
    | none => answerRequest s (.refused .range)
    | some es =>
      let ld : LoadInHand := { entries := es, taken := 0, refused := 0, firstRefusal := none }
      if es.isEmpty then answerRequest s (loadReply ld s.loader.cursor)
      else s.withLoader { s.loader with load := some ld }

/-- LOAD (R178). -/
def execLoad (s : State) : Outcome :=
  match s.trunk.inHand with
  | some { request := .load body, tag := _, unicast := _ } =>
    if s.working && s.loader.load.isNone then done (beginLoad s body) else idle s
  | _ => idle s

/-! ### READ_ENTRIES (R180) -/

/-- The bytes of the entry at an index of a table (R180, R211). -/
def entryAt (s : State) (t : TableId) (i : Nat) : List Byte :=
  match t with
  | .config => configBytes (configOf s)
  | .door => if h : i < 128 then doorBytes (doorAt s ⟨i, h⟩) else []
  | .room => if h : i < 128 then roomBytes (roomOf s ⟨i, h⟩) (dynOf s ⟨i, h⟩) else []
  | .zone => if h : i < 16 then windowBytes (zoneOf s ⟨i, h⟩) else []
  | .profile => if h : i < 32 then profileBytes (profileOf s ⟨i, h⟩) else []
  | .cls => if h : i < 8 then classBytes (classOf s ⟨i, h⟩) else []
  | .price => if h : i < 64 then be2 (priceOf s ⟨i, h⟩) else []

/-- The entries READ_ENTRIES returns, in index order, stopping at the last (R180). -/
def entriesRead (s : State) (table : Byte) (first count : Nat) : List (List Byte) :=
  match tableOf table with
  | some t => (List.range (min count (tableSize t - first))).map fun k => entryAt s t (first + k)
  | none => ((s.store.deny.drop first).take count).map denyBytes

/-- READ_ENTRIES answered (R180). -/
def readEntries (s : State) (table : Byte) (first : Half) (count : Byte) : State :=
  if readInRange table first count then
    let es := entriesRead s table first.toNat count.toNat
    answerRequest s (.done ([table] ++ be2 first ++ [byteOf es.length] ++ es.flatten))
  else answerRequest s (.refused .range)

/-- Effect of a READ_ENTRIES. -/
def effReadEntries : PortOp → Option (State → State)
  | .readEntries => some fun s =>
    match s.trunk.inHand with
    | some { request := .readEntries t f c, tag := _, unicast := _ } => readEntries s t f c
    | _ => s
  | _ => none

/-- READ_ENTRIES (R180): one out of range is refused without a table operation. -/
def execReadEntries (form : OpForm) (s : State) : Outcome :=
  match s.trunk.inHand with
  | some { request := .readEntries t f c, tag := _, unicast := _ } =>
    if readInRange t f c then
      runForm form (grantSimple .requestUnit .readEntries (requestAsks .readEntries)) (finishOp effReadEntries) s
    else if s.working then done (readEntries s t f c)
    else idle s
  | _ => idle s

/-! ### STATUS (R195) -/

/-- The status record answered, and the last receive error set to none (R195). -/
def answerStatus (s : State) : State :=
  let s1 := answerRequest s (.done (statusBytes s))
  s1.withTrunk { s1.trunk with lastError := .none }

/-- Effect of a STATUS. -/
def effStatus : PortOp → Option (State → State)
  | .status => some answerStatus
  | _ => none

/-- STATUS (R195). -/
def execStatus (form : OpForm) (s : State) : Outcome :=
  runForm form (grantSimple .requestUnit .status (requestAsks .status)) (finishOp effStatus) s

end Sys2Proof.Machine
end

