-- ==== Sys2Proof/Machine/Time.lean ====
section
/-!
DEFINITION. The Time Unit (01_wing_time.md): TICK_EVENT with all it does in one step (the wing clock, the supply-fail
sample of R206, expiries, the FIREB sample of R97, the entry to CHECKING of R202), MINUTE_EVENT, SET_CLOCK, the clock's
own count, the Door Tracker's expiries, and VBAK_OUT_OF_RANGE.
-/

namespace Sys2Proof.Machine

/-! ### Wing clock (R2, R3) -/

/-- The condition at a minute (R3, R5). -/
def condAt (m : Minute) : ClockCond := if m = Config.lastMinute then .saturated else .set

/-- The clock after one tenth (R2, R3). -/
def clockTenth (c : Clock) : Clock :=
  if c.cond = .set then
    if c.tenth = 9 then
      if c.second = 59 then
        { minute := c.minute + 1, second := 0, tenth := 0, cond := condAt (c.minute + 1) }
      else { c with tenth := 0, second := c.second + 1 }
    else { c with tenth := c.tenth + 1 }
  else c

/-- The next tenth advances the minute (R2). -/
def minuteTurns (c : Clock) : Bool := c.cond = .set && c.tenth = 9 && c.second = 59

/-- Minute events are raised: not in RESETTING or SHUTDOWN (R6), and not by a relay-only part (R184, log 35). -/
def raisesMinutes (s : State) : Bool :=
  !s.relayOnly && decide (s.startup.phase ≠ .resetting) && decide (s.startup.phase ≠ .shutdown)

/-- The tick counter and the wing clock advanced, with the minute event (R1, R2, R6). -/
def countTick (s : State) : State :=
  let c := clockTenth s.time.clock
  s.withTime
    { s.time with
      tick := s.time.tick + 1
      clock := c
      minuteEvents :=
        if minuteTurns s.time.clock && raisesMinutes s then s.time.minuteEvents ++ [c.minute] else s.time.minuteEvents }

/-! ### Samples and expiries of a tick -/

/-- The request in hand is a LOAD. -/
def loadInHand (s : State) : Bool :=
  match s.trunk.inHand with
  | some { request := .load _, tag := _, unicast := _ } => true
  | _ => false

/-- The supply-fail pin taken (R206): a LOAD in hand ends without a reply (R179). -/
def takeSupplyFail (s : State) : State :=
  let s1 := s.withStartup { s.startup with failTaken := true }
  let s2 := s1.withLoader { s1.loader with load := none }
  if loadInHand s then s2.withTrunk { s2.trunk with inHand := none } else s2

/-- The SFAILB sample of a tick: the first asserted one takes effect (R206). It stands before the rest of its tick
(DESIGN CHOICE, log 7). -/
def sampleSupply (supplyFail : Bool) (s : State) : State :=
  if supplyFail && !s.startup.failTaken then takeSupplyFail s else s

/-- Deadlines due at the tick counter removed and their expiries put out for delivery in list order (R14); none once
the part stops (R15). -/
def expireDue (s : State) : State :=
  if s.stopping then s
  else
    s.withTime
      { s.time with
        deadlines := s.time.deadlines.filter fun d => !(d.due = s.time.tick)
        expiring :=
          s.time.expiring ++ (s.time.deadlines.filter fun d => d.due = s.time.tick).map fun d => (d.node, d.kind) }

/-- The pin state once the changes put out are taken (R97). -/
def pinAhead (o : OverrideUnit) : Bool := (o.pinChanges.getLast?).getD o.pinAsserted

/-- The FIREB sample of a tick: two that agree and differ from the pin state change it (R97). Sampling stops with the
part's stopping; a relay-only part samples nothing (log 35). -/
def sampleFire (fire : Bool) (s : State) : State :=
  if s.stopping || s.relayOnly then s
  else
    s.withOverride
      { s.override with
        lastSample := fire
        pinChanges :=
          if fire = s.override.lastSample ∧ fire ≠ pinAhead s.override then s.override.pinChanges ++ [fire]
          else s.override.pinChanges }

/-! ### Entry to CHECKING (R202) -/

/-- The deny count rebuilt, and a pass started when the clock is SET or SATURATED (R132). -/
def rebuildDeny (s : State) : State :=
  let s1 := s.withStore { s.store with denyCount := s.store.deny.length }
  if s1.time.clock.cond = .unset then s1
  else s1.withPruner { minute := some s1.time.clock.minute, cursor := 0 }

/-- The RESTART record of the entry to CHECKING, for every cause but COLD (R166, R167). -/
def recordRestart (s : State) : State :=
  if s.startup.cause = .cold then s else appendPlain s .restart (.restart s.startup.cause true)

/-- The work of bringing each minibar part into line, one operation per room (R155, R202). -/
def lineUpWork (s : State) : List MinibarWork := (slots.filter fun i => (partOf s i).isSome).map .lineUp

/-- On path KEEP the clean marker is cleared and the minibar parts are to be brought into line (R202). -/
def keepWork (s : State) : State :=
  if s.startup.keep then
    (s.withStartup { s.startup with marker := false }).withMinibar (s.minibar ++ lineUpWork s)
  else s

/-- The phase set. -/
def setPhase (s : State) (p : Phase) : State := s.withStartup { s.startup with phase := p }

/-- The entry to CHECKING (R202); a relay-only part takes up the trunk alone (R200). -/
def enterChecking (s : State) : State :=
  let s1 := setPhase s .checking
  if s1.relayOnly then s1
  else recomputeLevel (keepWork (rebuildDeny (recordRestart (lineNos.foldl loadSweep s1))))

/-- The first tick after leaving reset enters CHECKING (R200), unless the supply-fail pin was taken with it. -/
def leaveResetting (s : State) : State :=
  if s.startup.phase = .resetting ∧ s.startup.failTaken = false then enterChecking s else s

/-- What a tick event does (R1). -/
def tickStep (fire supplyFail : Bool) (s : State) : State :=
  leaveResetting (sampleFire fire (expireDue (sampleSupply supplyFail (countTick s))))

/-- TICK_EVENT (R1). -/
def execTickEvent (fire supplyFail : Bool) (s : State) : Outcome :=
  if s.ticking then done (tickStep fire supplyFail s) else idle s

/-! ### MINUTE_EVENT (R6, R129) -/

/-- MINUTE_EVENT: the oldest minute event raised is delivered to the pruner, which starts or restarts its pass; none is
delivered once the part stops (R131, R206). -/
def execMinuteEvent (s : State) : Outcome :=
  match s.time.minuteEvents with
  | [] => idle s
  | m :: ms =>
    if s.working then
      done ((s.withTime { s.time with minuteEvents := ms }).withPruner { minute := some m, cursor := 0 })
    else idle s

/-! ### CLOCK_COUNT_WITHOUT_TICK and VBAK_OUT_OF_RANGE (R4) -/

/-- The wing clock counts on its own oscillator: VDD absent and VBAK in range, SHUTDOWN, or a reset (log 29). -/
def clockAlone (s : State) : Bool :=
  if s.pins.vdd then s.startup.phase = .shutdown || s.startup.phase = .resetting else !s.pins.vbakLost

/-- CLOCK_COUNT_WITHOUT_TICK: one tenth counted; no minute event is raised (R6). -/
def execClockCountWithoutTick (s : State) : Outcome :=
  if clockAlone s then done (s.withTime { s.time with clock := clockTenth s.time.clock }) else idle s

/-- VBAK_OUT_OF_RANGE: VBAK has left its range while VDD is absent (R4, R205). -/
def execVbakOutOfRange (s : State) : Outcome :=
  if s.pins.vdd then idle s else done (s.withPins { s.pins with vbakLost := true })

/-! ### SET_CLOCK (R5) -/

/-- A second clamped to 59. -/
def clampSecond (b : Byte) : Fin 60 := ⟨min 59 b.toNat, by omega⟩

/-- The clock as SET_CLOCK leaves it. -/
def clockSet (m : Minute) (second : Byte) : Clock :=
  { minute := m, second := clampSecond second, tenth := 0, cond := condAt m }

/-- SET_CLOCK taken by the Time Unit. -/
def setClock (s : State) (m : Minute) (second : Byte) : State :=
  let c := clockSet m second
  let s1 := s.withTime { s.time with clock := c }
  answerRequest (appendPlain s1 .clockSet (.clock c.cond)) (.done (be3 c.minute ++ [byteOf c.second.val, condCode c.cond]))

/-- SET_CLOCK (R5). -/
def execSetClock (s : State) : Outcome :=
  match s.trunk.inHand with
  | some { request := .setClock m b, tag := _, unicast := _ } => if s.working then done (setClock s m b) else idle s
  | _ => idle s

/-! ### RELOCK_EXPIRY and HELD_EXPIRY (R93, R94) -/

/-- RELOCK expired at a door (R93). -/
def relockExpired (s : State) (n : Node) : State :=
  if (trackOf s n).state = .unlocked then setDoorState s n .locked else s

/-- HELD expired at a door (R94). -/
def heldExpired (s : State) (n : Node) : State :=
  if (trackOf s n).state = .opened then
    pushNotice (appendNode (setDoorState s n .held) .doorHeld n .absent) (.doorHeld n)
  else s

/-- RELOCK_EXPIRY (R93). -/
def execRelockExpiry (n : Node) (s : State) : Outcome :=
  match takeExpiry s n .relock with
  | some s1 => done (relockExpired s1 n)
  | none => idle s

/-- HELD_EXPIRY (R94). -/
def execHeldExpiry (n : Node) (s : State) : Outcome :=
  match takeExpiry s n .held with
  | some s1 => done (heldExpired s1 n)
  | none => idle s

end Sys2Proof.Machine
end

