-- ==== Sys2Proof/Machine/Override.lean ====
section
/-!
DEFINITION. The Override Unit's commands (R97 to R101): FIRE_PIN_CHANGE and SET_OVERRIDE; and the journal's JOURNAL_PUSH
(R165).
-/

namespace Sys2Proof.Machine

/-- FIRE_PIN_CHANGE: the oldest change of the pin state is made, and the effective level recomputed (R97, R98). -/
def execFirePinChange (s : State) : Outcome :=
  match s.override.pinChanges with
  | [] => idle s
  | p :: ps =>
    if s.working then
      done (recomputeLevel (s.withOverride { s.override with pinAsserted := p, pinChanges := ps }))
    else idle s

/-- The reply of SET_OVERRIDE: requested and effective levels (R99). -/
def answerLevels (s : State) : State :=
  answerRequest s (.done [levelCode s.override.requested, levelCode s.override.effective])

/-- SET_OVERRIDE taken by the Override Unit (R98, R99). -/
def setOverride (s : State) (b : Byte) : State :=
  match levelOf b with
  | none => answerRequest s (.refused .range)
  | some l =>
    if l = s.override.requested then answerLevels s
    else
      let s1 := s.withOverride { s.override with requested := l }
      if levelNow s1.override = s1.override.effective then
        answerLevels (appendPlain s1 .override (.requested l))
      else answerLevels (recomputeLevel s1)

/-- SET_OVERRIDE (R99). -/
def execSetOverride (s : State) : Outcome :=
  match s.trunk.inHand with
  | some { request := .setOverride b, tag := _, unicast := _ } =>
    if s.working then done (setOverride s b) else idle s
  | _ => idle s

/-- A push setting by its code; none for a code that names neither (R165, R211). -/
def pushOf (b : Byte) : Option Bool :=
  match b.toNat with
  | 0 => some false
  | 1 => some true
  | _ => none

/-- JOURNAL_PUSH taken by the journal (R165). -/
def setPush (s : State) (b : Byte) : State :=
  match pushOf b with
  | none => answerRequest s (.refused .range)
  | some v =>
    answerRequest (s.withJournal { s.journal with push := v })
      (.done ([flagByte v] ++ num2 s.journal.records.length))

/-- JOURNAL_PUSH (R165). -/
def execJournalPush (s : State) : Outcome :=
  match s.trunk.inHand with
  | some { request := .journalPush b, tag := _, unicast := _ } => if s.working then done (setPush s b) else idle s
  | _ => idle s

end Sys2Proof.Machine
end

