-- ==== Sys2Proof/Machine/Lines.lean ====
section
/-!
DEFINITION. The commands of the line controllers (03_door_lines.md): slots, what ends an exchange, LINE_STUCK and
LINE_FREE, LINE_MODE and ENTER_HELD.
-/

namespace Sys2Proof.Machine

/-! ### Slots (R33 to R35, R44) -/

/-- POLL_SLOT (R34): the slot that R33 chooses is a POLL. -/
def execPollSlot (l : LineNo) (s : State) : Outcome :=
  if lineRuns s l then
    match chooseSlot s l with
    | .poll a => done (beginPoll s l a)
    | .call => idle s
    | .command _ => idle s
  else idle s

/-- CALL_SLOT (R35): the slot that R33 chooses is a CALL. -/
def execCallSlot (l : LineNo) (s : State) : Outcome :=
  if lineRuns s l then
    match chooseSlot s l with
    | .call => done (beginCall s l)
    | .poll _ => idle s
    | .command _ => idle s
  else idle s

/-- COMMAND_SLOT (R44): the slot that R33 chooses is a COMMAND to the node at the head of the FIFO. -/
def execCommandSlot (l : LineNo) (s : State) : Outcome :=
  if lineRuns s l then
    match chooseSlot s l with
    | .command a =>
      match (look (lineOf s l).nodes a).command with
      | some c => done (beginCommand s l a c)
      | none => idle s
    | .call => idle s
    | .poll _ => idle s
  else idle s

/-! ### What reaches an exchange in flight -/

/-- The exchange in flight on a line, while the part serves its lines; it is completed even once the part stops
(R54). -/
def inFlight (s : State) (l : LineNo) : Option Exchange := if s.serving then (lineOf s l).exchange else none

/-- The exchange has an answer window: a POLL or a CALL (R32). -/
def hasWindow (e : Exchange) : Bool :=
  match e.kind with
  | .poll _ => true
  | .call => true
  | .command _ _ _ _ => false

/-- The exchange of a line replaced. -/
def setExchange (s : State) (l : LineNo) (e : Exchange) : State := setLine s l { lineOf s l with exchange := some e }

/-- ANSWER_RECEIVED (R37): the answer's beginning takes the capture stamp (R7), its end is taken under R29, R32, R36 to
R39 and R46. -/
def execAnswerReceived (l : LineNo) (part : AnswerPart) (s : State) : Outcome :=
  match inFlight s l with
  | none => idle s
  | some e =>
    if hasWindow e then
      match part with
      | .begins => if e.stamp.isNone then done (setExchange s l { e with stamp := some (captureNow s) }) else idle s
      | .ends chars => done (answerEnd s l e chars)
    else idle s

/-- ANSWER_WINDOW_CLOSE (R30): no answer has begun; a missed answer for a polled node, nothing for a CALL. -/
def execAnswerWindowClose (l : LineNo) (s : State) : Outcome :=
  match inFlight s l with
  | none => idle s
  | some e => if hasWindow e && e.stamp.isNone then done (abandon s l e) else idle s

/-- STRETCH_LIMIT_EXCEEDED (R31). -/
def execStretchLimitExceeded (l : LineNo) (s : State) : Outcome :=
  match inFlight s l with
  | none => idle s
  | some e => done (abandon s l e)

/-- COMMAND_DELIVERED (R44). -/
def execCommandDelivered (l : LineNo) (s : State) : Outcome :=
  match inFlight s l with
  | none => idle s
  | some e =>
    match e.kind with
    | .command a c duty fate => done (commandAccepted s l e a c duty fate)
    | .poll _ => idle s
    | .call => idle s

/-- COMMAND_NOT_DELIVERED (R44). -/
def execCommandNotDelivered (l : LineNo) (s : State) : Outcome :=
  match inFlight s l with
  | none => idle s
  | some e =>
    match e.kind with
    | .command a c duty fate => done (commandFailed s l e a c duty fate)
    | .poll _ => idle s
    | .call => idle s

/-- ANSWER_RESTART (R28): the first takes the frame anew, with its own stamp; the second abandons the exchange. -/
def execAnswerRestart (l : LineNo) (s : State) : Outcome :=
  match inFlight s l with
  | none => idle s
  | some e =>
    if hasWindow e && e.stamp.isSome then
      if e.restarted then done (abandon s l e)
      else done (setExchange s l { e with restarted := true, stamp := some (captureNow s) })
    else idle s

/-- POLL_FRAME_NOT_DELIVERED (R29). -/
def execPollFrameNotDelivered (l : LineNo) (s : State) : Outcome :=
  match inFlight s l with
  | none => idle s
  | some e =>
    match e.kind with
    | .poll _ => if e.stamp.isNone then done (abandon s l e) else idle s
    | .call => idle s
    | .command _ _ _ _ => idle s

/-! ### LINE_STUCK and LINE_FREE (R52) -/

/-- The stuck test is made: the line is idle and not HELD (R47, R52). -/
def testsWires (s : State) (l : LineNo) : Bool :=
  s.working && decide ((lineOf s l).mode ≠ .held) && (lineOf s l).exchange.isNone

/-- A line's condition set. -/
def setStuck (s : State) (l : LineNo) (v : Bool) : State := setLine s l { lineOf s l with stuck := v }

/-- LINE_STUCK (R52). -/
def execLineStuck (l : LineNo) (w : Wire) (s : State) : Outcome :=
  if testsWires s l && !(lineOf s l).stuck then
    done (pushNotice (appendLine (setStuck s l true) .lineStuck l (.wire w)) (.lineStuck l w))
  else idle s

/-- LINE_FREE (R52). -/
def execLineFree (l : LineNo) (s : State) : Outcome :=
  if testsWires s l && (lineOf s l).stuck then done (appendLine (setStuck s l false) .lineFree l .absent) else idle s

/-! ### LINE_MODE (R45) -/

/-- The modes a LINE_MODE may request. -/
inductive RequestedMode where
  | decide | transparent | held
  deriving DecidableEq, Repr

/-- A requested mode by its code; HOLDING and other codes name none (R45, R211, log 10). -/
def requestedMode (b : Byte) : Option RequestedMode :=
  match b.toNat with
  | 0 => some .decide
  | 1 => some .transparent
  | 3 => some .held
  | _ => none

/-- A line by its number. -/
def lineNumber (b : Byte) : Option LineNo := if h : b.toNat < 4 then some ⟨b.toNat, h⟩ else none

/-- HOLDING entered (R48): the request keeps its reserved position and the Request Unit goes on; HELD follows at once if
no exchange is in flight. The change has its LINE_MODE record (log 14). -/
def enterHolding (s : State) (l : LineNo) (fromTransparent : Bool) (tag : Byte) : State :=
  let s1 := changeMode s l (.holding fromTransparent) false
  let s2 := setLine s1 l { lineOf s1 l with waitingTag := some tag }
  let s3 := s2.withTrunk { s2.trunk with inHand := none }
  if (lineOf s3 l).exchange.isNone then toHeld s3 l else s3

/-- A change of mode made at once, and answered (R45). -/
def modeAtOnce (s : State) (l : LineNo) (m : LineMode) : State :=
  answerRequest (changeMode s l m false) (.done [])

/-- A LINE_MODE taken in DECIDE (R45). On the entry to TRANSPARENT the records of the sessions it ends stand before the
LINE_MODE record (log 51). -/
def takeFromDecide (s : State) (l : LineNo) (tag : Byte) : RequestedMode → State
  | .decide => answerRequest s (.done [])
  | .transparent => modeAtOnce (entryEffects s l) l .transparent
  | .held => enterHolding s l false tag

/-- A LINE_MODE taken in TRANSPARENT (R45). -/
def takeFromTransparent (s : State) (l : LineNo) (tag : Byte) : RequestedMode → State
  | .decide => modeAtOnce (returnEffects s l true) l .decide
  | .transparent => answerRequest s (.done [])
  | .held => enterHolding s l true tag

/-- A LINE_MODE taken in HELD (R45, R50). -/
def takeFromHeld (s : State) (l : LineNo) : RequestedMode → State
  | .decide => modeAtOnce (returnEffects s l false) l .decide
  | .transparent => modeAtOnce (restartChoice s l) l .transparent
  | .held => answerRequest s (.done [])

/-- The requested mode taken by the line's current mode (R45). -/
def takeMode (s : State) (l : LineNo) (m : RequestedMode) (tag : Byte) : State :=
  match (lineOf s l).mode with
  | .decide => takeFromDecide s l tag m
  | .transparent => takeFromTransparent s l tag m
  | .holding _ => answerRequest s .busy
  | .held => takeFromHeld s l m

/-- LINE_MODE taken by a line controller (R45). -/
def lineMode (s : State) (line mode tag : Byte) : State :=
  match lineNumber line, requestedMode mode with
  | some l, some m =>
    if s.override.effective = .release ∧ m ≠ .decide then answerRequest s (.refused .phase) else takeMode s l m tag
  | _, _ => answerRequest s (.refused .range)

/-- LINE_MODE (R45). -/
def execLineMode (s : State) : Outcome :=
  match s.trunk.inHand with
  | some { request := .lineMode l m, tag := t, unicast := _ } => if s.working then done (lineMode s l m t) else idle s
  | _ => idle s

/-- A line is HOLDING. -/
def isHolding : LineMode → Bool
  | .holding _ => true
  | .decide => false
  | .transparent => false
  | .held => false

/-- ENTER_HELD (R48): a HOLDING line whose exchange has ended. One that has become STUCK in the wait after an abandonment
goes on waiting until both wires are released (R31, R52). -/
def execEnterHeld (l : LineNo) (s : State) : Outcome :=
  let c := lineOf s l
  if s.working && isHolding c.mode && c.exchange.isNone && !c.stuck then done (toHeld s l) else idle s

end Sys2Proof.Machine
end

