-- ==== Sys2Proof/Machine/Trunk.lean ====
section
/-!
DEFINITION. The Trunk Interface (11_trunk_and_management_requests.md): frames received and routed (R183, R185, R186),
the Request Unit's taking (R191, R193, R201), NODE_PASS_DOWN (R198), the upstream arbiter (R189, R190) and the downstream
transmitter (R188).
-/

namespace Sys2Proof.Machine

/-! ### Receiving (R183, R185 to R187) -/

/-- The receivers take frames: the part is active and does not stop; a frame received while it stops is discarded
without trace (R187). -/
def receives (s : State) : Bool := s.active && !s.stopping

/-- A fault at a receiver recorded (R183). -/
def recordError (s : State) (e : ReceiveError) : State := s.withTrunk { s.trunk with lastError := e }

/-- The kinds that travel up (R182). -/
def travelsUp : FrameKind → Bool
  | .reply => true
  | .notice => true
  | .journal => true
  | .passUp => true
  | .request => false
  | .passDown => false
  | .other _ => false

/-- The kinds the request FIFO takes (R185). -/
def travelsDown : FrameKind → Bool
  | .request => true
  | .passDown => true
  | .reply => false
  | .notice => false
  | .journal => false
  | .passUp => false
  | .other _ => false

/-- A frame is addressed to this part alone. -/
def addressedHere (s : State) (f : Frame) : Bool :=
  match s.trunk.chain with
  | some c => f.dest.toNat = c.val
  | none => false

/-- A frame goes to the request FIFO (R185); a kind code that names none of the six is discarded there (R183). -/
def takenHere (s : State) (f : Frame) : Bool :=
  travelsDown f.kind && !s.relayOnly && (addressedHere s f || f.dest = controller)

/-- A frame goes to the relay-down queue (R185), unless downstream is ABSENT (R188). -/
def relayedDown (s : State) (f : Frame) : Bool :=
  !travelsUp f.kind && !addressedHere s f && !s.trunk.downAbsent

/-- Every position a frame needs is free (R187, log 22). -/
def positionsFree (s : State) (f : Frame) : Bool :=
  (!takenHere s f || decide (s.trunk.requests.length < Config.fifoCap)) &&
    (!relayedDown s f || decide (s.trunk.relayDown.length < Config.fifoCap))

/-- A good frame received upstream is routed (R185). -/
def routeDown (s : State) (f : Frame) : State :=
  if positionsFree s f then
    s.withTrunk { s.trunk with
      requests := if takenHere s f then s.trunk.requests ++ [f] else s.trunk.requests
      relayDown := if relayedDown s f then s.trunk.relayDown ++ [f] else s.trunk.relayDown }
  else s

/-- UPSTREAM_FRAME_RECEIVED (R183, R185). -/
def execUpstreamFrameReceived (bytes : List Byte) (s : State) : Outcome :=
  if receives s then
    match receive bytes with
    | .short => done (recordError s .length)
    | .bad => done (recordError s .check)
    | .good f => done (routeDown s f)
  else idle s

/-- A good frame received downstream is placed in the relay-up queue or discarded (R186). -/
def routeUp (s : State) (f : Frame) : State :=
  if travelsUp f.kind && decide (s.trunk.relayUp.length < Config.upCap) then
    s.withTrunk { s.trunk with relayUp := s.trunk.relayUp ++ [f] }
  else s

/-- DOWNSTREAM_FRAME_RECEIVED (R183, R186). -/
def execDownstreamFrameReceived (bytes : List Byte) (s : State) : Outcome :=
  if receives s then
    match receive bytes with
    | .short => done (recordError s .length)
    | .bad => done (recordError s .check)
    | .good f => done (routeUp s f)
  else idle s

/-- FRAME_ENDED_SHORT (R183): the same at either port. -/
def execFrameEndedShort (_p : Port) (s : State) : Outcome :=
  if receives s then done (recordError s .length) else idle s

/-! ### The Request Unit (R191 to R193, R201) -/

/-- What the phase answers to a request, if it refuses it (R201). -/
def phaseAnswer (p : Phase) (r : Request) : Option Answer :=
  match p with
  | .checking =>
    match r with
    | .status => none
    | _ => some .busy
  | .awaitLoad =>
    match r with
    | .issue _ _ _ => some (.refused .phase)
    | .issueCancel _ => some (.refused .phase)
    | .roomCheckout _ => some (.refused .phase)
    | .roomBump _ => some (.refused .phase)
    | .minibarSettle _ => some (.refused .phase)
    | .lineMode _ _ => some (.refused .phase)
    | .setOverride b =>
      match levelOf b with
      | some .normal => some (.refused .phase)
      | some .lockdown => some (.refused .phase)
      | some .release => none
      | none => none
    | .restart m =>
      match restartModeOf m with
      | some .warm => some (.refused .phase)
      | some .cold => none
      | none => none
    | _ => none
  | .run =>
    match r with
    | .go => some (.refused .phase)
    | _ => none
  | .resetting => some .busy
  | .shutdown => some .busy

/-- The requests a broadcast may make (R193). -/
def broadcastable : Request → Bool
  | .denyAdd _ _ => true
  | .denyRemove _ => true
  | .setClock _ _ => true
  | .setOverride _ => true
  | _ => false

/-- A request becomes the request in hand; an ISSUE is handed to the Issue Unit (R104, R191). -/
def handOn (s : State) (r : Request) (tag : Byte) (unicast : Bool) : State :=
  let s1 := s.withTrunk { s.trunk with inHand := some { request := r, tag := tag, unicast := unicast } }
  match r with
  | .issue _ _ _ => s1.withIssue { s1.issue with work := s1.issue.work ++ [.judge] }
  | _ => s1

/-- A unicast REQUEST judged by its form and its phase (R193). -/
def takeUnicast (s : State) (f : Frame) : State :=
  let s1 := s.withTrunk { s.trunk with reserved := s.trunk.reserved + 1 }
  match parseRequest f.body with
  | none => fillReply s1 f.tag (f.body.headD 0) (.refused .range)
  | some r =>
    match phaseAnswer s.startup.phase r with
    | some a => fillReply s1 f.tag (requestCode r) a
    | none => handOn s1 r f.tag true

/-- A broadcast REQUEST judged by its form, its phase and its code (R193); it gets no reply. -/
def takeBroadcast (s : State) (f : Frame) : State :=
  match parseRequest f.body with
  | none => s
  | some r =>
    if broadcastable r && (phaseAnswer s.startup.phase r).isNone then handOn s r f.tag false else s

/-- A NODE_PASS_DOWN frame; one sent to broadcast is not applied (R198). -/
def takePassDown (s : State) (f : Frame) : State :=
  if f.dest = controller then s else handOn s (parsePassDown f.body) f.tag false

/-- A unicast REQUEST needs a free reply position (R191). -/
def needsReply (f : Frame) : Bool := f.kind = .request && decide (f.dest ≠ controller)

/-- Reply positions neither filled nor reserved remain (R191). -/
def replyFree (s : State) : Bool := decide (replyCount s.trunk.outQueue + s.trunk.reserved < Config.fifoCap)

/-- A frame taken from the request FIFO (R191). -/
def takeFrame (s : State) (f : Frame) : State :=
  if f.kind = .passDown then takePassDown s f
  else if f.dest = controller then takeBroadcast s f
  else takeUnicast s f

/-- REQUEST_TAKE (R191): none once a RESTART has been answered (R208). -/
def execRequestTake (s : State) : Outcome :=
  match s.trunk.requests with
  | [] => idle s
  | f :: fs =>
    if s.working && s.trunk.inHand.isNone && s.startup.restart.isNone && (!needsReply f || replyFree s) then
      done (takeFrame (s.withTrunk { s.trunk with requests := fs }) f)
    else idle s

/-- A NODE_PASS_DOWN handed to its line controller (R198): one whose line is above 3, whose address is above 31 (log 24)
or whose body holds no character is discarded. -/
def passDown (s : State) (line addr : Byte) (chars : List Byte) : State :=
  if h : line.toNat < 4 ∧ addr.toNat < 32 then
    if chars.isEmpty then s
    else queueCommand s { line := ⟨line.toNat, h.1⟩, addr := ⟨addr.toNat, h.2⟩ } (.pass chars)
  else s

/-- NODE_PASS_DOWN (R198). -/
def execNodePassDown (s : State) : Outcome :=
  match s.trunk.inHand with
  | some { request := .passDown line addr chars, tag := _, unicast := _ } =>
    if s.working then done (answerRequest (passDown s line addr chars) (.done [])) else idle s
  | _ => idle s

/-! ### The upstream arbiter (R189, R190, R163, R164) -/

/-- The oldest notice's frame. -/
def offeredNotice (s : State) : Option (UpSource × List Byte) :=
  s.trunk.notices.head?.map fun n => (.notice, noticeBytes s n)

/-- The number of records of the next batch (R163). -/
def batchSize (s : State) : Nat := min Config.batchCap s.journal.records.length

/-- The journal's batch, while its offer is `o` (R162, R163). -/
def offeredJournal (s : State) (o : Offer) : Option (UpSource × List Byte) :=
  if offerOf s = o then some (.journal, journalBytes s (s.journal.records.take (batchSize s))) else none

/-- The oldest relayed frame. -/
def offeredRelay (s : State) : Option (UpSource × List Byte) :=
  s.trunk.relayUp.head?.map fun f => (.relayUp, frameBytes f)

/-- The source of a frame at priority 4. -/
def outSource : OutFrame → UpSource
  | .reply _ => .reply
  | .passUp _ _ _ => .passUp

/-- The earliest reply or pass-up frame. -/
def offeredOut (s : State) : Option (UpSource × List Byte) :=
  s.trunk.outQueue.head?.map fun f => (outSource f, outFrameBytes s f)

/-- The frame the arbiter grants next (R189); a relay-only part has one source (R184). -/
def upChoice (s : State) : Option (UpSource × List Byte) :=
  if s.relayOnly then offeredRelay s
  else
    offeredNotice s <|> offeredJournal s .urgent <|> offeredRelay s <|> offeredOut s <|> offeredJournal s .trickle

/-- A frame begins; a journal batch is in flight from then on (R163). -/
def beginUp (s : State) (x : UpSource × List Byte) : State :=
  let s1 := (s.withTrunk { s.trunk with upTx := some x }).withPins { s.pins with upRi := true }
  if x.1 = .journal then s1.withJournal { s1.journal with batch := some (batchSize s) } else s1

/-- UPSTREAM_GRANT (R189): UP_RI is asserted and no frame is being sent; none begins once the part stops (R187). -/
def execUpstreamGrant (s : State) : Outcome :=
  if receives s && s.trunk.upTx.isNone then
    match upChoice s with
    | some x => done (beginUp s x)
    | none => idle s
  else idle s

/-- A finished frame leaves its source (R164, R190). -/
def leaveSource (s : State) (src : UpSource) : State :=
  match src with
  | .notice => s.withTrunk { s.trunk with notices := s.trunk.notices.tail }
  | .journal =>
    s.withJournal { s.journal with records := s.journal.records.drop (s.journal.batch.getD 0), batch := none }
  | .relayUp => s.withTrunk { s.trunk with relayUp := s.trunk.relayUp.tail }
  | .reply => s.withTrunk { s.trunk with outQueue := s.trunk.outQueue.tail }
  | .passUp => s.withTrunk { s.trunk with outQueue := s.trunk.outQueue.tail }

/-- UPSTREAM_FRAME_FINISHED (R190). -/
def execUpstreamFrameFinished (s : State) : Outcome :=
  match s.trunk.upTx with
  | none => idle s
  | some (src, _) =>
    if s.active then
      let s1 := leaveSource s src
      done (s1.withTrunk { s1.trunk with upTx := none })
    else idle s

/-! ### The downstream transmitter (R188) -/

/-- RELAY_DOWN_SEND (R188): DN_RI is asserted. -/
def execRelayDownSend (s : State) : Outcome :=
  match s.trunk.relayDown with
  | [] => idle s
  | f :: _ =>
    if receives s && s.trunk.downTx.isNone && !s.trunk.downAbsent then
      done ((s.withTrunk { s.trunk with downTx := some (frameBytes f) }).withPins { s.pins with downRi := true })
    else idle s

/-- RELAY_DOWN_FINISHED (R188). -/
def execRelayDownFinished (s : State) : Outcome :=
  match s.trunk.downTx with
  | none => idle s
  | some _ =>
    if s.active then done (s.withTrunk { s.trunk with downTx := none, relayDown := s.trunk.relayDown.tail })
    else idle s

/-- DOWNSTREAM_ABSENT (R188): the head of the relay-down queue has waited 100 ms with DN_RI deasserted. -/
def execDownstreamAbsent (s : State) : Outcome :=
  if receives s && !s.trunk.downAbsent && !s.trunk.relayDown.isEmpty && s.trunk.downTx.isNone then
    done ((s.withTrunk { s.trunk with downAbsent := true, relayDown := [] }).withPins { s.pins with downRi := false })
  else idle s

/-- DOWNSTREAM_PRESENT (R188): DN_RI is seen asserted while ABSENT. -/
def execDownstreamPresent (s : State) : Outcome :=
  if receives s && s.trunk.downAbsent then
    done ((s.withTrunk { s.trunk with downAbsent := false }).withPins { s.pins with downRi := true })
  else idle s

end Sys2Proof.Machine
end

