-- ==== Sys2Proof/Machine/Startup.lean ====
section
/-!
DEFINITION. Start-up Control (12_start_up_retention_and_supply_failure.md): the resets, CHECKING_END, GO, RESTART and
RESTART_BEGIN, SUPPLY_FAIL and VDD_FALL.
-/

namespace Sys2Proof.Machine

/-! ### Resets (R200, R205) -/

/-- The chain address straps read: 31 is relay-only (R184). -/
def chainOf (straps : BitVec 5) : Option (Fin 31) :=
  if h : straps.toNat < 31 then some ⟨straps.toNat, h⟩ else none

/-- The store as every reset leaves it, that of a relay-only part too: no issue-in-flight marker (R68, log 54). -/
def unmarkedStore (t : Store) : Store := { t with dyns := t.dyns.map clearMarker }

/-- Every block at its value after a reset; the retained store stands as `s` holds it (R15, R54, R68, R72, R89, R96,
R102, R122, R131, R155, R166, R181, R199, R200). -/
def resetPart (s : State) (cause : StartCause) (straps : BitVec 5) (requested : Level) : State :=
  { pending := s.pending
    time := { tick := 0, clock := s.time.clock, deadlines := [], expiring := [], minuteEvents := [] }
    lines := Vector.replicate 4 .initial
    queue := []
    tracker := { doors := Vector.replicate 128 .initial, writes := [] }
    override :=
      { requested := requested, pinAsserted := false, lastSample := false, effective := .normal, pinChanges := [] }
    issue := { ctxs := Vector.replicate 2 .free, work := [] }
    minibar := []
    store := unmarkedStore s.store
    port := { inHand := none, waiting := [] }
    loader := { buffer := [], window := none, cursor := .none, load := none }
    pruner := { minute := none, cursor := 0 }
    journal := { records := s.journal.records, push := true, batch := none, offer := .none, frozen := false }
    trunk := .initial (chainOf straps)
    startup :=
      { phase := .resetting, cause := cause, keep := s.startup.marker && decide (cause ≠ .cold),
        marker := s.startup.marker, stopWork := .none, stopStep := .operation, failTaken := false, restart := none }
    pins := { s.pins with vdd := true, vbakLost := false, straps := straps } }

/-- The retained store found lost (R4, R205). -/
def loseStore (s : State) : State :=
  (((s.withStore .cleared).withJournal { s.journal with records := [] }).withTime { s.time with clock := .lost }).withStartup
    { s.startup with marker := false }

/-- POWER_ON_RESET (R205). It is taken with VDD present too, as a supply that has come and gone (log 30). A store found
lost is cleared whatever the straps, 31 included (log 54). -/
def execPowerOnReset (straps : BitVec 5) (s : State) : Outcome :=
  done (resetPart (if s.pins.vbakLost then loseStore s else s) .powerOn straps .normal)

/-- PIN_RESET (R200): no backup test; VDD is present throughout. -/
def execPinReset (straps : BitVec 5) (s : State) : Outcome :=
  if s.pins.vdd then done (resetPart s .pin straps .normal) else idle s

/-! ### CHECKING_END (R203) -/

/-- Work of the bringing into line (R155). -/
def isLineUp : MinibarWork → Bool
  | .lineUp _ => true
  | _ => false

/-- The checks of R202 are complete: no pass in progress or about to start, every minibar part brought into line on path
KEEP, and no table operation in hand (log 25). -/
def checksDone (s : State) : Bool :=
  s.pruner.minute.isNone && s.time.minuteEvents.isEmpty && s.port.inHand.isNone &&
    (!s.startup.keep || !s.minibar.any isLineUp)

/-- A phase entered, with its PHASE notice (R200). -/
def enterPhase (s : State) (p : Phase) : State := pushNotice (setPhase s p) (.phase p)

/-- The effects of a rewrite to UNUSED at one node (R203). -/
def clearNode (s : State) (n : Node) : State :=
  if configured (doorOf s n) then
    setTrack (rewriteNode (cancelNode s n) n (doorOf s n) .cleared) n .initial
  else s

/-- The retained store cleared at the end of CHECKING, with the journal's single RESTART record (R166, R203); a JOURNAL
frame being sent is cut off (R190). -/
def clearStore (s : State) : State :=
  let s1 := (slots.map nodeAt).foldl clearNode s
  let s2 := s1.withStore .cleared
  let s3 := s2.withJournal
    { s2.journal with
      records := [{ stampedRecord s2 .restart with detail := .restart s2.startup.cause false }], batch := none }
  if (s3.trunk.upTx.map Prod.fst) = some .journal then s3.withTrunk { s3.trunk with upTx := none } else s3

/-- The end of CHECKING by path and cause (R203). -/
def endChecking (s : State) : State :=
  if s.startup.keep then enterPhase s .run
  else if s.startup.cause = .cold then enterPhase s .awaitLoad
  else enterPhase (clearStore s) .awaitLoad

/-- CHECKING_END (R203). -/
def execCheckingEnd (s : State) : Outcome :=
  if s.working && decide (s.startup.phase = .checking) && checksDone s then done (endChecking s) else idle s

/-! ### GO and RESTART (R204, R208) -/

/-- GO taken by Start-up Control (R204). -/
def go (s : State) : State :=
  if s.startup.phase = .awaitLoad ∧ s.time.clock.cond ≠ .unset then
    answerRequest (enterPhase s .run) (.done [phaseCode .run])
  else answerRequest s (.refused .phase)

/-- GO (R204). -/
def execGo (s : State) : Outcome :=
  match s.trunk.inHand with
  | some { request := .go, tag := _, unicast := _ } => if s.working then done (go s) else idle s
  | _ => idle s

/-- RESTART taken by Start-up Control (R201, R208). -/
def restart (s : State) (mode : Byte) : State :=
  match restartModeOf mode with
  | none => answerRequest s (.refused .range)
  | some m =>
    let s1 := answerRequest s (.done [])
    s1.withStartup { s1.startup with restart := some m }

/-- RESTART (R208). -/
def execRestart (s : State) : Outcome :=
  match s.trunk.inHand with
  | some { request := .restart m, tag := _, unicast := _ } => if s.working then done (restart s m) else idle s
  | _ => idle s

/-! ### Stop work (R206, R208) -/

/-- The stop work at a step. -/
def atStep (s : State) (p : StopStep) : State := s.withStartup { s.startup with stopStep := p }

/-- A session closed by the stop work: with its decided outcome, else FAILED with `r`; no notice (R122). A DONE commit
removes its serial's deny entry here too (log 45). -/
def stopSession (r : FailReason) (s : State) (k : Fin 2) : State :=
  let c := ctxOf s k
  match c.outcome with
  | some _ => closeSession s k false
  | none => closeSession (setCtx s k { c with outcome := some (failOutcome c r) }) k false

/-- The contexts the warm stop work closes: every open one (R122). -/
def warmCloses (c : IssueCtx) : Bool := isOpen c

/-- The contexts the supply-fail sequence closes: those in WRITING (R122, R206, log 32). -/
def failCloses (c : IssueCtx) : Bool := c.state = .writing

/-- The room of lowest slot that still holds a pending charge (R155, R206). -/
def chargedRoom (s : State) : Option Slot :=
  slots.find? fun i => (partOf s i).any fun m => !m.charges.isEmpty

/-- The lowest-numbered context that step 4 of the stop work still has to close. -/
def ctxToClose (sel : IssueCtx → Bool) (s : State) : Option (Fin 2) := (List.finRange 2).find? fun k => sel (ctxOf s k)

/-- Steps 1 to 4 of the stop work, one piece a command (R172, R206, log 5): step 3 commits one room's charges, step 4
closes one session, and each is done when none is left. None while step 1 or 2 still waits. -/
def stopEarly (sel : IssueCtx → Bool) (r : FailReason) (s : State) : Option State :=
  match s.startup.stopStep with
  | .operation => if s.port.inHand.isNone then some (atStep s .drain) else none
  | .drain => if s.loader.buffer.isEmpty && s.port.inHand.isNone then some (atStep s .charges) else none
  | .charges =>
    match chargedRoom s with
    | some i => some (commitAll s i)
    | none => some (atStep s .sessions)
  | .sessions =>
    match ctxToClose sel s with
    | some k => some (stopSession r s k)
    | none => some (atStep s .marker)
  | .marker => none
  | .finish => none

/-- The clean marker written. -/
def writeMarker (s : State) : State := s.withStartup { s.startup with marker := true }

/-- RESTART COLD (R208): the retained store cleared, the clock kept, the journal with its single RESTART record (R167),
whatever the straps read at the reset (log 58). -/
def coldReset (s : State) (straps : BitVec 5) : State :=
  let s1 := (s.withStore .cleared).withStartup { s.startup with marker := false }
  let s2 := s1.withJournal
    { s1.journal with records := [{ stampedRecord s1 .restart with detail := .restart .cold false }] }
  resetPart s2 .cold straps .normal

/-- RESTART WARM, one piece a command (R208, log 5): the stop work, then the marker and the reset, which keeps the
requested level (R102) and waits for no exchange in flight (log 41). -/
def warmStep (s : State) (straps : BitVec 5) : Option State :=
  if s.startup.stopWork = .none then
    some (s.withStartup { s.startup with stopWork := .warm, stopStep := .operation })
  else
    match s.startup.stopStep with
    | .marker => some (resetPart (writeMarker s) .warm straps s.override.requested)
    | .finish => some (resetPart (writeMarker s) .warm straps s.override.requested)
    | _ => stopEarly warmCloses .restart s

/-- The phases a restart leaves (R200). -/
def restartable (p : Phase) : Bool := p = .run || p = .awaitLoad

/-- RESTART_BEGIN (R194, R208): a supply fail taken takes the work over (R206); a RESTART not yet begun then is dropped
(log 48). -/
def execRestartBegin (straps : BitVec 5) (s : State) : Outcome :=
  if s.serving && restartable s.startup.phase && !s.startup.failTaken then
    match s.startup.restart with
    | none => idle s
    | some .cold => done (coldReset s straps)
    | some .warm =>
      match warmStep s straps with
      | some s1 => done s1
      | none => idle s
  else idle s

/-! ### SUPPLY_FAIL and VDD_FALL (R206, R207) -/

/-- Stop work set to SUPPLY_FAIL: a warm stop work under way goes on from the step it reached; a relay-only part takes
step 6 alone (R200, R206). -/
def beginFail (s : State) : State :=
  s.withStartup
    { s.startup with
      stopWork := .supplyFail
      stopStep :=
        if s.relayOnly then .finish else if s.startup.stopWork = .warm then s.startup.stopStep else .operation }

/-- Step 5 writes the marker in RUN, and in CHECKING on path KEEP (R206); a relay-only part writes none (R200). -/
def marksClean (s : State) : Bool :=
  !s.relayOnly && (s.startup.phase = .run || (s.startup.phase = .checking && s.startup.keep))

/-- Frames and exchanges in progress are complete (R206). -/
def allQuiet (s : State) : Bool :=
  s.trunk.upTx.isNone && s.trunk.downTx.isNone && lineNos.all fun l => (lineOf s l).exchange.isNone

/-- The journal frozen and the phase SHUTDOWN (R206, step 6). -/
def enterShutdown (s : State) : State := setPhase (s.withJournal { s.journal with frozen := true }) .shutdown

/-- One step of the supply-fail sequence (R206, log 5). -/
def failStep (s : State) : Option State :=
  if s.startup.stopWork = .supplyFail then
    match s.startup.stopStep with
    | .marker => some (atStep (if marksClean s then writeMarker s else s) .finish)
    | .finish => if allQuiet s then some (enterShutdown s) else none
    | _ => stopEarly failCloses .shutdown s
  else some (beginFail s)

/-- SUPPLY_FAIL (R206). -/
def execSupplyFail (s : State) : Outcome :=
  if s.startup.failTaken && s.ticking then
    match failStep s with
    | some s1 => done s1
    | none => idle s
  else idle s

/-- VDD_FALL (R190, R206): frames being sent are cut off; a batch in flight keeps its records (R164). -/
def execVddFall (s : State) : Outcome :=
  if s.pins.vdd then
    done
      (((s.withPins { s.pins with vdd := false }).withTrunk { s.trunk with upTx := none, downTx := none }).withJournal
        { s.journal with batch := none })
  else idle s

end Sys2Proof.Machine
end

