-- ==== Sys2Proof/Machine/Dispatch.lean ====
section
/-!
DEFINITION. One arm for each command of `Instr`, each one direct call of the command's meaning.
-/

namespace Sys2Proof.Machine

/-- What a command does to everything but the queue. -/
def exec (i : Instr) (s : State) : Host.Outcome State Fault Refusal :=
  match i with
  | .powerOnReset straps => Sys2Proof.Machine.execPowerOnReset straps s
  | .pinReset straps => Sys2Proof.Machine.execPinReset straps s
  | .tickEvent fire supplyFail => Sys2Proof.Machine.execTickEvent fire supplyFail s
  | .minuteEvent => Sys2Proof.Machine.execMinuteEvent s
  | .firePinChange => Sys2Proof.Machine.execFirePinChange s
  | .relockExpiry n => Sys2Proof.Machine.execRelockExpiry n s
  | .heldExpiry n => Sys2Proof.Machine.execHeldExpiry n s
  | .relatchExpiry n => Sys2Proof.Machine.execRelatchExpiry n s
  | .relatchExpiryOperation form => Sys2Proof.Machine.execRelatchExpiryOperation form s
  | .returnExpiry n => Sys2Proof.Machine.execReturnExpiry n s
  | .returnExpiryOperation form => Sys2Proof.Machine.execReturnExpiryOperation form s
  | .issueTimeoutExpiry n => Sys2Proof.Machine.execIssueTimeoutExpiry n s
  | .pollSlot l => Sys2Proof.Machine.execPollSlot l s
  | .callSlot l => Sys2Proof.Machine.execCallSlot l s
  | .commandSlot l => Sys2Proof.Machine.execCommandSlot l s
  | .answerReceived l part => Sys2Proof.Machine.execAnswerReceived l part s
  | .answerWindowClose l => Sys2Proof.Machine.execAnswerWindowClose l s
  | .stretchLimitExceeded l => Sys2Proof.Machine.execStretchLimitExceeded l s
  | .commandDelivered l => Sys2Proof.Machine.execCommandDelivered l s
  | .commandNotDelivered l => Sys2Proof.Machine.execCommandNotDelivered l s
  | .lineStuck l w => Sys2Proof.Machine.execLineStuck l w s
  | .lineFree l => Sys2Proof.Machine.execLineFree l s
  | .lineMode => Sys2Proof.Machine.execLineMode s
  | .enterHeld l => Sys2Proof.Machine.execEnterHeld l s
  | .decision form => Sys2Proof.Machine.execDecision form s
  | .privacyWrite form => Sys2Proof.Machine.execPrivacyWrite form s
  | .reportItemOperation form => Sys2Proof.Machine.execReportItemOperation form s
  | .forcedCommit form => Sys2Proof.Machine.execForcedCommit form s
  | .minibarBringIntoLine form => Sys2Proof.Machine.execMinibarBringIntoLine form s
  | .issue form => Sys2Proof.Machine.execIssue form s
  | .composition form => Sys2Proof.Machine.execComposition form s
  | .issueClosing form => Sys2Proof.Machine.execIssueClosing form s
  | .issueCancel => Sys2Proof.Machine.execIssueCancel s
  | .roomCheckout form => Sys2Proof.Machine.execRoomCheckout form s
  | .roomBump form => Sys2Proof.Machine.execRoomBump form s
  | .minibarSettle form => Sys2Proof.Machine.execMinibarSettle form s
  | .denyAdd form => Sys2Proof.Machine.execDenyAdd form s
  | .denyRemove form => Sys2Proof.Machine.execDenyRemove form s
  | .pruneStep form => Sys2Proof.Machine.execPruneStep form s
  | .journalPush => Sys2Proof.Machine.execJournalPush s
  | .post => Sys2Proof.Machine.execPost s
  | .drain form => Sys2Proof.Machine.execDrain form s
  | .loadWindow => Sys2Proof.Machine.execLoadWindow s
  | .load => Sys2Proof.Machine.execLoad s
  | .readEntries form => Sys2Proof.Machine.execReadEntries form s
  | .status form => Sys2Proof.Machine.execStatus form s
  | .setClock => Sys2Proof.Machine.execSetClock s
  | .setOverride => Sys2Proof.Machine.execSetOverride s
  | .go => Sys2Proof.Machine.execGo s
  | .restart => Sys2Proof.Machine.execRestart s
  | .restartBegin straps => Sys2Proof.Machine.execRestartBegin straps s
  | .checkingEnd => Sys2Proof.Machine.execCheckingEnd s
  | .supplyFail => Sys2Proof.Machine.execSupplyFail s
  | .vddFall => Sys2Proof.Machine.execVddFall s
  | .upstreamFrameReceived bytes => Sys2Proof.Machine.execUpstreamFrameReceived bytes s
  | .downstreamFrameReceived bytes => Sys2Proof.Machine.execDownstreamFrameReceived bytes s
  | .frameEndedShort p => Sys2Proof.Machine.execFrameEndedShort p s
  | .requestTake => Sys2Proof.Machine.execRequestTake s
  | .nodePassDown => Sys2Proof.Machine.execNodePassDown s
  | .upstreamGrant => Sys2Proof.Machine.execUpstreamGrant s
  | .upstreamFrameFinished => Sys2Proof.Machine.execUpstreamFrameFinished s
  | .relayDownSend => Sys2Proof.Machine.execRelayDownSend s
  | .relayDownFinished => Sys2Proof.Machine.execRelayDownFinished s
  | .downstreamAbsent => Sys2Proof.Machine.execDownstreamAbsent s
  | .downstreamPresent => Sys2Proof.Machine.execDownstreamPresent s
  | .answerRestart l => Sys2Proof.Machine.execAnswerRestart l s
  | .pollFrameNotDelivered l => Sys2Proof.Machine.execPollFrameNotDelivered l s
  | .vbakOutOfRange => Sys2Proof.Machine.execVbakOutOfRange s
  | .clockCountWithoutTick => Sys2Proof.Machine.execClockCountWithoutTick s

end Sys2Proof.Machine
end

