-- ==== Sys2Proof/Safety.lean ====
section
/-!
DEFINITION. What statements about the part are written in: what a command leaves unchanged, what a request's answer and a
record leave behind, the invariants the rules give the state, and which commands change the phase, the tick counter, the
wing clock and the clean marker. A safe run is one whose every state holds `Sound`.
-/

namespace Sys2Proof.Machine

/-! ### Frames -/

/-- The blocks of the state. -/
inductive Block where
  | time | lines | queue | tracker | override | issue | minibar | store | port | loader | pruner | journal | trunk
  | startup | pins
  deriving DecidableEq, Repr

/-- A block is unchanged. The waiting requests of the table port, the journal's offer and the ready outputs follow from
the rest of the state (R162, R171, R187) and are left out: every command brings them up to date. -/
def sameBlock (s t : State) : Block → Prop
  | .time => t.time = s.time
  | .lines => t.lines = s.lines
  | .queue => t.queue = s.queue
  | .tracker => t.tracker = s.tracker
  | .override => t.override = s.override
  | .issue => t.issue = s.issue
  | .minibar => t.minibar = s.minibar
  | .store => t.store = s.store
  | .port => t.port.inHand = s.port.inHand
  | .loader => t.loader = s.loader
  | .pruner => t.pruner = s.pruner
  | .journal => t.journal = { s.journal with offer := t.journal.offer }
  | .trunk => t.trunk = { s.trunk with upRo := t.trunk.upRo, downRo := t.trunk.downRo }
  | .startup => t.startup = s.startup
  | .pins => t.pins = s.pins

/-- Every block but those listed is unchanged, and so is the queue of commands. -/
def unchangedBut (bs : List Block) (s t : State) : Prop :=
  t.pending = s.pending ∧ ∀ b, b ∉ bs → sameBlock s t b

/-! ### What a record and an answer leave -/

/-- The journal takes appends: it is not frozen (R168) and the part is not relay-only (R169). -/
def journals (s : State) : Bool := !s.journal.frozen && !s.relayOnly

/-- The journal of `t` is that of `s` with records appended in order (R159, R160), and otherwise unchanged. -/
def appendsAll (s t : State) (rs : List Record) : Prop :=
  t.journal =
    { s.journal with
      records := if journals s then rs.foldl appended s.journal.records else s.journal.records
      offer := t.journal.offer }

/-- The trunk of `t` is `x`, its ready outputs apart. -/
def trunkIs (t : State) (x : Trunk) : Prop := t.trunk = { x with upRo := t.trunk.upRo, downRo := t.trunk.downRo }

/-- The reply a request in hand gets: one REPLY for a unicast request, none for any other (R193, R194). -/
def replyTo (r : RequestInHand) (a : Answer) : List OutFrame :=
  if r.unicast then [.reply { tag := r.tag, code := requestCode r.request, answer := a }] else []

/-- A trunk with the request in hand answered: its reserved position is filled and the Request Unit is free (R191,
R194). -/
def answeredTrunk (x : Trunk) (r : RequestInHand) (a : Answer) : Trunk :=
  { x with
    inHand := none
    outQueue := x.outQueue ++ replyTo r a
    reserved := x.reserved - (replyTo r a).length }

/-- The trunk of `t` is that of `s` with the request in hand answered. -/
def answers (s t : State) (r : RequestInHand) (a : Answer) : Prop := trunkIs t (answeredTrunk s.trunk r a)

/-- The notice queue after notices in order, each added while it holds fewer than 8 (R196). -/
def noticesWith (s : State) (bs : List NoticeBody) : List Notice :=
  bs.foldl
    (fun q b =>
      if q.length < 8 then q ++ [{ minute := s.time.clock.minute, second := s.time.clock.second, body := b }] else q)
    s.trunk.notices

/-- The notice queue after a notice: added while it holds fewer than 8 (R196). -/
def noticesAfter (s : State) (b : NoticeBody) : List Notice := noticesWith s [b]

/-- The trunk of `t` is that of `s` with a notice queued, or lost when the queue holds 8 (R196). -/
def notifies (s t : State) (b : NoticeBody) : Prop := trunkIs t { s.trunk with notices := noticesAfter s b }

/-- A request in hand that its taker may take up. -/
def asked (s : State) (r : RequestInHand) : Prop := s.working = true ∧ s.trunk.inHand = some r

/-- A table operation in hand that may complete (R170). -/
def opInHand (s : State) (op : PortOp) : Prop := s.serving = true ∧ s.port.inHand = some op

/-- A request's table operation in hand that may complete. -/
def opFor (s : State) (op : PortOp) (r : RequestInHand) : Prop := opInHand s op ∧ s.trunk.inHand = some r

/-! ### What one step of the clock, a door and a level do -/

/-- One tenth counted by the wing clock (R2, R3). -/
def clockCounts (c d : Clock) : Prop :=
  (c.cond ≠ .set → d = c) ∧
    (c.cond = .set → c.tenth ≠ 9 → d = { c with tenth := c.tenth + 1 }) ∧
    (c.cond = .set → c.tenth = 9 → c.second ≠ 59 → d = { c with tenth := 0, second := c.second + 1 }) ∧
    (c.cond = .set → c.tenth = 9 → c.second = 59 →
      d = { minute := c.minute + 1, second := 0, tenth := 0,
            cond := if c.minute + 1 = 16777215 then .saturated else .set })

/-- The minute event that a tick raises (R6): the clock's new minute, if the minute has advanced; none in RESETTING, and none
by a relay-only part (log 35). -/
def minuteRaised (s t : State) : List Minute :=
  if t.time.clock.minute ≠ s.time.clock.minute ∧ s.relayOnly = false ∧ s.startup.phase ≠ .resetting then
    [t.time.clock.minute]
  else []

/-- The Override Unit with FIREB sampled (R97): two samples that agree and differ from the pin state change it. -/
def fireSampled (o : OverrideUnit) (fire : Bool) : OverrideUnit :=
  { o with
    lastSample := fire
    pinChanges :=
      o.pinChanges ++
        (if fire = o.lastSample ∧ fire ≠ o.pinChanges.getLast?.getD o.pinAsserted then [fire] else []) }

/-- What the Door Tracker holds is unchanged but for one node. -/
def doorsBut (n : Node) (s t : State) : Prop :=
  t.tracker.writes = s.tracker.writes ∧ ∀ m, m ≠ n → trackOf t m = trackOf s m

/-- The expiry that the oldest delivery to an owner is (R14): `kinds` are the owner's. -/
def delivered (s : State) (n : Node) (k : DeadlineKind) (kinds : List DeadlineKind) : Prop :=
  s.working = true ∧ s.time.expiring.find? (fun x => kinds.contains x.2) = some (n, k)

/-- The Time Unit with one delivered expiry taken. -/
def expiryTaken (s t : State) (n : Node) (k : DeadlineKind) : Prop :=
  t.time = { s.time with expiring := s.time.expiring.erase (n, k) }

/-! ### Lines and nodes -/

/-- Every line but one is unchanged. -/
def linesBut (l : LineNo) (s t : State) : Prop := ∀ m, m ≠ l → lineOf t m = lineOf s m

/-- A line may begin a slot (R32, R47, R52). -/
def slotFree (s : State) (l : LineNo) : Prop :=
  s.working = true ∧ ((lineOf s l).mode = .decide ∨ (lineOf s l).mode = .transparent) ∧
    (lineOf s l).stuck = false ∧ (lineOf s l).exchange = none

/-- The first address of those `p` holds for after a poll position, in the order 0 to 31 that goes on after 31 with 0;
the lowest of them when the position is none (R34). -/
def firstAfter (pos : Option Addr) (p : Addr → Prop) (a : Addr) : Prop :=
  p a ∧ ∀ b, p b →
    match pos with
    | none => a.val ≤ b.val
    | some q => (a.val + 31 - q.val) % 32 ≤ (b.val + 31 - q.val) % 32

/-- An exchange as it begins: its frame, at the rate and stretch limit in force (R27, R31). -/
def freshExchange (s : State) (l : LineNo) (kind : ExchangeKind) (frame : List Byte) : Exchange :=
  { kind := kind, frame := frame, rate := look (configOf s).rates l, stretch := (configOf s).stretch, stamp := none,
    restarted := false, stale := [] }

/-- An exchange in flight that the part serves, also while it stops (R54, log 43). -/
def flying (s : State) (l : LineNo) (e : Exchange) : Prop := s.serving = true ∧ (lineOf s l).exchange = some e

/-- The DOOR entry an exchange with a node is completed under (R34): the one that the first post to the node since the exchange
began has replaced; with no such post, the one now read. For the node that answers a CALL, the same (log 49). -/
def begunUnder (s : State) (l : LineNo) (e : Exchange) (a : Addr) : DoorEntry :=
  ((e.stale.find? fun x => x.1 == a).map Prod.snd).getD (doorOf s { line := l, addr := a })

/-- A node after a missed answer (R39, R40). -/
def nodeMissed (x : NodeCtl) : NodeCtl :=
  if 2 ≤ x.missed.val then { x with missed := 3, silent := true } else { x with missed := x.missed + 1 }

/-- A missed answer takes a PRESENT node to SILENT (R40). -/
abbrev fallsSilent (x : NodeCtl) : Prop := 2 ≤ x.missed.val ∧ x.silent = false

/-- What falling SILENT reports (R40): the record and the notice; else nothing. -/
def silenceReported (s t : State) (n : Node) (x : NodeCtl) : Prop :=
  (fallsSilent x →
    appendsAll s t [{ stampedRecord s .nodeSilent with node := some (.node n) }] ∧ notifies s t (.nodeSilent n)) ∧
    (¬ fallsSilent x → appendsAll s t [] ∧ trunkIs t s.trunk)

/-- The sweep set of a line holds exactly its configured nodes, and slot choice has restarted (R50). -/
def sweepLoaded (l : LineNo) (s t : State) : Prop :=
  (lineOf t l).prevSlot = none ∧ (lineOf t l).pollPos = (lineOf s l).pollPos ∧
    ∀ a, (look (lineOf t l).nodes a).inSweep = configured (doorOf s { line := l, addr := a })

/-! ### Commands -/

/-- A command's mark on the exchange in flight, when that carries a command of node `a` (log 12, log 56). -/
def flightMarked (a : Addr) (f : Fate) (e : Exchange) : Exchange :=
  match e.kind with
  | .command b x duty now => if b = a then { e with kind := .command b x duty (now.then f) } else e
  | .poll _ => e
  | .call => e

/-- A pending command that a newer one does not replace (R42). -/
def outlasts (old new : Command) : Bool :=
  match old with
  | .holdOpen => new != .releaseEnd
  | .grant _ => new == .busy
  | .refuse _ => new == .busy
  | _ => false

/-- A line once a command has been queued for one of its nodes (R42, R43): with none pending it becomes the pending command,
last in the FIFO; else it is discarded, or it replaces the older one in its place, with the end-hold duty of R43. Every other
node keeps its command, its place and its duty. -/
def lineQueued (c : LineCtl) (a : Addr) (new : Command) : LineCtl :=
  let x := look c.nodes a
  match x.command with
  | none =>
    { c with
      fifo := c.fifo.filter (fun b => b != a) ++ [a]
      nodes := put c.nodes a { x with command := some new, attempts := 0, duty := false } }
  | some old =>
    if outlasts old new then c
    else
      { c with
        nodes :=
          put c.nodes a
            { x with
              command := some new, attempts := 0
              duty := (x.duty || decide (old = .releaseEnd)) && decide (new ≠ .holdOpen) }
        exchange := c.exchange.map (flightMarked a .replaced) }

/-- The lines once a command has been queued for a configured node (R42); every other line is unchanged. -/
def linesQueued (s : State) (n : Node) (new : Command) : Vector LineCtl 4 :=
  put s.lines n.line (lineQueued (lineOf s n.line) n.addr new)

/-- A decision's GRANT or HOLD_OPEN queued for its node if the node's line is in DECIDE (R87), and no other command: every
other line, and every other node of its line, keeps its command, its place in the FIFO and its duty. A pending HOLD_OPEN
stays (R42). -/
def grantQueued (s t : State) (n : Node) (c : Command) : Prop :=
  t.lines = (if (lineOf s n.line).mode = .decide then linesQueued s n c else s.lines) ∧
    ((lineOf s n.line).mode = .decide →
      (nodeOf t n).command = if (nodeOf s n).command = some .holdOpen then some .holdOpen else some c)

/-- A line once a session's PREPARE or WRITE has been withdrawn from one of its nodes (R115): dropped with its FIFO place, or
marked withdrawn while its exchange is in flight. -/
def lineWithdrawn (c : LineCtl) (a : Addr) : LineCtl :=
  let x := look c.nodes a
  if x.command.map isSessionCommand = some true then
    if flightFate c a = some .live then { c with exchange := c.exchange.map (flightMarked a .withdrawn) }
    else
      { c with
        fifo := c.fifo.filter fun b => b != a
        nodes := put c.nodes a { x with command := none, attempts := 0, duty := false }
        exchange := c.exchange.map (flightMarked a .withdrawn) }
  else c

/-- The lines once a session's command has been withdrawn from its node (R115); every other line is unchanged. -/
def linesWithdrawn (s : State) (n : Node) : Vector LineCtl 4 :=
  put s.lines n.line (lineWithdrawn (lineOf s n.line) n.addr)

/-! ### The end of a session -/

/-- A session's burn flag (R113, R114): a GUEST NEW in WRITING burns, unless its room has changed. -/
def burns (c : IssueCtx) (why : FailReason) : Bool :=
  decide (c.state = .writing ∧ c.stay.cls = 1 ∧ c.duplicate = false ∧ why ≠ .roomChanged)

/-- The sessions that end early (R112 to R115): a GUEST's outcome is decided, its held BLANK is discarded and its closing
asked for; another class's context is FREE at once. A composition asked for is withdrawn. -/
def sessionsEnded (s : State) (ks : List (Fin 2)) (why : FailReason) : IssueUnit :=
  { ctxs :=
      ks.foldl
        (fun v k =>
          put v k
            (if (ctxOf s k).stay.cls = 1 then
              { ctxOf s k with outcome := some (.failed why (burns (ctxOf s k) why)), heldBlank := none }
            else .free))
        s.issue.ctxs
    work :=
      (s.issue.work.filter fun w => !ks.any fun k => w == .composition k) ++
        (ks.filter fun k => (ctxOf s k).stay.cls = 1).map .closing }

/-- The records of their ends (R113, R114, R118): ISSUE_FAILED at once for a class other than GUEST. -/
def endRecords (s : State) (ks : List (Fin 2)) (why : FailReason) : List Record :=
  (ks.filter fun k => !((ctxOf s k).stay.cls = 1)).map fun k =>
    { stampedRecord s .issueFailed with
      node := some (.node (ctxOf s k).node), serial := (ctxOf s k).serial, cls := some (ctxOf s k).stay.cls,
      detail := .issue none (some (why, false)) }

/-- The notices of their ends. -/
def endNotices (s : State) (ks : List (Fin 2)) (why : FailReason) : List NoticeBody :=
  (ks.filter fun k => !((ctxOf s k).stay.cls = 1)).map fun k =>
    .issueResult (ctxOf s k).tag k (.failed why false) (ctxOf s k).serial none

/-- The session open on a node whose outcome is not decided, if one is: a cause of R112 ends it. -/
def endable (s : State) (n : Node) : List (Fin 2) :=
  (ctxOfNode s n).toList.filter fun k => (ctxOf s k).outcome.isNone

/-- The timeout of a session's node cancelled (R115). -/
def timeoutCancelled (s t : State) (n : Node) : Prop :=
  t.time = { s.time with deadlines := s.time.deadlines.filter fun d => !(d.node == n && d.kind == .issueTimeout) }

/-- The session that a newer command ends by replacing its PREPARE or WRITE (R42, R112): a PREPARE's while it is in
AWAIT_BLANK, a WRITE's while it is WRITING; a command already withdrawn ends none. -/
def replacedSession (s : State) (n : Node) (new : Command) : List (Fin 2) :=
  match (nodeOf s n).command with
  | none => []
  | some old =>
    if outlasts old new = false ∧ isSessionCommand old = true ∧
        flightFate (lineOf s n.line) n.addr ≠ some .withdrawn then
      (endable s n).filter fun k =>
        decide ((ctxOf s k).state = if old = .prepare then CtxState.awaitBlank else CtxState.writing)
    else []

/-- What the end of sessions on a node leaves of the Issue Unit and the deadlines (R115). -/
def endedOn (s t : State) (n : Node) (ks : List (Fin 2)) (why : FailReason) : Prop :=
  t.issue = sessionsEnded s ks why ∧
    t.time =
      { s.time with
        deadlines :=
          if ks = [] then s.time.deadlines
          else s.time.deadlines.filter fun d => !(d.node == n && d.kind == .issueTimeout) }

/-- ISSUE_TIMEOUT runs for a node, `ticks` from now (R106, R107), and no other deadline has changed. -/
def timeoutArmed (s t : State) (n : Node) (ticks : Tick) : Prop :=
  t.time = { s.time with deadlines := t.time.deadlines } ∧
    t.time.deadlines.filter (fun d => d.node == n && d.kind == .issueTimeout) =
      [{ due := s.time.tick + ticks, node := n, kind := .issueTimeout }] ∧
    t.time.deadlines.filter (fun d => !(d.node == n && d.kind == .issueTimeout)) =
      s.time.deadlines.filter fun d => !(d.node == n && d.kind == .issueTimeout)

/-- The DENY record of a commit of a serial that the list holds (R110, R133): the serial, the expiry it held, ISSUE. -/
def denyRecords (s : State) (serial : Option Serial) : List Record :=
  (s.store.deny.find? fun e => decide (some e.serial = serial)).toList.map fun e =>
    { stampedRecord s .deny with serial := serial, detail := .deny .issue (some e.expiry) }

/-- The Table Store after a commit of a serial (R110, R133): its deny entry removed and the count with it; the loaded tables
stand, and the room records as the statement says. -/
def denyCommitted (s t : State) (serial : Option Serial) : Prop :=
  let left := s.store.deny.filter fun e => !decide (some e.serial = serial)
  t.store =
    { s.store with
      dyns := t.store.dyns, deny := left
      denyCount := if left = s.store.deny then s.store.denyCount else left.length }

/-- No PREPARE or WRITE is pending for a node (R115). -/
def sessionCommandGone (t : State) (n : Node) : Prop :=
  ∀ x, (nodeOf t n).command = some x → isSessionCommand x = false

/-! ### What a mode change and a level change leave -/

/-- The sessions that a line's entry into TRANSPARENT or HELD ends, by rising address (R49, log 26). -/
def sessionsOnLine (s : State) (l : LineNo) : List (Fin 2) :=
  (List.finRange 32).flatMap fun a =>
    if (doorOf s { line := l, addr := a }).kind = .encoder then endable s { line := l, addr := a } else []

/-- What entering TRANSPARENT or HELD leaves on a line (R49): no presentation waits, no command but HOLD_OPEN is pending
and no duty is set, no deadline runs, every door is UNKNOWN with its deadbolt kept, every minibar's charges are to be
committed and every session ends LINE_MODE, by rising address (log 26); what is not of the line stands. -/
def lineEntered (l : LineNo) (s t : State) : Prop :=
  t.queue = s.queue.filter (fun p => p.node.line != l) ∧
    t.time = { s.time with deadlines := s.time.deadlines.filter (fun d => d.node.line != l) } ∧
    (∀ n : Node, n.line = l →
      (nodeOf t n).command =
          (if (nodeOf s n).command = some .holdOpen then some .holdOpen else none) ∧
        ((nodeOf s n).command ≠ some .holdOpen → (nodeOf t n).duty = false ∧ n.addr ∉ (lineOf t l).fifo)) ∧
    linesBut l s t ∧
    (∀ n : Node,
      trackOf t n =
        if n.line = l ∧ isDoor (doorOf s n) = true then { trackOf s n with state := .unknown, contact := none }
        else trackOf s n) ∧
    t.tracker.writes = s.tracker.writes ∧
    t.minibar =
      s.minibar ++
        (((List.finRange 32).filter fun a => (doorOf s { line := l, addr := a }).kind == .minibar).map
          fun a => .forced (.lineMode { line := l, addr := a })) ∧
    t.issue = sessionsEnded s (sessionsOnLine s l) .lineMode

/-- A line that RELEASE takes back with its hold broken: HOLDING or HELD (R51). -/
def holdBroken : LineMode → Bool
  | .holding _ => true
  | .held => true
  | .decide => false
  | .transparent => false

/-- The LINE_MODE records of RELEASE, line by line (R51). -/
def releaseRecords (s : State) : List Record :=
  ((List.finRange 4).filter fun l => (lineOf s l).mode ≠ .decide).map fun l =>
    { stampedRecord s .lineMode with
      node := some (.line l), detail := .lineMode .decide (holdBroken (lineOf s l).mode) }

/-- The HOLD_BROKEN notices of RELEASE, line by line (R51). -/
def releaseNotices (s : State) : List NoticeBody :=
  ((List.finRange 4).filter fun l => holdBroken (lineOf s l).mode).map .holdBroken

/-- The replies of RELEASE to the LINE_MODE requests that wait for HELD (R51). -/
def releaseReplies (s : State) : List OutFrame :=
  (List.finRange 4).flatMap fun l =>
    match (lineOf s l).mode with
    | .holding _ =>
      (lineOf s l).waitingTag.toList.map fun tag => .reply { tag := tag, code := 14, answer := .refused .phase }
    | _ => []

/-- A line that leaves TRANSPARENT, or HOLDING entered from it, without its PASS commands: each is dropped with its FIFO
place (R50), and so is one in flight (log 13). -/
def passesDropped (c : LineCtl) : LineCtl :=
  let drops : Addr → Bool := fun a => ((look c.nodes a).command.map isPass).getD false
  { c with
    fifo := c.fifo.filter fun a => !drops a
    nodes :=
      Vector.ofFn fun a =>
        if drops a then { look c.nodes a with command := none, attempts := 0, duty := false } else look c.nodes a
    exchange :=
      c.exchange.map fun e =>
        match e.kind with
        | .command a _ _ _ => if drops a then flightMarked a .dropped e else e
        | .poll _ => e
        | .call => e }

/-- A line with its sweep set loaded with every configured node (R34, R50, R54). -/
def sweepFilled (s : State) (l : LineNo) (c : LineCtl) : LineCtl :=
  { c with
    nodes :=
      Vector.ofFn fun a =>
        { look c.nodes a with inSweep := configured (doorOf s { line := l, addr := a }) } }

/-- A line taken back to DECIDE (R50, R51): after TRANSPARENT, and HOLDING entered from it, the PASS commands are dropped;
after those and after HELD the sweep set is loaded and slot choice restarts. The exchange in flight, the poll position, the
condition and every other command stay. -/
def lineTakenBack (s : State) (l : LineNo) : LineCtl :=
  let c := lineOf s l
  match c.mode with
  | .decide => c
  | .transparent => { sweepFilled s l (passesDropped c) with mode := .decide, prevSlot := none }
  | .holding true => { sweepFilled s l (passesDropped c) with mode := .decide, prevSlot := none, waitingTag := none }
  | .holding false => { c with mode := .decide, waitingTag := none }
  | .held => { sweepFilled s l c with mode := .decide, prevSlot := none }

/-- A line once a command has been queued for each of its door nodes, in ascending address (R100, R101); minibar and encoder
nodes receive nothing. -/
def doorsQueued (s : State) (l : LineNo) (new : Command) (c : LineCtl) : LineCtl :=
  (List.finRange 32).foldl
    (fun d a => if isDoor (doorOf s { line := l, addr := a }) then lineQueued d a new else d) c

/-- A line after a change of the effective level to `now` (R51, R100, R101). -/
def lineLevelled (s : State) (now : Level) (l : LineNo) : LineCtl :=
  if now = .release then doorsQueued s l .holdOpen (lineTakenBack s l)
  else if s.override.effective = .release then doorsQueued s l .releaseEnd (lineOf s l)
  else lineOf s l

/-- What a change of the effective level to `now` leaves (R50, R51, R98, R100, R101), records `before` and replies `after` it
apart. The OVERRIDE record and the notice come first. RELEASE takes every line back, cancels RELOCK and HELD and gives every
door node HOLD_OPEN; leaving it gives every door node RELEASE_END; a change between NORMAL and LOCKDOWN changes no line, no
session and no deadline. Every other deadline stands. A PREPARE or WRITE pending at a door node, which none is given, would
end its session: that alone could add to the records and notices and touch the sessions and an ISSUE_TIMEOUT. -/
def levelChanged (s t : State) (now : Level) (before : List Record) (after : List OutFrame) : Prop :=
  let touches := now = .release ∨ s.override.effective = .release
  let plain :=
    touches → ∀ n c, isDoor (doorOf s n) = true → (nodeOf s n).command = some c → isSessionCommand c = false
  let records :=
    before ++ { stampedRecord s .override with detail := .levels s.override.effective now } ::
      (if now = .release then releaseRecords s else [])
  let notices := .override now :: (if now = .release then releaseNotices s else [])
  let replies := (if now = .release then releaseReplies s else []) ++ after
  let cancelled : Deadline → Bool := fun d => decide (now = .release) && (d.kind == .relock || d.kind == .held)
  t.override.effective = now ∧
    (∃ rs, appendsAll s t (records ++ rs) ∧ (plain → rs = [])) ∧
    (∃ ns, t.trunk.notices = noticesWith s notices ++ ns ∧ (plain → ns = [])) ∧
    trunkIs t
      { s.trunk with
        notices := t.trunk.notices, outQueue := s.trunk.outQueue ++ replies
        reserved := s.trunk.reserved - replies.length, inHand := t.trunk.inHand } ∧
    (∀ l, lineOf t l = lineLevelled s now l) ∧
    (now = .release →
      (∀ l, (lineOf t l).mode = .decide) ∧
        (∀ d ∈ t.time.deadlines, d.kind ≠ .relock ∧ d.kind ≠ .held) ∧
        ∀ n, isDoor (doorOf s n) = true → (nodeOf t n).command = some .holdOpen) ∧
    (now ≠ .release → ∀ l, (lineOf t l).mode = (lineOf s l).mode) ∧
    (s.override.effective = .release → now ≠ .release →
        ∀ n, isDoor (doorOf s n) = true → (nodeOf t n).command = some .releaseEnd) ∧
    t.time = { s.time with deadlines := t.time.deadlines } ∧
    t.time.deadlines.filter (fun d => d.kind != .issueTimeout || !isDoor (doorOf s d.node)) =
      s.time.deadlines.filter (fun d => (d.kind != .issueTimeout || !isDoor (doorOf s d.node)) && !cancelled d) ∧
    (plain → t.issue = s.issue ∧ t.time.deadlines = s.time.deadlines.filter fun d => !cancelled d)

/-! ### Answers of nodes -/

/-- An answer's characters (R28, R210): address and event code, the content's length, the content, the check. -/
def answerFrame (a : Addr) (event : Nat) (content : List Byte) : List Byte :=
  let chars := [BitVec.ofNat 8 (8 * a.val + event), BitVec.ofNat 8 content.length] ++ content
  chars ++ [BitVec.ofNat 8 (255 - byteSum chars % 256)]

/-- What one contact report does to a door (R91, R92), given whether RELOCK is pending: its state, the record it appends,
and HELD, armed or cancelled where it is either. -/
def contactReported (relock : Bool) (d : DoorState) (opened : Bool) : DoorState × List RecordKind × Option Bool :=
  let shut : DoorState := if relock then .unlocked else .locked
  if opened then
    match d with
    | .unknown => (.opened, [], some true)
    | .locked => (.forced, [.doorForced], none)
    | .unlocked => (.opened, [], some true)
    | other => (other, [], none)
  else
    match d with
    | .unknown => (.locked, [], none)
    | .opened => (shut, [], some false)
    | .held => (shut, [.doorSecured], none)
    | .forced => (shut, [.doorSecured], none)
    | other => (other, [], none)

/-- Contact reports taken in the order they are handed (R37). -/
def contactsReported (relock : Bool) (d : DoorState) (reports : List Bool) :
    DoorState × List RecordKind × Option Bool :=
  reports.foldl
    (fun x opened =>
      let y := contactReported relock x.1 opened
      (y.1, x.2.1 ++ y.2.1, y.2.2.or x.2.2))
    (d, [], none)

/-- The pending privacy writes after a derivation (R96): the room's waiting write is replaced in its place, or the new one
stands last; a number that names no slot adds none. The value is read from the deadbolts `t` holds. -/
def writesDerived (t : State) (room : Half) (n : Option Node) (ws : List PrivacyWrite) : List PrivacyWrite :=
  if findRoom t room = none then ws
  else
    let thrown := (List.finRange 128).any fun i =>
      decide ((doorAt t i).kind = .roomDoor) && decide ((doorAt t i).room = room) && (trackOf t (nodeAt i)).deadbolt
    ws.takeWhile (fun w => w.room != room) ++
      { room := room, node := n, value := thrown } :: (ws.dropWhile fun w => w.room != room).tail

/-- What an answer's contact reports, in the order they are handed, and its deadbolt leave of a door (R37, R91, R92, R96),
given the deadlines otherwise left. HELD is armed for the held limit of the class that the door's entry now gives; a node that
is no door now arms none (R11). A door whose deadbolt is not handed has it unchanged. -/
def doorReported (s t : State) (n : Node) (reports : List Bool) (bolt : Option Bool) (left : List Deadline) : Prop :=
  let k := trackOf s n
  let said := contactsReported (s.time.deadlines.any fun d => d.node == n && d.kind == .relock) k.state reports
  let others := fun (ds : List Deadline) => ds.filter fun d => !(d.node == n && d.kind == .held)
  let limit := (classOf s (doorOf s n).cls).heldLimit
  (∀ m, m ≠ n → trackOf t m = trackOf s m) ∧
    trackOf t n =
      { state := said.1, contact := reports.getLast?.or k.contact, deadbolt := bolt.getD k.deadbolt } ∧
    t.tracker.writes =
      (if bolt = none then s.tracker.writes else writesDerived t (doorOf s n).room (some n) s.tracker.writes) ∧
    t.time = { s.time with deadlines := t.time.deadlines } ∧
    (said.2.2 = none → t.time.deadlines = left) ∧
    (said.2.2 = some false → t.time.deadlines = others left) ∧
    (said.2.2 = some true →
      others t.time.deadlines = others left ∧
        (isDoor (doorOf s n) = true → 1 ≤ limit.toNat → limit.toNat ≤ 6000 →
          t.time.deadlines.filter (fun d => d.node == n && d.kind == .held) =
            [{ due := s.time.tick + limit.setWidth 32, node := n, kind := .held }]) ∧
        (isDoor (doorOf s n) = false → ∀ d ∈ t.time.deadlines, d ∈ left))

/-- The kinds of the records that contact reports append (R91, R92). -/
def contactKinds (s : State) (n : Node) (reports : List Bool) : List RecordKind :=
  (contactsReported (s.time.deadlines.any fun d => d.node == n && d.kind == .relock) (trackOf s n).state reports).2.1

/-- Those records, about the door. -/
def contactRecords (s : State) (n : Node) (reports : List Bool) : List Record :=
  (contactKinds s n reports).map fun r => { stampedRecord s r with node := some (.node n) }

/-- The notices that go with them (R91). -/
def contactNotices (s : State) (n : Node) (reports : List Bool) : List NoticeBody :=
  ((contactKinds s n reports).filter fun r => r == .doorForced).map fun _ => .doorForced n

/-- The NODE_BACK record of a node's good answer, if the node was SILENT (R40). -/
def backRecord (s : State) (n : Node) : List Record :=
  if (nodeOf s n).silent then [{ stampedRecord s .nodeBack with node := some (.node n) }] else []

/-- A line with its exchange over by a good answer of a node (R39, R40). -/
def lineAnswered (c : LineCtl) (a : Addr) : LineCtl :=
  { c with exchange := none, nodes := put c.nodes a { look c.nodes a with missed := 0, silent := false } }

/-- The content length of an event code, the status left out (R210). -/
def eventLength (event : Nat) : Nat := [0, 19, 1, 1, 1, 4, 0, 0].getD event 0

/-- The Minibar Engine's work with a report item (R143): the node's waiting item is replaced in its place, or the new one
stands last. -/
def itemQueued (n : Node) (w : MinibarWork) (ws : List MinibarWork) : List MinibarWork :=
  let other : MinibarWork → Bool := fun x => match x with | .item m _ _ => m != n | _ => true
  ws.takeWhile other ++ w :: (ws.dropWhile other).tail

/-! ### Sessions and minibars -/

/-- An ISSUE whose fields are in range (R105, test 1), by node, kind and stay; a node byte with its address absent names
no node (log 11), and NEW is 0, DUPLICATE 1 (log 34). -/
def issueInRange (node kind : Byte) (stay : Stay) : Prop :=
  node.toNat < 128 ∧ (kind = 0 ∨ kind = 1) ∧ 1 ≤ stay.cls.toNat ∧ stay.cls.toNat ≤ 5 ∧
    (stay.cls = 2 ∨ stay.cls = 3 → stay.room.toNat < 32) ∧ (stay.cls = 4 ∨ stay.cls = 5 → stay.room = 0) ∧
    (stay.cls ≠ 1 → kind = 0)

/-- The node a byte below 128 names (R211). -/
def nodeNumbered (b : Byte) : Node :=
  { line := ⟨b.toNat / 32 % 4, by omega⟩, addr := ⟨b.toNat % 32, by omega⟩ }

/-- A room record's generations raised to g (R103). -/
def raisedTo (d : RoomDyn) (g : Gen) : RoomDyn :=
  { d with accepted := if d.issued - d.accepted + 1 = 16 then d.accepted + 1 else d.accepted, issued := g }

/-- The state a minibar rests in (R136). -/
def restState (occupied : Bool) (limit tally : Nat) : MinibarState :=
  if occupied = false ∨ limit = 0 then .locked else if limit ≤ tally then .capped else .guest

/-- The tally after charges, saturating (R137). -/
def tallyAfter (tally : Nat) (cs : List Charge) : Nat := cs.foldl (fun t c => min 65535 (t + c.amount.toNat)) tally

/-- The records of commits made in list order, each seeing the tally the one before left (R149). -/
def commitDetails (limit : Half) : Nat → List Charge → List (RecordKind × Detail)
  | _, [] => []
  | t, c :: cs =>
    let u := min 65535 (t + c.amount.toNat)
    [(.minibarCharge, .charge c.compartment c.amount c.unlatched (BitVec.ofNat 16 u))] ++
      (if limit ≠ 0 ∧ t < limit.toNat ∧ limit.toNat ≤ u then
        [(.minibarCapped, .capped (BitVec.ofNat 16 u) limit)]
      else []) ++ commitDetails limit u cs

/-- Records of the Minibar Engine about a room (R154). -/
def minibarRecords (s : State) (i : Slot) (ds : List (RecordKind × Detail)) : List Record :=
  ds.map fun d =>
    { stampedRecord s d.1 with
      node := (roomOf s i).minibarNode.map .node, room := some (roomOf s i).number, detail := d.2 }

/-- The minibar state after commits (R149): recomputed where the tally reaches the limit, OPEN_GUEST and RESTOCK kept. -/
def stateAfterCommits (m : MinibarPart) (occupied : Bool) (limit : Nat) (cs : List Charge) : MinibarState :=
  if limit ≠ 0 ∧ m.tally.toNat < limit ∧ limit ≤ tallyAfter m.tally.toNat cs ∧ m.state ≠ .openGuest ∧
      m.state ≠ .restock then
    (if occupied = true then .capped else .locked)
  else m.state

/-- A minibar part with the charges `due` selects committed (R148, R149). -/
def partCommitted (m : MinibarPart) (occupied : Bool) (limit : Nat) (due : Charge → Bool) : MinibarPart :=
  { m with
    tally := BitVec.ofNat 16 (tallyAfter m.tally.toNat (m.charges.filter due))
    charges := m.charges.filter fun c => !due c
    state := stateAfterCommits m occupied limit (m.charges.filter due) }

/-- A minibar part with OPEN_GUEST or RESTOCK ended as a RELATCH expiry ends it (R142, R150). -/
def partRelatched (m : MinibarPart) (occupied : Bool) (limit : Nat) : MinibarPart :=
  if m.state = .openGuest then { m with state := restState occupied limit m.tally.toNat }
  else if m.state = .restock then
    { m with stocked := m.stable, state := restState occupied limit m.tally.toNat }
  else m

/-- The record of that ending: RESTOCK with END and the count of the set, or none (R150). -/
def relatchDetails (m : MinibarPart) : List (RecordKind × Detail) :=
  if m.state = .restock then
    [(.restock, .restockEnd ((List.finRange 8).countP fun c => m.stable.getLsbD c.val))]
  else []

/-- The store with the minibar part of a room replaced. -/
def storeWithPart (s : State) (i : Slot) (m : MinibarPart) : Store :=
  { s.store with dyns := put s.store.dyns i { dynOf s i with minibar := some m } }

/-- RETURN stands for the pending charges of a room's minibar node (R147): cancelled with none; else armed for the least
remaining distance, or the next tick where that has been reached. -/
def returnArmed (s t : State) (n : Node) (cs : List Charge) : Prop :=
  t.time.deadlines.filter (fun d => !(d.node == n && d.kind == .ret)) =
      s.time.deadlines.filter (fun d => !(d.node == n && d.kind == .ret)) ∧
    (cs = [] → t.time.deadlines.filter (fun d => d.node == n && d.kind == .ret) = []) ∧
    ∀ c ∈ cs, (∀ e ∈ cs, (c.due - s.time.tick).toNat ≤ (e.due - s.time.tick).toNat) →
      t.time.deadlines.filter (fun d => d.node == n && d.kind == .ret) =
        [{ due :=
             if c.due = s.time.tick ∨ 6000 < (c.due - s.time.tick).toNat then s.time.tick + 1 else c.due
           node := n, kind := .ret }]

/-- A minibar part while a report is processed, with the records so far and whether its list has changed. -/
abbrev Processed := MinibarPart × List (RecordKind × Detail) × Bool

/-- One compartment of a confirmed report that becomes the set `after` (R145 to R147, R149), outside RESTOCK: a removal of
a stocked item first commits an older charge of the compartment and then adds its own, or commits it at once where the return
window is 0; a return takes the compartment's charge off. -/
def compartmentProcessed (s : State) (i : Slot) (after : Compartments) (x : Processed) (c : Fin 8) : Processed :=
  let m := x.1
  let occupied := (dynOf s i).occupied
  let limit := (roomOf s i).limit
  let mine : Charge → Bool := fun d => d.compartment = c
  let charge : Charge :=
    { compartment := c, amount := priceOf s (look (roomOf s i).prices c)
      due := s.time.tick + (configOf s).returnWindow.setWidth 32, unlatched := decide (m.state ≠ .openGuest) }
  if m.stable.getLsbD c.val = true ∧ after.getLsbD c.val = false ∧ m.stocked.getLsbD c.val = true then
    let paid := partCommitted m occupied limit.toNat mine
    let records := x.2.1 ++ commitDetails limit m.tally.toNat (m.charges.filter mine)
    if (configOf s).returnWindow = 0 then
      let now := partCommitted { paid with charges := [charge] } occupied limit.toNat fun _ => true
      ({ now with charges := paid.charges }, records ++ commitDetails limit paid.tally.toNat [charge],
        x.2.2 || m.charges.any mine)
    else
      ({ paid with charges := paid.charges ++ [charge] },
        records ++ [(.minibarRemove, .removal c charge.amount charge.unlatched)], true)
  else if m.stable.getLsbD c.val = false ∧ after.getLsbD c.val = true then
    match m.charges.find? mine with
    | some d =>
      ({ m with charges := m.charges.filter fun e => !mine e }, x.2.1 ++ [(.minibarReturn, .refund c d.amount)], true)
    | none => x
  else x

/-- A confirmed report processed compartment by compartment, in ascending number (R145). -/
def reportProcessed (s : State) (i : Slot) (m : MinibarPart) (after : Compartments) : Processed :=
  (List.finRange 8).foldl (compartmentProcessed s i after) (m, [], false)

/-! ### Loads -/

/-- Every read of the loaded tables in `t` is that of `s` with one entry posted (R174). -/
def postRead (s t : State) (e : PostEntry) : Prop :=
  configOf t = (match e with | .config x => x | _ => configOf s) ∧
    (∀ i, doorAt t i = (match e with | .door j x => if j = i then x else doorAt s i | _ => doorAt s i)) ∧
    (∀ i, roomOf t i = (match e with | .room j x => if j = i then x else roomOf s i | _ => roomOf s i)) ∧
    (∀ i, zoneOf t i = (match e with | .zone j x => if j = i then x else zoneOf s i | _ => zoneOf s i)) ∧
    (∀ i, profileOf t i = (match e with | .profile j x => if j = i then x else profileOf s i | _ => profileOf s i)) ∧
    (∀ i, classOf t i = (match e with | .cls j x => if j = i then x else classOf s i | _ => classOf s i)) ∧
    ∀ i, priceOf t i = (match e with | .price j x => if j = i then x else priceOf s i | _ => priceOf s i)

/-- The cursor after an entry at index `i` (R177). -/
def cursorPast (w : LoadWindow) (i : Nat) : Cursor :=
  if i < w.last then .at (i + 1) else if w.wrap = true then .at w.first else .ended

/-- A LOAD entry the loader examines next (R173): its index in the window, its bytes, and those that follow. -/
def examining (s : State) (w : LoadWindow) (ld : LoadInHand) (i : Nat) (e : List Byte) (es : List (List Byte)) : Prop :=
  s.working = true ∧ s.port.inHand = none ∧ s.loader.buffer.length < 2 ∧ s.loader.window = some w ∧
    s.loader.load = some ld ∧ ld.entries = e :: es ∧ s.loader.cursor = .at i

/-- The DONE reply of a LOAD (R178, R211): the two counts, the cursor, and the first refusal with its reason. A cursor at no
index is FFFFH; an index past the window FFFEH; a refusal that is absent is FFFFH with reason 0. -/
def loadAnswer (ld : LoadInHand) (c : Cursor) : Answer :=
  let two := fun (v : Nat) => [BitVec.ofNat 8 (v / 256), BitVec.ofNat 8 v]
  let reason := fun (why : RefuseReason) =>
    match why with
    | .full => 1
    | .room => 2
    | .vacant => 3
    | .encoder => 4
    | .phase => 5
    | .range => 6
    | .duplicate => 7
  .done
    (two ld.taken ++ two ld.refused ++ two (match c with | .at i => i | _ => 65535) ++
      (match ld.firstRefusal with
        | none => two 65535 ++ [0]
        | some (i, why) => two (i.getD 65534) ++ [reason why]))

/-- The LOAD in hand once an entry has been taken or refused: over after the last one (R178). -/
def loadLeft (es : List (List Byte)) (ld : LoadInHand) : Option LoadInHand :=
  if es = [] then none else some { ld with entries := es }

/-- The trunk once an entry has been taken or refused: the last one's sends the LOAD's reply (R178). -/
def loadTold (x : Trunk) (es : List (List Byte)) (ld : LoadInHand) (c : Cursor) : Trunk :=
  match es, x.inHand with
  | [], some r => answeredTrunk x r (loadAnswer ld c)
  | _, _ => x

/-- A two-byte field of an entry. -/
def twoAt (e : List Byte) (k : Nat) : Nat := (e.getD k 0).toNat * 256 + (e.getD (k + 1) 0).toNat

/-- The restore part of a ROOM entry's bytes, when its flag is 1 (R67, R211). -/
def restoreAt (e : List Byte) : Option RestorePart :=
  if e.getD 13 0 = 1 then
    some
      { occupied := decide (e.getD 14 0 = 1), accepted := e.getD 15 0, issued := e.getD 16 0
        tally := BitVec.ofNat 16 (twoAt e 17) }
  else none

/-- The static part of a ROOM entry's bytes (R61): a slot with room number 0 holds no minibar arrangement. -/
def staticAt (e : List Byte) : RoomStatic :=
  if twoAt e 0 = 0 then { number := 0, minibarNode := none, limit := 0, prices := Vector.replicate 8 0 }
  else
    { number := BitVec.ofNat 16 (twoAt e 0)
      minibarNode := if (e.getD 2 0).toNat < 128 then some (nodeNumbered (e.getD 2 0)) else none
      limit := BitVec.ofNat 16 (twoAt e 3)
      prices := Vector.ofFn fun c : Fin 8 => Fin.ofNat 64 (e.getD (5 + c.val) 0).toNat }

/-- A dynamic part with the values of a restore part, brought within the span law (R67). -/
def restoredTo (d : RoomDyn) (p : RestorePart) : RoomDyn :=
  let span := (p.issued - p.accepted + 1).toNat
  { d with
    occupied := p.occupied, issued := p.issued, marker := none
    accepted :=
      if p.occupied = false then p.issued + 1
      else if span = 0 then p.issued
      else if span ≤ 16 then p.accepted
      else p.issued - 15
    minibar := d.minibar.map fun m => { m with tally := p.tally } }

/-- A minibar part recomputed, with OPEN_GUEST and RESTOCK kept (R65, R136). -/
def recomputedKept (occupied : Bool) (limit : Half) (m : MinibarPart) : MinibarPart :=
  { m with
    state :=
      if m.state = .openGuest ∨ m.state = .restock then m.state else restState occupied limit.toNat m.tally.toNat }

/-- A new minibar part (R64). -/
def createdPart (occupied : Bool) (limit tally : Half) : MinibarPart :=
  { state := restState occupied limit.toNat tally.toNat, stocked := 0, stable := 0, candidate := none, tally := tally
    charges := [] }

/-- The dynamic part after a rewrite that keeps the room (R65, R67); a part that moves to another node waits for its
forced commit. -/
def dynKept (s : State) (i : Slot) (new : RoomStatic) (restore : Option RestorePart) : RoomDyn :=
  let d := dynOf s i
  let d1 : RoomDyn :=
    match (roomOf s i).minibarNode, new.minibarNode with
    | none, none => d
    | none, some _ => { d with minibar := some (createdPart d.occupied new.limit 0) }
    | some a, some b => if a = b then { d with minibar := d.minibar.map (recomputedKept d.occupied new.limit) } else d
    | some _, none => { d with minibar := none }
  match restore with
  | none => d1
  | some p =>
    let d2 := restoredTo d1 p
    { d2 with minibar := d2.minibar.map (recomputedKept d2.occupied new.limit) }

/-- The dynamic part of a slot given to another room, or emptied (R63, R66, R67). -/
def dynReplaced (new : RoomStatic) (restore : Option RestorePart) : RoomDyn :=
  let empty : RoomDyn :=
    { occupied := false, accepted := 1, issued := 0, privacy := false, marker := none, minibar := none }
  if new.number = 0 then empty
  else
    let d := match restore with
      | none => empty
      | some p => restoredTo empty p
    { d with
      minibar := new.minibarNode.map fun _ => createdPart d.occupied new.limit ((restore.map (·.tally)).getD 0) }

/-! ### Invariants -/

/-- The span law of a room record: the span lies in 0-16 and is 0 exactly when the room is VACANT (R63). -/
def spanLaw (d : RoomDyn) : Prop := (spanOf d).toNat ≤ 16 ∧ (spanOf d = 0 ↔ d.occupied = false)

/-- Every room record holds the span law (R63). -/
def spansSound (s : State) : Prop := ∀ i, spanLaw (dynOf s i)

/-- The deny list is in ascending serial order, holds no serial twice, never more than 1,024 entries, and the deny count
is the number it holds (R123). -/
def denySound (s : State) : Prop :=
  s.store.deny.Pairwise (fun a b => a.serial.toNat < b.serial.toNat) ∧ s.store.deny.length ≤ 1024 ∧
    s.store.denyCount = s.store.deny.length

/-- A record is a GAP. -/
def isGap (r : Record) : Bool :=
  match r.detail with
  | .gap _ => true
  | _ => false

/-- The journal holds at most 1,024 records, and one that holds 1,024 has a GAP as its newest (R156, R160). A batch is
in flight exactly while a JOURNAL frame is being sent, and is of 1 to 8 of the records held (R163, R164). -/
def journalSound (s : State) : Prop :=
  s.journal.records.length ≤ 1024 ∧
    (s.journal.records.length = 1024 → (s.journal.records.getLast?.map isGap) = some true) ∧
    (s.journal.batch.isSome = decide (s.trunk.upTx.map Prod.fst = some .journal)) ∧
    ∀ k ∈ s.journal.batch, 1 ≤ k ∧ k ≤ 8 ∧ k ≤ s.journal.records.length

/-- The deadline list holds at most one entry per node and kind, and, until the part stops, it is in order of remaining
distance, each distance 1 to 6,000 (R11, R12, R15). -/
def deadlinesSound (s : State) : Prop :=
  (s.time.deadlines.map fun d => (d.node, d.kind)).Nodup ∧
    (s.stopping = false →
      s.time.deadlines.Pairwise (fun a b => (a.due - s.time.tick).toNat ≤ (b.due - s.time.tick).toNat) ∧
        ∀ d ∈ s.time.deadlines, 1 ≤ (d.due - s.time.tick).toNat ∧ (d.due - s.time.tick).toNat ≤ 6000)

/-- A request in hand is to fill a reserved reply position: a unicast one, and a LINE_MODE, which no broadcast makes
(R191, R193). -/
def owesReply (r : RequestInHand) : Bool :=
  r.unicast || (match r.request with | .lineMode _ _ => true | _ => false)

/-- The replies still to be filled: the request in hand's, and one for each line that goes to HELD (R48, R191). -/
def repliesOwed (s : State) : Nat :=
  (s.trunk.inHand.toList.countP owesReply) +
    (List.finRange 4).countP fun l => (lineOf s l).waitingTag.isSome

/-- The capacities of the queues (R69, R174, R185, R186, R191, R196, R197), one presentation a node (R69), and a reserved
position for every reply still to be filled (R191). -/
def queuesSound (s : State) : Prop :=
  s.queue.length ≤ 16 ∧ (s.queue.map fun p => p.node).Nodup ∧ s.loader.buffer.length ≤ 2 ∧
    s.trunk.requests.length ≤ 4 ∧ s.trunk.relayDown.length ≤ 4 ∧ s.trunk.relayUp.length ≤ 8 ∧
    s.trunk.notices.length ≤ 8 ∧ passUpCount s.trunk.outQueue ≤ 4 ∧
    replyCount s.trunk.outQueue + s.trunk.reserved ≤ 4 ∧ repliesOwed s ≤ s.trunk.reserved

/-- While the effective level is RELEASE every line is in DECIDE (R45, R47, R51). -/
def releaseSound (s : State) : Prop := s.override.effective = .release → ∀ l, (lineOf s l).mode = .decide

/-- A HELD line has no exchange in flight (R47, R48), and a LINE_MODE request waits for HELD exactly on a line that is
HOLDING (R48, R51). -/
def heldSound (s : State) : Prop :=
  ∀ l, ((lineOf s l).mode = .held → (lineOf s l).exchange = none) ∧
    ((lineOf s l).waitingTag.isSome = isHolding (lineOf s l).mode)

/-- The FIFO of a line holds each node with a pending command once, and no other (R42). -/
def fifoSound (s : State) : Prop :=
  ∀ l, (lineOf s l).fifo.Nodup ∧ ∀ a, a ∈ (lineOf s l).fifo ↔ (look (lineOf s l).nodes a).command ≠ none

/-- Two open issue contexts are on different encoder nodes, and not both for one guest room (R104). -/
def sessionsSound (s : State) : Prop :=
  isOpen (ctxOf s 0) = true → isOpen (ctxOf s 1) = true →
    (ctxOf s 0).node ≠ (ctxOf s 1).node ∧
      (isGuest (ctxOf s 0) = true → isGuest (ctxOf s 1) = true →
        (ctxOf s 0).stay.room ≠ (ctxOf s 1).stay.room)

/-- The invariants together. -/
def Sound (s : State) : Prop :=
  spansSound s ∧ denySound s ∧ journalSound s ∧ deadlinesSound s ∧ queuesSound s ∧ releaseSound s ∧ heldSound s ∧
    fifoSound s ∧ sessionsSound s

/-! ### The table port -/

/-- The row of the command table an operation is commanded by. -/
def commandFor : PortOp → OpForm → Instr
  | .decision _ => .decision
  | .privacy _ => .privacyWrite
  | .item _ _ _ => .reportItemOperation
  | .relatch _ => .relatchExpiryOperation
  | .ret _ => .returnExpiryOperation
  | .forced _ => .forcedCommit
  | .lineUp _ => .minibarBringIntoLine
  | .judge => .issue
  | .composition _ => .composition
  | .closing _ => .issueClosing
  | .checkout => .roomCheckout
  | .bump => .roomBump
  | .settle => .minibarSettle
  | .denyAdd => .denyAdd
  | .denyRemove => .denyRemove
  | .readEntries => .readEntries
  | .status => .status
  | .prune => .pruneStep
  | .drain => .drain

/-- The operation its requester asks for next (R71, R104, R143, R170). -/
def nextWork (s : State) : PortOp → Prop
  | .decision p => s.queue.head? = some p
  | .privacy w => s.tracker.writes.head? = some w
  | .item n a b => s.minibar.head? = some (.item n a b)
  | .relatch n => s.minibar.head? = some (.relatch n)
  | .ret n => s.minibar.head? = some (.ret n)
  | .forced c => s.minibar.head? = some (.forced c)
  | .lineUp i => s.minibar.head? = some (.lineUp i)
  | .judge => s.issue.work.head? = some .judge
  | .composition k => s.issue.work.head? = some (.composition k)
  | .closing k => s.issue.work.head? = some (.closing k)
  | .prune => s.pruner.minute ≠ none
  | .drain => s.loader.buffer ≠ []
  | op => ∃ r, s.trunk.inHand = some r ∧ operationOf r.request = some op

/-- The arbiter grants a requester: no operation is in hand, no post is to be made, and it is the first of highest
priority of those waiting; once the part stops only drains are granted (R171 to R173). -/
def mayGrant (s : State) (r : Requester) : Prop :=
  s.serving = true ∧ s.port.inHand = none ∧
    (s.stopping = false → ∀ ld, s.loader.load = some ld → ld.entries = [] ∨ 2 ≤ s.loader.buffer.length) ∧
    (s.stopping = true → r = .loader ∧ r ∈ s.port.waiting) ∧
    (s.stopping = false →
      ∃ before after, s.port.waiting = before ++ r :: after ∧ (∀ q ∈ before, priority s r < priority s q) ∧
        ∀ q ∈ after, priority s r ≤ priority s q)

/-! ### Start-up -/

/-- What every reset leaves (R15, R54, R72, R89, R96, R102, R122, R131, R166, R181, R199, R200): the volatile state of the
part, with the chain address read from the straps. -/
def freshPart (straps : BitVec 5) (cause : StartCause) (s t : State) : Prop :=
  t.pending = s.pending ∧
    t.time = { tick := 0, clock := t.time.clock, deadlines := [], expiring := [], minuteEvents := [] } ∧
    (∀ l,
      lineOf t l =
        { mode := .decide, waitingTag := none, stuck := false, prevSlot := none, pollPos := none, fifo := [],
          exchange := none, nodes := (lineOf t l).nodes }) ∧
    (∀ n,
      nodeOf t n =
        { silent := false, missed := 0, command := none, attempts := 0, duty := false, faulty := none,
          inSweep := false }) ∧
    t.queue = [] ∧ (∀ n, trackOf t n = { state := .unknown, contact := none, deadbolt := false }) ∧
    t.tracker.writes = [] ∧
    t.override =
      { requested := t.override.requested, pinAsserted := false, lastSample := false, effective := .normal,
        pinChanges := [] } ∧
    (∀ k, (ctxOf t k).state = .free) ∧ t.issue.work = [] ∧ t.minibar = [] ∧
    t.port = { inHand := none, waiting := [] } ∧
    t.loader = { buffer := [], window := none, cursor := .none, load := none } ∧ t.pruner.minute = none ∧
    t.journal = { records := t.journal.records, push := true, batch := none, offer := .none, frozen := false } ∧
    t.trunk =
      { chain := if h : straps.toNat < 31 then some ⟨straps.toNat, h⟩ else none, relayDown := [], relayUp := [],
        requests := [], inHand := none, outQueue := [], reserved := 0, notices := [], downAbsent := false,
        lastError := .none, upTx := none, downTx := none, upRo := false, downRo := false } ∧
    t.startup.phase = .resetting ∧ t.startup.cause = cause ∧ t.startup.stopWork = .none ∧
    t.startup.failTaken = false ∧ t.startup.restart = none ∧
    t.pins = { s.pins with vdd := true, vbakLost := false, straps := straps }

/-- The retained store is kept through a reset, with no issue-in-flight marker (R63, R68, R205). -/
def storeKept (s t : State) : Prop :=
  t.store = { s.store with dyns := t.store.dyns } ∧ ∀ i, dynOf t i = { dynOf s i with marker := none }

/-- The retained store at its cleared values (R56, R57, R59 to R61, R63, R68, R134). -/
def storeCleared (t : State) : Prop :=
  t.store.config =
      { siteCode := 0, grace := 120, returnWindow := 1200, stretch := 10, rates := Vector.replicate 4 .r9600 } ∧
    (∀ i, look t.store.doors i = { kind := .unused, room := 0, zone := 0, cls := 0 }) ∧
    (∀ i, look t.store.rooms i = { number := 0, minibarNode := none, limit := 0, prices := Vector.replicate 8 0 }) ∧
    (∀ i, look t.store.zones i = { openAt := 0, closeAt := 0 }) ∧
    (∀ i, (look t.store.profiles i).weekdays = 0 ∧ (look t.store.profiles i).lockdownAccess = false) ∧
    (∀ i, look t.store.classes i = { openTime := 50, heldLimit := 600 }) ∧
    (∀ i, look t.store.prices i = 0) ∧
    (∀ i,
      dynOf t i =
        { occupied := false, accepted := 1, issued := 0, privacy := false, marker := none, minibar := none }) ∧
    t.store.deny = [] ∧ t.store.denyCount = 0

/-- A line once the store is cleared at the end of CHECKING (R203): each configured node's command has lost its place, an
exchange with such a node goes on under the entry it began with (R34), and the rest of the line stands but for its nodes. -/
def lineCleared (s : State) (l : LineNo) (nodes : Vector NodeCtl 32) : LineCtl :=
  let known : Addr → Bool := fun a => configured (doorOf s { line := l, addr := a })
  let c := lineOf s l
  { c with
    fifo := c.fifo.filter fun a => !known a
    nodes := nodes
    exchange :=
      c.exchange.map fun e =>
        let marked := ((List.finRange 32).filter known).foldl (fun x a => flightMarked a .rewritten x) e
        { marked with
          stale :=
            e.stale ++
              ((List.finRange 32).filter fun a => known a && !e.stale.any fun z => z.1 == a).map
                fun a => (a, doorOf s { line := l, addr := a }) } }

/-- A request the phase refuses (R201), a RESTART's or a SET_OVERRIDE's code that names nothing apart. -/
def refusedInAwaitLoad : Request → Bool
  | .issue _ _ _ => true
  | .issueCancel _ => true
  | .roomCheckout _ => true
  | .roomBump _ => true
  | .minibarSettle _ => true
  | .lineMode _ _ => true
  | .setOverride b => decide (b.toNat < 2)
  | .restart m => decide (m = 0)
  | _ => false

/-- What the phase answers to a request in place of its owner (R193, R201): BUSY to all but STATUS in CHECKING, PHASE to
those AWAIT_LOAD refuses, PHASE to GO in RUN. -/
def turnedAway (p : Phase) (r : Request) (a : Answer) : Prop :=
  (p = .checking ∧ r ≠ .status ∧ a = .busy) ∨ (p = .awaitLoad ∧ refusedInAwaitLoad r = true ∧ a = .refused .phase) ∨
    (p = .run ∧ r = .go ∧ a = .refused .phase)

/-! ### Whole-machine rules -/

/-- The changes of phase that a command may make (R200). -/
def phaseChange (c : Instr) (before after : Phase) : Bool :=
  match c, before, after with
  | .powerOnReset _, _, .resetting => true
  | .pinReset _, _, .resetting => true
  | .restartBegin _, .run, .resetting => true
  | .restartBegin _, .awaitLoad, .resetting => true
  | .tickEvent _ _, .resetting, .checking => true
  | .checkingEnd, .checking, .run => true
  | .checkingEnd, .checking, .awaitLoad => true
  | .go, .awaitLoad, .run => true
  | .supplyFail, _, .shutdown => true
  | _, _, _ => false

/-- A command resets the part (R200). -/
def isReset : Instr → Bool
  | .powerOnReset _ => true
  | .pinReset _ => true
  | .restartBegin _ => true
  | _ => false

/-- A command may change the wing clock (R2 to R5). -/
def movesClock : Instr → Bool
  | .tickEvent _ _ => true
  | .clockCountWithoutTick => true
  | .setClock => true
  | .powerOnReset _ => true
  | _ => false

end Sys2Proof.Machine
end

