-- ==== Sys2Proof/Certificates/Slice0/Obligations.lean ====
section
/-!
DEFINITION. The statements for the provers. A statement that answers `∃ t, exec … = .next t ∧ …` says where a command
completes and what it leaves; `unchangedBut` is its frame. Numbers R<n> are the manual's rules, log <n> the model's own
choices.
-/

open Sys2Proof Sys2Proof.Machine

/-! ### Time -/

/-- A tick event while the part runs (R1 to R3, R6, R14, R97): the counter and the clock advance, due deadlines expire,
FIREB is sampled. A relay-only part raises no minute event and samples no FIREB (log 35). Once the supply-fail pin has been
taken, and during the warm stop work, tick events go on (R1, R206, R208): the counter and the clock advance and the clock's
minute event is raised, but no deadline expires (R15), FIREB is not sampled (R97) and SFAILB, once taken, changes nothing. -/
def Obligations.TickCountsClockAndExpiries : Prop :=
  (∀ (s : State) (fire : Bool), s.ticking = true → s.stopping = false → s.startup.phase ≠ .resetting →
    ∃ t, exec (.tickEvent fire false) s = .next t ∧ unchangedBut [.time, .override] s t ∧
      t.time.tick = s.time.tick + 1 ∧
      clockCounts s.time.clock t.time.clock ∧
      t.time.deadlines = s.time.deadlines.filter (fun d => d.due != s.time.tick + 1) ∧
      t.time.expiring =
        s.time.expiring ++
          (s.time.deadlines.filter fun d => d.due == s.time.tick + 1).map (fun d => (d.node, d.kind)) ∧
      t.time.minuteEvents = s.time.minuteEvents ++ minuteRaised s t ∧
      (s.relayOnly = true → t.override = s.override) ∧
      (s.relayOnly = false → t.override = fireSampled s.override fire)) ∧
  ∀ (s : State) (fire fail : Bool), s.ticking = true → s.stopping = true →
    (fail = false ∨ s.startup.failTaken = true) → (s.startup.phase ≠ .resetting ∨ s.startup.failTaken = true) →
    ∃ t, exec (.tickEvent fire fail) s = .next t ∧ unchangedBut [.time] s t ∧
      t.time =
        { s.time with
          tick := s.time.tick + 1, clock := t.time.clock
          minuteEvents := s.time.minuteEvents ++ minuteRaised s t } ∧
      clockCounts s.time.clock t.time.clock

/-- The first tick after leaving reset (R132, R155, R166, R167, R200, R202): the part enters CHECKING. Due deadlines expire
and FIREB is sampled as at any tick (R14, R97), and no minute event is raised (R6). The minibar parts are to be brought into
line by rising slot (log 26), the sweep sets are loaded (R54), and the effective level is computed, with its record, notice
and effects where it changes (R98): a requested LOCKDOWN or RELEASE kept through RESTART WARM (R102). -/
def Obligations.FirstTickEntersChecking : Prop :=
  ∀ (s : State) (fire : Bool), s.ticking = true → s.stopping = false → s.startup.phase = .resetting →
    let left := s.time.deadlines.filter fun d => d.due != s.time.tick + 1
    ∃ t, exec (.tickEvent fire false) s = .next t ∧ t.pending = s.pending ∧ t.time.tick = s.time.tick + 1 ∧
      clockCounts s.time.clock t.time.clock ∧ t.startup.phase = .checking ∧
      t.time.minuteEvents = s.time.minuteEvents ∧
      t.time.expiring =
        s.time.expiring ++
          (s.time.deadlines.filter fun d => d.due == s.time.tick + 1).map (fun d => (d.node, d.kind)) ∧
      (s.relayOnly = true → unchangedBut [.time, .startup] s t ∧ t.time.deadlines = left) ∧
      (s.relayOnly = false →
        let now := if s.override.pinAsserted = true then Level.release else s.override.requested
        let swept : Vector LineCtl 4 := Vector.ofFn fun l => sweepFilled s l (lineOf s l)
        let ticked := { s with time := { t.time with deadlines := left }, lines := swept }
        let restart : List Record :=
          if s.startup.cause = .cold then []
          else [{ stampedRecord ticked .restart with detail := .restart s.startup.cause true }]
        unchangedBut [.time, .lines, .override, .issue, .minibar, .store, .pruner, .journal, .trunk, .startup] s t ∧
        t.startup = { s.startup with phase := .checking, marker := s.startup.marker && !s.startup.keep } ∧
        t.store = { s.store with denyCount := s.store.deny.length } ∧
        t.pruner =
          (if t.time.clock.cond = .unset then s.pruner else { minute := some t.time.clock.minute, cursor := 0 }) ∧
        t.minibar =
          s.minibar ++
            (if s.startup.keep = true then
              ((List.finRange 128).filter fun i => (partOf s i).isSome).map MinibarWork.lineUp
            else []) ∧
        t.override = { fireSampled s.override fire with effective := now } ∧
        (now ≠ s.override.effective →
          levelChanged ticked t now restart [] ∧ t.trunk.inHand = s.trunk.inHand) ∧
        (now = s.override.effective →
          t.lines = swept ∧ t.issue = s.issue ∧ t.time.deadlines = left ∧ trunkIs t s.trunk ∧
            appendsAll s t restart))

/-- MINUTE_EVENT starts the pruner's pass at the minute it carries (R6, R129), and none is delivered once the part stops
(R131, R206); the clock's count without a tick advances the clock and nothing else (R4, R6; in a reset, log 29); a RELATCH or
RETURN expiry delivered waits for its table operation (R14, R142, R148). -/
def Obligations.DeliveredEventsAreTaken : Prop :=
  (∀ (s : State) (m : Minute) (ms : List Minute), s.time.minuteEvents = m :: ms →
    (s.working = true →
      ∃ t, exec .minuteEvent s = .next t ∧ unchangedBut [.time, .pruner] s t ∧
        t.time = { s.time with minuteEvents := ms } ∧ t.pruner = { minute := some m, cursor := 0 }) ∧
    (s.stopping = true → exec .minuteEvent s = .next s ∧ wants s .pruner = false)) ∧
  (∀ s : State,
    (s.pins.vdd = false ∧ s.pins.vbakLost = false) ∨
      (s.pins.vdd = true ∧ (s.startup.phase = .shutdown ∨ s.startup.phase = .resetting)) →
    ∃ t, exec .clockCountWithoutTick s = .next t ∧ unchangedBut [.time] s t ∧
      t.time = { s.time with clock := t.time.clock } ∧ clockCounts s.time.clock t.time.clock) ∧
  (∀ (s : State) (n : Node),
    (delivered s n .relatch [.relatch, .ret] →
      ∃ t, exec (.relatchExpiry n) s = .next t ∧ unchangedBut [.time, .minibar] s t ∧ expiryTaken s t n .relatch ∧
        t.minibar = s.minibar ++ [.relatch n]) ∧
    (delivered s n .ret [.relatch, .ret] →
      ∃ t, exec (.returnExpiry n) s = .next t ∧ unchangedBut [.time, .minibar] s t ∧ expiryTaken s t n .ret ∧
        t.minibar = s.minibar ++ [.ret n]))

/-- SET_CLOCK (R5): the clock takes the minute and the clamped second, a CLOCK_SET record carries the time just set, and
the reply carries what is now held. -/
def Obligations.SetClockTakesTheTime : Prop :=
  ∀ (s : State) (r : RequestInHand) (m : Minute) (second : Byte), asked s r → r.request = .setClock m second →
    ∃ t, exec .setClock s = .next t ∧ unchangedBut [.time, .journal, .trunk] s t ∧
      t.time = { s.time with clock := t.time.clock } ∧
      t.time.clock.minute = m ∧ t.time.clock.second.val = min 59 second.toNat ∧ t.time.clock.tenth = 0 ∧
      t.time.clock.cond = (if m = 16777215 then .saturated else .set) ∧
      appendsAll s t
        [{ stampedRecord s .clockSet with
          minute := m, second := t.time.clock.second, detail := .clock t.time.clock.cond }] ∧
      answers s t r
        (.done
          [m.extractLsb' 16 8, m.extractLsb' 8 8, m.extractLsb' 0 8, BitVec.ofNat 8 (min 59 second.toNat),
            if m = 16777215 then 2 else 1])

/-- Windows and shifts (R9, R10): the three cases of a window, the weekday a shift is tested on, the empty weekday set,
and that a loaded window lies within a day. -/
def Obligations.WindowsAndShiftsOpen : Prop :=
  (∀ (w : Window) (m : Nat),
    (w.openAt.toNat < w.closeAt.toNat →
      (windowOpen w m = true ↔ w.openAt.toNat ≤ m ∧ m < w.closeAt.toNat)) ∧
    (w.closeAt.toNat < w.openAt.toNat →
      (windowOpen w m = true ↔ w.openAt.toNat ≤ m ∨ m < w.closeAt.toNat)) ∧
    (w.openAt = w.closeAt → windowOpen w m = true)) ∧
  (∀ (bs : List Byte) (w : Window), parseWindow bs = some w → w.openAt.toNat ≤ 1439 ∧ w.closeAt.toNat ≤ 1439) ∧
  (∀ (bs : List Byte) (p : ProfileEntry), parseProfile bs = some p →
    p.shift.openAt.toNat ≤ 1439 ∧ p.shift.closeAt.toNat ≤ 1439) ∧
  (∀ (p : ProfileEntry) (t : Minute),
    (shiftOpen p t = true ↔
      windowOpen p.shift (t.toNat % 1440) = true ∧
        p.weekdays.getLsbD
          (if p.shift.closeAt.toNat < p.shift.openAt.toNat ∧ t.toNat % 1440 < p.shift.closeAt.toNat then
            (t.toNat / 1440 % 7 + 6) % 7
          else t.toNat / 1440 % 7) = true) ∧
    (p.weekdays = 0 → shiftOpen p t = false))

/-! ### Doors -/

/-- A RELOCK expiry delivered turns UNLOCKED into LOCKED and changes nothing in any other state; an OPEN door whose
RELOCK is no longer pending is LOCKED by closing (R93). -/
def Obligations.RelockExpiryLocksUnlocked : Prop :=
  ∀ (s : State) (n : Node), delivered s n .relock [.relock, .held] →
    ∃ t, exec (.relockExpiry n) s = .next t ∧ unchangedBut [.time, .tracker] s t ∧ expiryTaken s t n .relock ∧
      doorsBut n s t ∧
      ((trackOf s n).state = .unlocked → trackOf t n = { trackOf s n with state := .locked }) ∧
      ((trackOf s n).state ≠ .unlocked → trackOf t n = trackOf s n) ∧
      ((trackOf s n).state = .opened → (∀ d ∈ s.time.deadlines, d.node = n → d.kind ≠ .relock) →
        (trackOf (contactReport t n false) n).state = .locked)

/-- A HELD expiry delivered turns OPEN into HELD with its record and notice, and changes nothing in any other state; a
door in HELD raises no further alarm at a further expiry or report (R94). -/
def Obligations.HeldExpiryRaisesAlarm : Prop :=
  ∀ (s : State) (n : Node), delivered s n .held [.relock, .held] →
    ∃ t, exec (.heldExpiry n) s = .next t ∧ unchangedBut [.time, .tracker, .journal, .trunk] s t ∧
      expiryTaken s t n .held ∧ doorsBut n s t ∧
      ((trackOf s n).state = .opened →
        trackOf t n = { trackOf s n with state := .held } ∧
          appendsAll s t [{ stampedRecord s .doorHeld with node := some (.node n) }] ∧ notifies s t (.doorHeld n)) ∧
      ((trackOf s n).state ≠ .opened →
        trackOf t n = trackOf s n ∧ appendsAll s t [] ∧ trunkIs t s.trunk) ∧
      ((trackOf s n).state = .held → (contactReport t n true).journal = t.journal ∧
        (contactReport t n true).trunk = t.trunk)

/-! ### Override -/

/-- FIRE_PIN_CHANGE (R50, R51, R97, R98, R100, R101): the oldest change of the pin state is made and the level recomputed,
with all a change of level leaves: the records and notices, what becomes of each line's mode, commands and exchange, and the
deadlines and sessions. Lines and door nodes are taken in rising order (log 26). -/
def Obligations.FirePinSetsLevel : Prop :=
  ∀ (s : State) (p : Bool) (ps : List Bool), s.working = true → s.override.pinChanges = p :: ps →
    ∃ t, exec .firePinChange s = .next t ∧
      unchangedBut [.time, .lines, .override, .issue, .journal, .trunk] s t ∧
      t.override =
        { s.override with
          pinAsserted := p, pinChanges := ps, effective := if p = true then .release else s.override.requested } ∧
      ((if p = true then Level.release else s.override.requested) = s.override.effective →
        unchangedBut [.override] s t) ∧
      ((if p = true then Level.release else s.override.requested) ≠ s.override.effective →
        levelChanged s t (if p = true then .release else s.override.requested) [] [] ∧
          t.trunk.inHand = s.trunk.inHand)

/-- SET_OVERRIDE (R50, R51, R98 to R101): RANGE for a code naming no level; nothing but the reply for the level already
requested; else the level is requested and the effective level recomputed, with the record of a request that leaves it as it
was, or all a change of level leaves: the records and notices, what becomes of each line's mode, commands and exchange, and
the deadlines and sessions. Lines and door nodes are taken in rising order (log 26). -/
def Obligations.SetOverrideRequestsLevel : Prop :=
  ∀ (s : State) (r : RequestInHand) (b : Byte), asked s r → r.request = .setOverride b →
    ∃ t, exec .setOverride s = .next t ∧
      unchangedBut [.time, .lines, .override, .issue, .journal, .trunk] s t ∧
      (levelOf b = none → unchangedBut [.trunk] s t ∧ answers s t r (.refused .range)) ∧
      ∀ l, levelOf b = some l →
        (l = s.override.requested →
          unchangedBut [.trunk] s t ∧ answers s t r (.done [levelCode l, levelCode s.override.effective])) ∧
        (l ≠ s.override.requested →
          t.override =
            { s.override with
              requested := l, effective := if s.override.pinAsserted = true then .release else l } ∧
          ((if s.override.pinAsserted = true then Level.release else l) = s.override.effective →
            unchangedBut [.override, .journal, .trunk] s t ∧
              appendsAll s t [{ stampedRecord s .override with detail := .requested l }] ∧
              answers s t r (.done [levelCode l, levelCode s.override.effective])) ∧
          ((if s.override.pinAsserted = true then Level.release else l) ≠ s.override.effective →
            levelChanged s t (if s.override.pinAsserted = true then .release else l) []
                (replyTo r (.done [levelCode l, levelCode t.override.effective])) ∧
              t.trunk.inHand = none))

/-! ### Admission -/

/-- The check code (R23, R24): the sum's terms, its bound, the code a grant must carry, that exactly the grants that
carry it verify, and that a grant the Issue Unit composes carries it (R26). -/
def Obligations.CheckCodeSumsFields : Prop :=
  ∀ (k : Half) (g : Grant),
    checkSum k g =
      k.toNat + g.serial.toNat / 65536 + g.serial.toNat % 65536 + g.cls.toNat * 256 + g.gen.toNat + g.room.toNat +
        g.start.toNat / 65536 + g.start.toNat % 65536 + g.finish.toNat / 65536 + g.finish.toNat % 65536 +
        g.zones.toNat + (if g.options.getLsbD 0 then 1 else 0) + (if g.options.getLsbD 1 then 2 else 0) ∧
    checkSum k g ≤ 524793 ∧
    (checkCode k g).toNat = 65535 - checkSum k g % 65536 ∧
    (verifies k g = true ↔ g.check = checkCode k g) ∧
    ∀ (stay : Stay) (serial : Serial) (gen : Gen),
      let composed := composeGrant k stay serial gen
      composed.check = checkCode k composed ∧ composed.serial = serial ∧ composed.gen = gen ∧
        composed.cls = stay.cls ∧ composed.room = stay.room

/-- The stages of a decision, each reason exactly under the stages before it (R74 to R85, R138 to R140): RELEASE at a door,
MISREAD, REVOKED, CLASS, LOCKDOWN, NOT_YET, EXPIRED, then ROOM and ZONE of the place test, HOURS, the room record's ROOM,
VACANT, GEN_OLD and GEN_FUTURE, PRIVACY, and a minibar's OPTION, CAPPED and IN_USE. -/
def Obligations.EarlyStagesRefuseInOrder : Prop :=
  ∀ (s : State) (p : Presentation),
    let d := doorOf s p.node
    let g := p.grant
    let t := p.capture.minute.toNat
    let guest := g.cls = 1
    let released := s.override.effective = .release ∧ (d.kind = .roomDoor ∨ d.kind = .commonGate)
    let read := verifies (configOf s).siteCode g = true
    let denied := ∃ e ∈ s.store.deny, e.serial = g.serial
    let admitted :=
      1 ≤ g.cls.toNat ∧ g.cls.toNat ≤ 5 ∧
        (d.kind = .roomDoor ∨ d.kind = .commonGate ∨ (d.kind = .minibar ∧ (g.cls = 1 ∨ g.cls = 3)))
    let barred :=
      s.override.effective = .lockdown ∧ (d.kind = .roomDoor ∨ d.kind = .commonGate) ∧ g.cls ≠ 4 ∧ g.cls ≠ 5 ∧
        ¬ (g.cls = 2 ∧ ∃ i : Fin 32, g.room.toNat = i.val ∧ (profileOf s i).lockdownAccess = true)
    let grace := if guest then (configOf s).grace.toNat else 0
    let early := t < g.start.toNat
    let late := g.finish ≠ 16777215 ∧ g.finish.toNat + grace ≤ t
    let timely := ¬ released ∧ read ∧ ¬ denied ∧ admitted ∧ ¬ barred ∧ ¬ early ∧ ¬ late
    let otherRoom := guest ∧ d.kind ≠ .commonGate ∧ g.room ≠ d.room
    let otherZone :=
      ((guest ∧ d.kind = .commonGate) ∨ g.cls = 2 ∨ g.cls = 3 ∨ g.cls = 4) ∧ g.zones.getLsbD d.zone.val = false
    let shut :=
      (guest ∧ d.kind = .commonGate ∧ windowOpen (zoneOf s d.zone) (t % 1440) = false) ∨
        ((g.cls = 2 ∨ g.cls = 3) ∧
          ¬ ∃ i : Fin 32, g.room.toNat = i.val ∧ shiftOpen (profileOf s i) p.capture.minute = true)
    let placed := timely ∧ ¬ otherRoom ∧ ¬ otherZone ∧ ¬ shut
    let dyn := (findRoom s g.room).map (dynOf s)
    let distance := (dyn.map fun x => (g.gen - x.accepted).toNat).getD 0
    let span := (dyn.map fun x => (x.issued - x.accepted + 1).toNat).getD 0
    let occupied := dyn.map (·.occupied) = some true
    let valid := placed ∧ (guest → occupied ∧ distance < span)
    let hidden :=
      ((findRoom s d.room).map fun i => (dynOf s i).privacy) = some true ∧
        ((d.kind = .roomDoor ∧ (g.cls = 1 ∨ g.cls = 2 ∨ g.cls = 3 ∨ (g.cls = 4 ∧ g.options.getLsbD 1 = false))) ∨
          (d.kind = .minibar ∧ g.cls = 3))
    let atBar := valid ∧ ¬ hidden ∧ d.kind = .minibar
    let part := (boundRoom s p.node).bind (partOf s)
    let state := part.map (·.state)
    let capped :=
      ((boundRoom s p.node).bind fun i => (partOf s i).map fun m => decide ((roomOf s i).limit.toNat ≤ m.tally.toNat)) =
        some true
    (decidePresentation s p = .release ↔ released) ∧
      (decidePresentation s p = .refuse .misread ↔ ¬ released ∧ ¬ read) ∧
      (decidePresentation s p = .refuse .revoked ↔ ¬ released ∧ read ∧ denied) ∧
      (decidePresentation s p = .refuse .cls ↔ ¬ released ∧ read ∧ ¬ denied ∧ ¬ admitted) ∧
      (decidePresentation s p = .refuse .lockdown ↔ ¬ released ∧ read ∧ ¬ denied ∧ admitted ∧ barred) ∧
      (decidePresentation s p = .refuse .notYet ↔
        ¬ released ∧ read ∧ ¬ denied ∧ admitted ∧ ¬ barred ∧ early) ∧
      (decidePresentation s p = .refuse .expired ↔
        ¬ released ∧ read ∧ ¬ denied ∧ admitted ∧ ¬ barred ∧ ¬ early ∧ late) ∧
      (decidePresentation s p = .refuse .room ↔ (timely ∧ otherRoom) ∨ (placed ∧ guest ∧ dyn = none)) ∧
      (decidePresentation s p = .refuse .zone ↔ timely ∧ otherZone) ∧
      (decidePresentation s p = .refuse .hours ↔ timely ∧ ¬ otherRoom ∧ ¬ otherZone ∧ shut) ∧
      (decidePresentation s p = .refuse .vacant ↔ placed ∧ guest ∧ dyn.map (·.occupied) = some false) ∧
      (decidePresentation s p = .refuse .genOld ↔ placed ∧ guest ∧ occupied ∧ span ≤ distance ∧ 128 ≤ distance) ∧
      (decidePresentation s p = .refuse .genFuture ↔ placed ∧ guest ∧ occupied ∧ span ≤ distance ∧ distance < 128) ∧
      (decidePresentation s p = .refuse .privacy ↔ valid ∧ hidden) ∧
      (decidePresentation s p = .refuse .option ↔ atBar ∧ guest ∧ g.options.getLsbD 0 = false) ∧
      (decidePresentation s p = .refuse .capped ↔
        atBar ∧ guest ∧ g.options.getLsbD 0 = true ∧
          (part = none ∨ state = some .locked ∨ state = some .capped ∨ (state = some .openGuest ∧ capped))) ∧
      (decidePresentation s p = .refuse .inUse ↔
        atBar ∧
          ((guest ∧ g.options.getLsbD 0 = true ∧ state = some .restock) ∨
            (g.cls = 3 ∧ (part = none ∨ state = some .openGuest))))

/-- A decision that refuses (R42, R73, R76, R87, R88): the Table Store stands, the ENTRY record is appended, and a node of a
line in DECIDE is given REFUSE with the reason, unless it holds HOLD_OPEN (R42); no other node's command changes. A PREPARE or
WRITE that the REFUSE replaces ends its session ENCODER_UNREACHABLE (R112). The record's detail is the card's and the room's
generation for a GUEST card refused once its room was found at stage 8, and absent for any other. ENTRY stands before that
session's ISSUE_FAILED: R159 allows either order, the model takes this one (log 59). The decision in hand as the part stops
completes with these effects, too (log 43). -/
def Obligations.DecisionRefusesPresentation : Prop :=
  ∀ (s : State) (p : Presentation) (why : Reason), opInHand s (.decision p) →
    decidePresentation s p = .refuse why →
    let found :=
      why = .vacant ∨ why = .genOld ∨ why = .genFuture ∨ why = .privacy ∨ why = .option ∨ why = .capped ∨ why = .inUse
    let queues := (lineOf s p.node.line).mode = .decide ∧ (doorOf s p.node).kind ≠ .unused
    let ks := if queues then replacedSession s p.node (.refuse why) else []
    ∃ t, exec (.decision .complete) s = .next t ∧
      unchangedBut [.time, .lines, .issue, .port, .journal, .trunk] s t ∧ t.port.inHand = none ∧
      t.lines = (if queues then linesQueued s p.node (.refuse why) else s.lines) ∧
      (queues →
        (nodeOf t p.node).command =
          if (nodeOf s p.node).command = some .holdOpen then some .holdOpen else some (.refuse why)) ∧
      endedOn s t p.node ks .encoderUnreachable ∧
      trunkIs t { s.trunk with notices := noticesWith s (endNotices s ks .encoderUnreachable) } ∧
      ∃ detail : Detail,
        appendsAll s t
          ({ kind := .entry, minute := p.capture.minute, second := p.capture.second, node := some (.node p.node),
             serial := if why = .misread then none else some p.grant.serial,
             room := if why ≠ .misread ∧ p.grant.cls = 1 then some p.grant.room else none,
             cls := if why = .misread then none else some p.grant.cls,
             outcome := some (.refuse why), detail := detail } :: endRecords s ks .encoderUnreachable) ∧
        (p.grant.cls ≠ 1 ∨ ¬ found → detail = .absent) ∧
        (p.grant.cls = 1 → ∀ i, findRoom s p.grant.room = some i → found →
          detail = .entry p.grant.gen (dynOf s i).accepted)

/-- A guest's card at a room door or a gate while the level is NORMAL (R73 to R88): granted exactly when it verifies, its
serial is not denied, its time is right, its room is held and OCCUPIED with the generation in the span, and the room is the
door's and not in privacy, or the gate's zone is the card's and open; a card above the accepted generation supersedes. -/
def Obligations.GuestCardOpensDoor : Prop :=
  ∀ (s : State) (p : Presentation) (i : Slot), opInHand s (.decision p) → s.override.effective = .normal →
    p.grant.cls = 1 → findRoom s p.grant.room = some i →
    let node := doorOf s p.node
    let g := p.grant
    let d := dynOf s i
    let valid :=
      verifies (configOf s).siteCode g = true ∧ (∀ e ∈ s.store.deny, e.serial ≠ g.serial) ∧
        g.start.toNat ≤ p.capture.minute.toNat ∧
        (g.finish = 16777215 ∨ p.capture.minute.toNat < g.finish.toNat + (configOf s).grace.toNat) ∧
        d.occupied = true ∧ (g.gen - d.accepted).toNat < (d.issued - d.accepted + 1).toNat
    (node.kind = .roomDoor →
      (decidePresentation s p = .grant .guest none ↔ valid ∧ g.room = node.room ∧ d.privacy = false)) ∧
    (node.kind = .commonGate →
      (decidePresentation s p = .grant .guest none ↔
        valid ∧ g.zones.getLsbD node.zone.val = true ∧
          windowOpen (zoneOf s node.zone) (p.capture.minute.toNat % 1440) = true)) ∧
    (decidePresentation s p = .grant .guest none →
      (∀ c, (nodeOf s p.node).command = some c → isSessionCommand c = false) →
      ∃ t, exec (.decision .complete) s = .next t ∧ unchangedBut [.lines, .store, .port, .journal] s t ∧
        t.port.inHand = none ∧
        t.store = { s.store with dyns := put s.store.dyns i { d with accepted := g.gen } } ∧
        appendsAll s t
          ((if d.accepted = g.gen then []
            else
              [{ stampedRecord s .supersede with
                node := some (.node p.node), serial := some g.serial, room := some g.room,
                detail := .supersede d.accepted g.gen }]) ++
            [{ kind := .entry, minute := p.capture.minute, second := p.capture.second, node := some (.node p.node),
               serial := some g.serial, room := some g.room, cls := some 1, outcome := some .grant,
               detail := .entry g.gen d.accepted }]) ∧
        grantQueued s t p.node (.grant (classOf s node.cls).openTime))

/-- Grants that change no table. While the level is RELEASE a decision at a door grants whatever the card holds, by
HOLD_OPEN, its ENTRY record carrying the card only if it verified (R75, R87, R88). Else a STAFF, SERVICE, MASTER or EMERGENCY
card opens a door exactly when the stages that test its class let it (R74 to R82, R84 to R88). -/
def Obligations.GrantsChangeNoTable : Prop :=
  (∀ (s : State) (p : Presentation), opInHand s (.decision p) → s.override.effective = .release →
    ((doorOf s p.node).kind = .roomDoor ∨ (doorOf s p.node).kind = .commonGate) →
    (∀ c, (nodeOf s p.node).command = some c → isSessionCommand c = false) →
    ∃ t, exec (.decision .complete) s = .next t ∧ unchangedBut [.lines, .port, .journal] s t ∧ t.port.inHand = none ∧
      grantQueued s t p.node .holdOpen ∧
      appendsAll s t
        [{ kind := .entry, minute := p.capture.minute, second := p.capture.second, node := some (.node p.node),
           serial := if verifies (configOf s).siteCode p.grant then some p.grant.serial else none,
           room :=
             if verifies (configOf s).siteCode p.grant = true ∧ p.grant.cls = 1 then some p.grant.room else none,
           cls := if verifies (configOf s).siteCode p.grant then some p.grant.cls else none,
           outcome := some .grantRelease, detail := .absent }]) ∧
  (∀ (s : State) (p : Presentation) (c : CardClass), opInHand s (.decision p) →
    let node := doorOf s p.node
    let g := p.grant
    let t0 := p.capture.minute
    let profiled := fun (q : ProfileEntry → Bool) => ∃ k : Fin 32, g.room.toNat = k.val ∧ q (profileOf s k) = true
    let hidden := node.kind = .roomDoor ∧ ∃ i, findRoom s node.room = some i ∧ (dynOf s i).privacy = true
    (node.kind = .roomDoor ∨ node.kind = .commonGate) → s.override.effective ≠ .release →
    ((c = .staff ∧ g.cls = 2) ∨ (c = .service ∧ g.cls = 3) ∨ (c = .master ∧ g.cls = 4) ∨ (c = .emergency ∧ g.cls = 5)) →
    (decidePresentation s p = .grant c none ↔
      verifies (configOf s).siteCode g = true ∧ (∀ e ∈ s.store.deny, e.serial ≠ g.serial) ∧
        (s.override.effective = .lockdown →
          c = .master ∨ c = .emergency ∨ (c = .staff ∧ profiled fun q => q.lockdownAccess)) ∧
        g.start.toNat ≤ t0.toNat ∧ (g.finish = 16777215 ∨ t0.toNat < g.finish.toNat) ∧
        (c ≠ .emergency → g.zones.getLsbD node.zone.val = true) ∧
        (c = .staff ∨ c = .service → profiled fun q => shiftOpen q t0) ∧
        (hidden → c = .emergency ∨ (c = .master ∧ g.options.getLsbD 1 = true))) ∧
    (decidePresentation s p = .grant c none →
      (∀ c, (nodeOf s p.node).command = some c → isSessionCommand c = false) →
      ∃ t, exec (.decision .complete) s = .next t ∧ unchangedBut [.lines, .port, .journal] s t ∧ t.port.inHand = none ∧
        grantQueued s t p.node (.grant (classOf s node.cls).openTime) ∧
        appendsAll s t
          [{ kind := .entry, minute := p.capture.minute, second := p.capture.second, node := some (.node p.node),
             serial := some g.serial, room := none, cls := some g.cls, outcome := some .grant, detail := .absent }]))

/-- A card at a minibar bound to a room (R73, R82 to R88, R138 to R141, R150): a GUEST card that passes the earlier stages
opens it in GUEST and again in OPEN_GUEST below the limit, and supersedes where it is above the accepted generation, the
SUPERSEDE record before the minibar's; a SERVICE card begins a restock, or ends one. RELATCH runs for the open time of the
node's class, and is cancelled at the end of a restock. -/
def Obligations.CardsOpenMinibar : Prop :=
  ∀ (s : State) (p : Presentation) (i : Slot) (m : MinibarPart), opInHand s (.decision p) →
    (doorOf s p.node).kind = .minibar → boundRoom s p.node = some i → partOf s i = some m →
    let node := doorOf s p.node
    let g := p.grant
    let t0 := p.capture.minute
    let limit := (roomOf s i).limit.toNat
    let open_ := (classOf s node.cls).openTime
    let before := (dynOf s i).accepted
    let read := verifies (configOf s).siteCode g = true ∧ (∀ e ∈ s.store.deny, e.serial ≠ g.serial) ∧ g.start.toNat ≤ t0.toNat
    let guest :=
      g.cls = 1 ∧ read ∧ (g.finish = 16777215 ∨ t0.toNat < g.finish.toNat + (configOf s).grace.toNat) ∧
        g.room = node.room ∧ g.options.getLsbD 0 = true ∧
        ∃ j, findRoom s g.room = some j ∧ (dynOf s j).occupied = true ∧
          (g.gen - (dynOf s j).accepted).toNat < ((dynOf s j).issued - (dynOf s j).accepted + 1).toNat
    let service :=
      g.cls = 3 ∧ read ∧ (g.finish = 16777215 ∨ t0.toNat < g.finish.toNat) ∧
        g.zones.getLsbD node.zone.val = true ∧
        (∃ k : Fin 32, g.room.toNat = k.val ∧ shiftOpen (profileOf s k) t0 = true) ∧
        ∀ j, findRoom s node.room = some j → (dynOf s j).privacy = false
    let effect := fun (m' : MinibarPart) (accepted : Gen) (ds : List (RecordKind × Detail)) (relatch : List Deadline)
        (room : Option Half) (detail : Detail) =>
      (∀ c, (nodeOf s p.node).command = some c → isSessionCommand c = false) → 1 ≤ open_.toNat →
      ∃ t, exec (.decision .complete) s = .next t ∧ unchangedBut [.time, .lines, .store, .port, .journal] s t ∧
        t.port.inHand = none ∧
        t.store =
          { s.store with dyns := put s.store.dyns i { dynOf s i with accepted := accepted, minibar := some m' } } ∧
        t.time = { s.time with deadlines := t.time.deadlines } ∧
        t.time.deadlines.filter (fun d => !(d.node == p.node && d.kind == .relatch)) =
          s.time.deadlines.filter (fun d => !(d.node == p.node && d.kind == .relatch)) ∧
        t.time.deadlines.filter (fun d => d.node == p.node && d.kind == .relatch) = relatch ∧
        grantQueued s t p.node (.grant open_) ∧
        appendsAll s t
          ((if accepted = before then []
            else
              [{ stampedRecord s .supersede with
                node := some (.node p.node), serial := some g.serial, room := some g.room,
                detail := .supersede before accepted }]) ++
            minibarRecords s i ds ++
            [{ kind := .entry, minute := p.capture.minute, second := p.capture.second, node := some (.node p.node),
               serial := some g.serial, room := room, cls := some g.cls, outcome := some .grant, detail := detail }])
    let armed : List Deadline := [{ due := s.time.tick + open_.setWidth 32, node := p.node, kind := .relatch }]
    let opened : MinibarPart := { m with state := .openGuest }
    let stocked : MinibarPart := { m with state := .restock }
    let ended : MinibarPart :=
      { m with stocked := m.stable, state := restState (dynOf s i).occupied limit m.tally.toNat }
    (decidePresentation s p = .grant .guest (some .openGuest) ↔ guest ∧ m.state = .guest) ∧
    (decidePresentation s p = .grant .guest (some .reopen) ↔
      guest ∧ m.state = .openGuest ∧ m.tally.toNat < limit) ∧
    (decidePresentation s p = .grant .service (some .restockBegin) ↔
      service ∧ (m.state = .locked ∨ m.state = .guest ∨ m.state = .capped)) ∧
    (decidePresentation s p = .grant .service (some .restockEnd) ↔ service ∧ m.state = .restock) ∧
    (decidePresentation s p = .grant .guest (some .openGuest) →
      effect opened g.gen [(.minibarOpen, .absent)] armed (some g.room) (.entry g.gen before)) ∧
    (decidePresentation s p = .grant .guest (some .reopen) →
      effect m g.gen [] armed (some g.room) (.entry g.gen before)) ∧
    (decidePresentation s p = .grant .service (some .restockBegin) →
      effect stocked before [(.restock, .restockBegin)] armed none .absent) ∧
    (decidePresentation s p = .grant .service (some .restockEnd) →
      effect ended before (relatchDetails m) [] none .absent)

/-- PRIVACY_WRITE (R96): a room whose privacy differs takes the value, with its record; a number that names no slot, or a
value held already, changes nothing. ROOM_BUMP (R120): accepted becomes issued, with a SUPERSEDE record if it changed; no
room and a VACANT room are refused. -/
def Obligations.BumpAndPrivacyWriteRoom : Prop :=
  (∀ (s : State) (w : PrivacyWrite), opInHand s (.privacy w) →
    ∃ t, exec (.privacyWrite .complete) s = .next t ∧ unchangedBut [.store, .port, .journal] s t ∧
      t.port.inHand = none ∧
      ((∀ i, findRoom s w.room = some i → (dynOf s i).privacy = w.value) →
        t.store = s.store ∧ appendsAll s t []) ∧
      ∀ i, findRoom s w.room = some i → (dynOf s i).privacy ≠ w.value →
        t.store = { s.store with dyns := put s.store.dyns i { dynOf s i with privacy := w.value } } ∧
          appendsAll s t
            [{ stampedRecord s .privacy with
              node := w.node.map .node, room := some w.room, detail := .privacy w.value }]) ∧
  (∀ (s : State) (r : RequestInHand) (room : Half), opFor s .bump r → r.request = .roomBump room →
    ∃ t, exec (.roomBump .complete) s = .next t ∧ unchangedBut [.store, .port, .journal, .trunk] s t ∧
      t.port.inHand = none ∧
      (findRoom s room = none → t.store = s.store ∧ appendsAll s t [] ∧ answers s t r (.refused .room)) ∧
      ∀ i, findRoom s room = some i →
        let d := dynOf s i
        (d.occupied = false → t.store = s.store ∧ appendsAll s t [] ∧ answers s t r (.refused .vacant)) ∧
        (d.occupied = true →
          t.store = { s.store with dyns := put s.store.dyns i { d with accepted := d.issued } } ∧
            appendsAll s t
              (if d.accepted = d.issued then []
              else
                [{ stampedRecord s .supersede with
                  room := some room, detail := .supersede d.accepted d.issued }]) ∧
            answers s t r (.done [d.issued, d.issued])))

/-! ### Door lines -/

/-- Slot choice (R33 to R35, R41, R42, R210): a CALL after any other slot; else the sweep; else the head of the FIFO; else
the rotation; else a CALL. Each begins at the rate and stretch limit in force, with its frame; one out of its turn begins
nothing. -/
def Obligations.SlotsFollowTheOrder : Prop :=
  ∀ (s : State) (l : LineNo), slotFree s l →
    let c := lineOf s l
    let sweep : Addr → Prop := fun a => (look c.nodes a).inSweep = true
    let known : Addr → Prop := fun a => configured (doorOf s { line := l, addr := a }) = true
    let called := c.prevSlot = some .call
    ((¬ called ∨ ((∀ a, ¬ sweep a) ∧ c.fifo = [] ∧ ∀ a, ¬ known a)) →
      ∃ t, exec (.callSlot l) s = .next t ∧ unchangedBut [.lines] s t ∧ linesBut l s t ∧
        lineOf t l =
          { c with prevSlot := some .call, exchange := some (freshExchange s l .call [64, 191]) }) ∧
    (called → ((∃ a, sweep a) ∨ c.fifo ≠ [] ∨ ∃ a, known a) → exec (.callSlot l) s = .next s) ∧
    (∀ a, called → firstAfter c.pollPos sweep a →
      ∃ t, exec (.pollSlot l) s = .next t ∧ unchangedBut [.lines] s t ∧ linesBut l s t ∧
        lineOf t l =
          { c with
            nodes := put c.nodes a { look c.nodes a with inSweep := false }, pollPos := some a,
            prevSlot := some .poll,
            exchange :=
              some (freshExchange s l (.poll a)
                [BitVec.ofNat 8 (32 + a.val), BitVec.ofNat 8 (223 - a.val)]) }) ∧
    (¬ called ∨ ((∀ a, ¬ sweep a) ∧ (c.fifo ≠ [] ∨ ∀ a, ¬ known a)) → exec (.pollSlot l) s = .next s) ∧
    (∀ a rest x, called → (∀ b, ¬ sweep b) → c.fifo = a :: rest →
      (look c.nodes a).command = some x →
      let chars : List Byte :=
        match x with
        | .grant time => [BitVec.ofNat 8 (96 + a.val), 1, time]
        | .refuse why => [BitVec.ofNat 8 (96 + a.val), 2, reasonCode why]
        | .defer => [BitVec.ofNat 8 (96 + a.val), 3]
        | .busy => [BitVec.ofNat 8 (96 + a.val), 4]
        | .holdOpen => [BitVec.ofNat 8 (96 + a.val), 5]
        | .releaseEnd => [BitVec.ofNat 8 (96 + a.val), 6]
        | .prepare => [BitVec.ofNat 8 (96 + a.val), 7]
        | .write g => [BitVec.ofNat 8 (96 + a.val), 8] ++ grantBytes g
        | .pass cs => cs
      ∃ t, exec (.commandSlot l) s = .next t ∧ unchangedBut [.lines] s t ∧ linesBut l s t ∧
        ∃ check : Byte, byteSum (chars ++ [check]) % 256 = 255 ∧
          lineOf t l =
            { c with
              prevSlot := some .command,
              exchange :=
                some (freshExchange s l (.command a x (look c.nodes a).duty .live) (chars ++ [check])) }) ∧
    (¬ called ∨ (∃ a, sweep a) ∨ c.fifo = [] → exec (.commandSlot l) s = .next s) ∧
    (∀ a, called → (∀ b, ¬ sweep b) → c.fifo = [] → firstAfter c.pollPos known a →
      ∃ t, exec (.pollSlot l) s = .next t ∧ unchangedBut [.lines] s t ∧ linesBut l s t ∧
        (lineOf t l).prevSlot = some .poll ∧ (lineOf t l).pollPos = some a ∧
        (lineOf t l).exchange =
          some (freshExchange s l (.poll a) [BitVec.ofNat 8 (32 + a.val), BitVec.ofNat 8 (223 - a.val)]))

/-- The beginning of an answer takes the capture stamp, and its one restart takes its own (R7, R28). What ends an exchange
without a good answer (R28 to R31, R36, R39, R40, R210): a window that closes, a POLL frame not delivered, a stretch limit
exceeded, a second restart, an answer that is not good: its check fails, its length is not its event's on a line not in
TRANSPARENT, or another node answers a POLL. A CALL counts nothing; a polled node, configured by the entry it was polled under
(R34), misses an answer, and falls SILENT at the third, which ends its session ENCODER_SILENT (R112). NODE_SILENT stands before
that session's ISSUE_FAILED: R159 allows either order, the model takes this one (log 59). A part that stops is covered too: its
exchanges have their whole effect (log 43). -/
def Obligations.WindowsTakeOneAnswer : Prop :=
  (∀ (s : State) (l : LineNo) (e : Exchange), flying s l e → (∀ a c d f, e.kind ≠ .command a c d f) →
    let now : Capture := { minute := s.time.clock.minute, second := s.time.clock.second, tick := s.time.tick }
    (e.stamp = none →
      ∃ t, exec (.answerReceived l .begins) s = .next t ∧ unchangedBut [.lines] s t ∧ linesBut l s t ∧
        lineOf t l = { lineOf s l with exchange := some { e with stamp := some now } }) ∧
    (e.stamp ≠ none → e.restarted = false →
      ∃ t, exec (.answerRestart l) s = .next t ∧ unchangedBut [.lines] s t ∧ linesBut l s t ∧
        lineOf t l = { lineOf s l with exchange := some { e with stamp := some now, restarted := true } })) ∧
  (∀ (s : State) (l : LineNo) (e : Exchange) (chars : List Byte) (c : Instr), flying s l e →
    let garbled :=
      ∀ ans, parseAnswer chars = some ans → (lineOf s l).mode ≠ .transparent ∧ ans.event = none
    ((c = .answerWindowClose l ∧ e.stamp = none) ∨ c = .stretchLimitExceeded l ∨
      (c = .answerRestart l ∧ e.stamp ≠ none ∧ e.restarted = true) ∨
      (c = .answerReceived l (.ends chars) ∧ garbled)) →
    (e.kind = .call →
      ∃ t, exec c s = .next t ∧ unchangedBut [.lines] s t ∧ linesBut l s t ∧
        lineOf t l = { lineOf s l with exchange := none }) ∧
    ∀ a d, e.kind = .poll a →
      (d = c ∨ (d = .pollFrameNotDelivered l ∧ e.stamp = none) ∨
        (d = .answerReceived l (.ends chars) ∧ ∀ ans, parseAnswer chars = some ans → ans.addr ≠ a)) →
      let n : Node := { line := l, addr := a }
      let x := look (lineOf s l).nodes a
      let known := configured (begunUnder s l e a)
      (known = false →
        ∃ t, exec d s = .next t ∧ unchangedBut [.lines] s t ∧ linesBut l s t ∧
          lineOf t l = { lineOf s l with exchange := none }) ∧
      (known = true → (fallsSilent x → endable s n = []) →
        ∃ t, exec d s = .next t ∧ unchangedBut [.lines, .journal, .trunk] s t ∧ linesBut l s t ∧
          lineOf t l =
            { lineOf s l with exchange := none, nodes := put (lineOf s l).nodes a (nodeMissed x) } ∧
          silenceReported s t n x) ∧
      (known = true → fallsSilent x → endable s n ≠ [] →
        ∃ t, exec d s = .next t ∧ unchangedBut [.time, .lines, .issue, .journal, .trunk] s t ∧ linesBut l s t ∧
          lineOf t l =
            lineWithdrawn
              { lineOf s l with exchange := none, nodes := put (lineOf s l).nodes a (nodeMissed x) } a ∧
          sessionCommandGone t n ∧ timeoutCancelled s t n ∧ t.issue = sessionsEnded s (endable s n) .encoderSilent ∧
          appendsAll s t
            ({ stampedRecord s .nodeSilent with node := some (.node n) } ::
              endRecords s (endable s n) .encoderSilent) ∧
          trunkIs t
            { s.trunk with
              notices := noticesWith s (.nodeSilent n :: endNotices s (endable s n) .encoderSilent) }))

/-- An answer of a door, to a POLL or a CALL, in DECIDE or HOLDING entered from it, with no event or any but PRESENT (R36, R37,
R39, R40, R91, R92, R96, R210): a good answer. A CONTACT event is reported first and then the status's contact, each open when
it says so or the tamper indication is set (log 15), a CONTACT code other than 0 and 1 at a free level (log 9); for a ROOM_DOOR
the deadbolt is that of the status, whatever its event, with the privacy write derived from the deadbolts of the room's doors.
An event that R37 does not list for a door is discarded. The node's kind is that of the entry the exchange began under (R34, log
49), the held limit and the deadbolt's room those of its entry now (log 60). NODE_BACK stands before the Door Tracker's records:
R159 allows either order, the model takes this one (log 57). A part that stops is covered too (log 43). -/
def Obligations.GateAnswerReportsContact : Prop :=
  ∀ (s : State) (l : LineNo) (a : Addr) (e : Exchange) (status : Byte) (event : Nat) (content : List Byte),
    flying s l e → e.kind = .poll a ∨ e.kind = .call →
    (lineOf s l).mode = .decide ∨ (lineOf s l).mode = .holding false →
    event < 8 → event ≠ 1 → content.length = eventLength event →
    let n : Node := { line := l, addr := a }
    let kind := (begunUnder s l e a).kind
    let level :=
      if content = [0] then false else if content = [1] then true else Config.otherContact (content.getD 0 0)
    let shown := status.getLsbD 0 || status.getLsbD 2
    let reports := if event = 2 then [status.getLsbD 2 || level, shown] else [shown]
    kind = .commonGate ∨ kind = .roomDoor →
    ∃ t, exec (.answerReceived l (.ends (answerFrame a event (status :: content)))) s = .next t ∧
      unchangedBut [.time, .lines, .tracker, .journal, .trunk] s t ∧ linesBut l s t ∧
      lineOf t l = lineAnswered (lineOf s l) a ∧
      doorReported s t n reports (if kind = .roomDoor then some (status.getLsbD 1) else none) s.time.deadlines ∧
      appendsAll s t (backRecord s n ++ contactRecords s n reports) ∧
      trunkIs t { s.trunk with notices := noticesWith s (contactNotices s n reports) }

/-- What a delivered answer hands on, its event before its status (R37). A PRESENT event (R38, R69, R70), in DECIDE or HOLDING
entered from it: in RUN the presentation, with the stamp of the answer's beginning, takes its place in capture order, replaces
the node's waiting one, or finds the queue full, which queues BUSY; while its node is being decided it is discarded; before RUN
DEFER is queued: both under R42, and a PREPARE or WRITE they replace ends its session (R112). Then the status: a door's contact
and deadbolt, a minibar's set as a report item, an encoder's status. With another event: a minibar's set, or its event's set and
the status set where they differ, is queued as one report item (R143). An encoder's BLANK asks for a composition, WRITTEN
decides DONE, WRITE_FAILED and a change to FAULT end the session, and its status is kept (R37, R107 to R109, R112). An event R37
does not list for the kind is discarded. In TRANSPARENT, and in HOLDING entered from it, a good answer is passed up whole, or
discarded when the pass-up queue is full (R46, R48, R197, R210). A CALL answer is taken as a POLL answer (R36). The kind is that
of the entry the exchange began under (R34, log 49); what a receiver reads for itself is of the entry now (log 60). NODE_BACK
stands before every other record: R159 allows either order, the model takes this one (log 57). A part that stops is covered too
(log 43). -/
def Obligations.PresentationIsQueued : Prop :=
  (∀ (s : State) (l : LineNo) (a : Addr) (e : Exchange) (st : Capture) (chars : List Byte) (ans : NodeAnswer)
    (g : Grant),
    sessionsSound s → flying s l e → e.kind = .poll a ∨ e.kind = .call → e.stamp = some st →
    (lineOf s l).mode = .decide ∨ (lineOf s l).mode = .holding false →
    parseAnswer chars = some ans → ans.addr = a → ans.event = some (.present g) →
    let n : Node := { line := l, addr := a }
    let p : Presentation := { node := n, grant := g, capture := st }
    let back := fun q : Presentation => (s.time.tick - q.capture.tick).toNat
    let kind := (begunUnder s l e a).kind
    let deciding := (match s.port.inHand with | some (.decision q) => q.node == n | _ => false) = true
    let fits := (∃ q ∈ s.queue, q.node = n) ∨ s.queue.length < 16
    let told : Option Command :=
      if configured (doorOf s n) = false ∨ (s.startup.phase = .run ∧ (deciding ∨ fits)) then none
      else if s.startup.phase = .run then some .busy
      else some .defer
    let replaced := (told.map (replacedSession s n)).getD []
    let broken := kind = .encoder ∧ ans.status ≠ 0 ∧ (nodeOf s n).faulty ≠ some true
    let ks := if replaced ≠ [] then replaced else if broken then endable s n else []
    let why : FailReason := if replaced ≠ [] then .encoderUnreachable else .encoderSilent
    let left :=
      if ks = [] then s.time.deadlines
      else s.time.deadlines.filter fun d => !(d.node == n && d.kind == .issueTimeout)
    let shown := ans.status.getLsbD 0 || ans.status.getLsbD 2
    let reports := if kind = .roomDoor ∨ kind = .commonGate then [shown] else []
    kind ≠ .unused →
    ∃ t, exec (.answerReceived l (.ends chars)) s = .next t ∧
      unchangedBut [.time, .lines, .queue, .tracker, .issue, .minibar, .journal, .trunk] s t ∧ linesBut l s t ∧
      (s.startup.phase ≠ .run ∨ deciding ∨ ¬ fits → t.queue = s.queue) ∧
      (s.startup.phase = .run → ¬ deciding → fits →
        ∃ older newer, s.queue.filter (fun q => q.node != n) = older ++ newer ∧ t.queue = older ++ p :: newer ∧
          (∀ q ∈ older, back p ≤ back q) ∧ ∀ q, newer.head? = some q → back q < back p) ∧
      (let answered := lineAnswered (lineOf s l) a
       let queued := (told.map (lineQueued answered a)).getD answered
       let known :=
         if kind = .encoder then
           { queued with
             nodes := put queued.nodes a { look queued.nodes a with faulty := some (decide (ans.status ≠ 0)) } }
         else queued
       lineOf t l = if ks = [] then known else lineWithdrawn known a) ∧
      t.issue = sessionsEnded s ks why ∧
      doorReported s t n reports (if kind = .roomDoor then some (ans.status.getLsbD 1) else none) left ∧
      t.minibar = (if kind = .minibar then itemQueued n (.item n ans.status none) s.minibar else s.minibar) ∧
      appendsAll s t (backRecord s n ++ endRecords s ks why ++ contactRecords s n reports) ∧
      trunkIs t
        { s.trunk with notices := noticesWith s (endNotices s ks why ++ contactNotices s n reports) }) ∧
  ∀ (s : State) (l : LineNo) (a : Addr) (e : Exchange) (event : Nat) (status : Byte) (content : List Byte),
    flying s l e → e.kind = .poll a ∨ e.kind = .call → event < 8 →
    let n : Node := { line := l, addr := a }
    let x := look (lineOf s l).nodes a
    let kind := (begunUnder s l e a).kind
    let back := backRecord s n
    let received := fun (t : State) =>
      exec (.answerReceived l (.ends (answerFrame a event (status :: content)))) s = .next t ∧ linesBut l s t
    let kept := fun (t : State) (faulty : Option Bool) =>
      lineOf t l =
        { lineOf s l with
          exchange := none
          nodes := put (lineOf s l).nodes a { x with missed := 0, silent := false, faulty := faulty } }
    (((lineOf s l).mode = .transparent ∧ content.length ≤ 39) ∨
        ((lineOf s l).mode = .holding true ∧ content.length = eventLength event) →
      kind ≠ .unused →
      ∃ t, received t ∧ unchangedBut [.lines, .journal, .trunk] s t ∧ kept t x.faulty ∧ appendsAll s t back ∧
        trunkIs t
          { s.trunk with
            outQueue :=
              s.trunk.outQueue ++
                (if passUpCount s.trunk.outQueue < 4 then
                  [.passUp l a
                    ([BitVec.ofNat 8 (8 * a.val + event), BitVec.ofNat 8 (content.length + 1), status] ++ content)]
                else []) }) ∧
    ((lineOf s l).mode = .decide ∨ (lineOf s l).mode = .holding false → event ≠ 1 →
      content.length = eventLength event →
      (kind = .minibar →
        ∃ t, received t ∧ unchangedBut [.lines, .minibar, .journal] s t ∧ kept t x.faulty ∧ appendsAll s t back ∧
          t.minibar =
            itemQueued n
              (if event = 4 then .item n (content.getD 0 0) (if content = [status] then none else some status)
              else .item n status none)
              s.minibar) ∧
      (kind = .encoder →
        let fault := status ≠ 0
        let breaks := fault ∧ x.faulty ≠ some true
        let ks := endable s n
        let doneNow := event = 6 ∧ ∃ k ∈ ks, (ctxOf s k).state = .writing
        let failedNow := event = 7 ∧ ∃ k ∈ ks, (ctxOf s k).heldBlank = none
        let blankNow := event = 5 ∧ ∃ k ∈ ks, (ctxOf s k).state = .awaitBlank ∧ (ctxOf s k).heldBlank = none
        ∃ t, received t ∧ unchangedBut [.time, .lines, .issue, .journal, .trunk] s t ∧
          (lineOf t l).exchange = none ∧ (nodeOf t n).faulty = some (decide fault) ∧ (nodeOf t n).missed = 0 ∧
          (nodeOf t n).silent = false ∧
          (ks = [] ∨ (¬ breaks ∧ ¬ doneNow ∧ ¬ failedNow ∧ ¬ blankNow) →
            unchangedBut [.lines, .journal] s t ∧ kept t (some (decide fault)) ∧ appendsAll s t back) ∧
          (∀ k ∈ ks, blankNow → ¬ breaks →
            unchangedBut [.lines, .issue, .journal] s t ∧ kept t (some (decide fault)) ∧ appendsAll s t back ∧
              t.issue =
                { ctxs :=
                    put s.issue.ctxs k
                      { ctxOf s k with
                        heldBlank :=
                          some (BitVec.ofNat 32
                            ((content.foldl (fun v b => v * 256 + b.toNat) 0))) }
                  work := s.issue.work ++ [.composition k] }) ∧
          (∀ k ∈ ks, doneNow →
            unchangedBut [.time, .lines, .issue, .journal] s t ∧ sessionCommandGone t n ∧ timeoutCancelled s t n ∧
              appendsAll s t back ∧
              t.issue =
                { ctxs := put s.issue.ctxs k { ctxOf s k with outcome := some .done }
                  work := s.issue.work ++ [.closing k] }) ∧
          (sessionsSound s → failedNow ∨ (breaks ∧ ks ≠ [] ∧ ¬ doneNow) →
            let why : FailReason := if failedNow then .writeFailed else .encoderSilent
            sessionCommandGone t n ∧ timeoutCancelled s t n ∧ t.issue = sessionsEnded s ks why ∧
              appendsAll s t (back ++ endRecords s ks why) ∧
              trunkIs t { s.trunk with notices := noticesWith s (endNotices s ks why) })))

/-- A command delivered (R39, R40, R42 to R44, R90, R95): the node's pending command is done with. At a door an end-hold duty
ends the hold first, GRANT, HOLD_OPEN or RELEASE_END changes the door state, and a hold that ends with the contact open arms
HELD. At a minibar or an encoder it is handed to nobody. One that a newer command has replaced in flight leaves the newer one
pending, and its own acceptance is handed on (logs 12, 50, 56); one withdrawn (R115), or dropped by a change of line mode
(log 13), is handed to nobody; one whose node's DOOR entry a post has rewritten is handed on under the entry the exchange began
under (R34), with the open time and held limit of the class the entry now gives; a deadline of a door is not armed for a node
that is none now (R11, log 60). A part that stops is covered too (log 43). -/
def Obligations.DeliveredCommandIsAccepted : Prop :=
  ∀ (s : State) (l : LineNo) (a : Addr) (e : Exchange) (c : Command) (duty : Bool) (fate : Fate),
    flying s l e → e.kind = .command a c duty fate →
    let n : Node := { line := l, addr := a }
    let x := look (lineOf s l).nodes a
    let d := begunUnder s l e a
    let k := trackOf s n
    let time := (classOf s (doorOf s n).cls).openTime
    let limit := (classOf s (doorOf s n).cls).heldLimit
    let pending := fate = .live ∨ fate = .withdrawn
    let handed := isDoor d = true ∧ fate ≠ .withdrawn ∧ fate ≠ .dropped
    let heard : NodeCtl := if configured d then { x with missed := 0, silent := false } else x
    let ended : DoorState :=
      match k.state, k.contact with
      | .released, none => .unknown
      | .released, some false => .locked
      | .released, some true => .opened
      | d, _ => d
    let base := if duty = true then ended else k.state
    let arms := (c = .releaseEnd ∨ duty = true) ∧ c ≠ .holdOpen ∧ k.state = .released ∧ k.contact = some true
    ∃ t, exec (.commandDelivered l) s = .next t ∧ unchangedBut [.time, .lines, .tracker, .journal] s t ∧
      linesBut l s t ∧ doorsBut n s t ∧
      lineOf t l =
        { lineOf s l with
          exchange := none
          fifo := if pending then (lineOf s l).fifo.filter (fun b => b != a) else (lineOf s l).fifo
          nodes :=
            put (lineOf s l).nodes a
              (if pending then { heard with command := none, attempts := 0, duty := false } else heard) } ∧
      appendsAll s t (if configured d then backRecord s n else []) ∧
      (¬ handed → t.time = s.time ∧ t.tracker = s.tracker) ∧
      (handed →
        (trackOf t n).contact = k.contact ∧ (trackOf t n).deadbolt = k.deadbolt ∧
        (∀ o, c = .grant o →
          (trackOf t n).state =
              (match base with
                | .unknown => .unlocked
                | .locked => .unlocked
                | d => d) ∧
            (base = .released → t.time = s.time) ∧
            (base ≠ .released → isDoor (doorOf s n) = true → 1 ≤ time.toNat →
              t.time.deadlines.filter (fun d => d.node == n && d.kind == .relock) =
                [{ due := s.time.tick + time.setWidth 32, node := n, kind := .relock }]) ∧
            (k.state ≠ .released →
              t.time.deadlines.filter (fun d => !(d.node == n && d.kind == .relock)) =
                s.time.deadlines.filter (fun d => !(d.node == n && d.kind == .relock)))) ∧
        (c = .holdOpen →
          (trackOf t n).state = .released ∧
            t.time.deadlines =
              s.time.deadlines.filter (fun d => !(d.node == n && (d.kind == .relock || d.kind == .held)))) ∧
        (c = .releaseEnd →
          (trackOf t n).state = ended ∧ (k.state ≠ .released ∨ k.contact ≠ some true → t.time = s.time)) ∧
        (arms → isDoor (doorOf s n) = true → 1 ≤ limit.toNat → limit.toNat ≤ 6000 →
          t.time.deadlines.filter (fun d => d.node == n && d.kind == .held) =
              [{ due := s.time.tick + limit.setWidth 32, node := n, kind := .held }] ∧
            ((∀ o, c ≠ .grant o) →
              t.time.deadlines.filter (fun d => !(d.node == n && d.kind == .held)) =
                s.time.deadlines.filter (fun d => !(d.node == n && d.kind == .held)))) ∧
        (isDoor (doorOf s n) = false → c ≠ .holdOpen → t.time = s.time) ∧
        t.time = { s.time with deadlines := t.time.deadlines } ∧
        t.time.deadlines.filter (fun d => !(d.node == n && (d.kind == .relock || d.kind == .held))) =
          s.time.deadlines.filter (fun d => !(d.node == n && (d.kind == .relock || d.kind == .held))) ∧
        ((∀ o, c ≠ .grant o) → c ≠ .holdOpen → c ≠ .releaseEnd →
          (trackOf t n).state = base ∧ (¬ arms → t.time = s.time)))

/-- A command not delivered (R39, R40, R42 to R44): its attempts rise and its node goes to the tail of the FIFO, until the
third failure drops it; HOLD_OPEN, RELEASE_END and a command with the end-hold duty are never dropped. One that a newer command
has replaced in flight sends its node to the tail and charges the newer one nothing (logs 12, 56); one withdrawn is dropped
(R115); one dropped by a change of line mode (log 13) or by a DOOR post (R34) is not tried again. The node misses an answer. The
abandonment of its exchange does the same (R31). The drop of a PREPARE or WRITE ends its session ENCODER_UNREACHABLE, and a node
that falls SILENT ends one ENCODER_SILENT (R112); where both come of one failure the drop does (log 42). NODE_SILENT stands
before the ISSUE_FAILED it causes: R159 allows either order, the model takes this one (log 59). A part that stops is covered too
(log 43). -/
def Obligations.FailedCommandIsRetried : Prop :=
  ∀ (s : State) (l : LineNo) (a : Addr) (e : Exchange) (c : Command) (duty : Bool) (fate : Fate) (i : Instr),
    flying s l e → e.kind = .command a c duty fate → (i = .commandNotDelivered l ∨ i = .stretchLimitExceeded l) →
    let n : Node := { line := l, addr := a }
    let x := look (lineOf s l).nodes a
    let always := c = .holdOpen ∨ c = .releaseEnd ∨ duty = true
    let tail :=
      if a ∈ (lineOf s l).fifo then (lineOf s l).fifo.filter (fun b => b != a) ++ [a] else (lineOf s l).fifo
    let drops := fate = .live ∧ ¬ always ∧ 2 ≤ x.attempts.val
    let unreachable :=
      drops ∧ isSessionCommand c = true ∧
        ∃ k ∈ endable s n, (ctxOf s k).state = if c = .prepare then .awaitBlank else .writing
    let silenced := ¬ unreachable ∧ fallsSilent x ∧ endable s n ≠ []
    let why : FailReason := if unreachable then .encoderUnreachable else .encoderSilent
    let silent : List Record :=
      if fallsSilent x then [{ stampedRecord s .nodeSilent with node := some (.node n) }] else []
    let alarm : List NoticeBody := if fallsSilent x then [.nodeSilent n] else []
    let ended := endRecords s (endable s n) why
    let told := endNotices s (endable s n) why
    let withNode := fun (fifo : List Addr) (y : NodeCtl) =>
      { lineOf s l with exchange := none, fifo := fifo, nodes := put (lineOf s l).nodes a (nodeMissed y) }
    let left : LineCtl :=
      if drops ∨ fate = .withdrawn then
        withNode ((lineOf s l).fifo.filter fun b => b != a) { x with command := none, attempts := 0, duty := false }
      else if fate = .live ∧ ¬ always then withNode tail { x with attempts := x.attempts + 1 }
      else if fate = .live ∨ fate = .replaced then withNode tail x
      else withNode (lineOf s l).fifo x
    configured (begunUnder s l e a) = true →
    ∃ t, exec i s = .next t ∧ unchangedBut [.time, .lines, .issue, .journal, .trunk] s t ∧ linesBut l s t ∧
      lineOf t l = (if silenced then lineWithdrawn left a else left) ∧
      (¬ unreachable → ¬ silenced → unchangedBut [.lines, .journal, .trunk] s t ∧ silenceReported s t n x) ∧
      (sessionsSound s → unreachable ∨ silenced →
        sessionCommandGone t n ∧ timeoutCancelled s t n ∧ t.issue = sessionsEnded s (endable s n) why ∧
          appendsAll s t (if unreachable then ended ++ silent else silent ++ ended) ∧
          trunkIs t
            { s.trunk with notices := noticesWith s (if unreachable then told ++ alarm else alarm ++ told) } ∧
          ((nodeOf t n).silent = true ↔ fallsSilent x ∨ x.silent = true))

/-- LINE_STUCK and LINE_FREE (R52): the condition, the record and, for STUCK, the notice. -/
def Obligations.StuckLineIsReported : Prop :=
  ∀ (s : State) (l : LineNo) (w : Wire), s.working = true → (lineOf s l).mode ≠ .held →
    (lineOf s l).exchange = none →
    ((lineOf s l).stuck = false →
      ∃ t, exec (.lineStuck l w) s = .next t ∧ unchangedBut [.lines, .journal, .trunk] s t ∧ linesBut l s t ∧
        lineOf t l = { lineOf s l with stuck := true } ∧
        appendsAll s t [{ stampedRecord s .lineStuck with node := some (.line l), detail := .wire w }] ∧
        notifies s t (.lineStuck l w)) ∧
    ((lineOf s l).stuck = true →
      ∃ t, exec (.lineFree l) s = .next t ∧ unchangedBut [.lines, .journal] s t ∧ linesBut l s t ∧
        lineOf t l = { lineOf s l with stuck := false } ∧
        appendsAll s t [{ stampedRecord s .lineFree with node := some (.line l) }])

/-- LINE_MODE (R45, R48 to R50): refusals (RANGE for a mode code of HOLDING or naming no mode: log 10), BUSY, requests for
the mode held, and the changes from DECIDE, TRANSPARENT and HELD; HELD is entered at once where no exchange is in flight. The
entry to HOLDING has its record (log 14); the forced commits and session ends of an entry come by rising address (log 26);
on an entry to TRANSPARENT the records of the ended sessions stand before the LINE_MODE record (log 51). -/
def Obligations.LineModeIsTaken : Prop :=
  ∀ (s : State) (r : RequestInHand) (lb mb : Byte), asked s r → r.request = .lineMode lb mb →
    (4 ≤ lb.toNat ∨ (mb ≠ 0 ∧ mb ≠ 1 ∧ mb ≠ 3) →
      ∃ t, exec .lineMode s = .next t ∧ unchangedBut [.trunk] s t ∧ answers s t r (.refused .range)) ∧
    ∀ l : LineNo, lb.toNat = l.val → (mb = 0 ∨ mb = 1 ∨ mb = 3) →
      let mode := (lineOf s l).mode
      let entry : LineMode → Record := fun m =>
        { stampedRecord s .lineMode with node := some (.line l), detail := .lineMode m false }
      let ks := sessionsOnLine s l
      let ended := endRecords s ks .lineMode
      let told : Trunk := { s.trunk with notices := noticesWith s (endNotices s ks .lineMode) }
      (s.override.effective = .release → mb ≠ 0 →
        ∃ t, exec .lineMode s = .next t ∧ unchangedBut [.trunk] s t ∧ answers s t r (.refused .phase)) ∧
      (s.override.effective ≠ .release ∨ mb = 0 →
        ((∃ b, mode = .holding b) →
          ∃ t, exec .lineMode s = .next t ∧ unchangedBut [.trunk] s t ∧ answers s t r .busy) ∧
        ((mode = .decide ∧ mb = 0) ∨ (mode = .transparent ∧ mb = 1) ∨ (mode = .held ∧ mb = 3) →
          ∃ t, exec .lineMode s = .next t ∧ unchangedBut [.trunk] s t ∧ answers s t r (.done [])) ∧
        (mode = .decide → mb = 1 →
          ∃ t, exec .lineMode s = .next t ∧
            unchangedBut [.time, .lines, .queue, .tracker, .issue, .minibar, .journal, .trunk] s t ∧
            (lineOf t l).mode = .transparent ∧ lineEntered l s t ∧ appendsAll s t (ended ++ [entry .transparent]) ∧
            trunkIs t (answeredTrunk told r (.done []))) ∧
        (mode = .transparent → mb = 0 →
          ∃ t, exec .lineMode s = .next t ∧ unchangedBut [.lines, .journal, .trunk] s t ∧
            (lineOf t l).mode = .decide ∧ sweepLoaded l s t ∧ linesBut l s t ∧ lineOf t l = lineTakenBack s l ∧
            (∀ a, (look (lineOf t l).nodes a).command =
              (look (lineOf s l).nodes a).command.filter fun c => !isPass c) ∧
            appendsAll s t [entry .decide] ∧ answers s t r (.done [])) ∧
        (mode = .held → mb = 0 →
          ∃ t, exec .lineMode s = .next t ∧ unchangedBut [.lines, .journal, .trunk] s t ∧ linesBut l s t ∧
            sweepLoaded l s t ∧
            lineOf t l =
              { lineOf s l with mode := .decide, prevSlot := none, nodes := (lineOf t l).nodes } ∧
            (∀ a, look (lineOf t l).nodes a =
              { look (lineOf s l).nodes a with inSweep := (look (lineOf t l).nodes a).inSweep }) ∧
            appendsAll s t [entry .decide] ∧ answers s t r (.done [])) ∧
        (mode = .held → mb = 1 →
          ∃ t, exec .lineMode s = .next t ∧ unchangedBut [.lines, .journal, .trunk] s t ∧ linesBut l s t ∧
            lineOf t l = { lineOf s l with mode := .transparent, prevSlot := none } ∧
            appendsAll s t [entry .transparent] ∧ answers s t r (.done [])) ∧
        (mode = .decide ∨ mode = .transparent → mb = 3 → (lineOf s l).exchange ≠ none →
          ∃ t, exec .lineMode s = .next t ∧ unchangedBut [.lines, .journal, .trunk] s t ∧ linesBut l s t ∧
            lineOf t l =
              { lineOf s l with mode := .holding (decide (mode = .transparent)), waitingTag := some r.tag } ∧
            appendsAll s t [entry (.holding (decide (mode = .transparent)))] ∧
            trunkIs t { s.trunk with inHand := none }) ∧
        (mode = .decide ∨ mode = .transparent → mb = 3 → (lineOf s l).exchange = none →
          ∃ t, exec .lineMode s = .next t ∧
            unchangedBut [.time, .lines, .queue, .tracker, .issue, .minibar, .journal, .trunk] s t ∧
            (lineOf t l).mode = .held ∧ (lineOf t l).waitingTag = none ∧ lineEntered l s t ∧
            appendsAll s t (entry (.holding (decide (mode = .transparent))) :: ended ++ [entry .held]) ∧
            trunkIs t
              { told with
                inHand := none
                outQueue := s.trunk.outQueue ++ [.reply { tag := r.tag, code := 14, answer := .done [] }]
                reserved := s.trunk.reserved - 1 }))

/-- ENTER_HELD (R47 to R49): a HOLDING line whose exchange is over is HELD, with the entry effects, its record, and the
reply to the request that has waited. The forced commits and the sessions ended LINE_MODE come by rising address (log 26). One
that has become STUCK in the wait after an abandonment waits on until its wires are released (R31, R48, R52). -/
def Obligations.HoldingLineEntersHeld : Prop :=
  ∀ (s : State) (l : LineNo) (b : Bool), s.working = true → (lineOf s l).mode = .holding b →
    ((lineOf s l).exchange ≠ none ∨ (lineOf s l).stuck = true → exec (.enterHeld l) s = .next s) ∧
    ((lineOf s l).exchange = none → (lineOf s l).stuck = false →
      let ks := sessionsOnLine s l
      let replies : List OutFrame :=
        (lineOf s l).waitingTag.toList.map fun tag => .reply { tag := tag, code := 14, answer := .done [] }
      ∃ t, exec (.enterHeld l) s = .next t ∧
        unchangedBut [.time, .lines, .queue, .tracker, .issue, .minibar, .journal, .trunk] s t ∧
        (lineOf t l).mode = .held ∧ (lineOf t l).waitingTag = none ∧ lineEntered l s t ∧
        appendsAll s t
          (endRecords s ks .lineMode ++
            [{ stampedRecord s .lineMode with node := some (.line l), detail := .lineMode .held false }]) ∧
        trunkIs t
          { s.trunk with
            notices := noticesWith s (endNotices s ks .lineMode)
            outQueue := s.trunk.outQueue ++ replies, reserved := s.trunk.reserved - replies.length })

/-! ### Issue -/

/-- ISSUE judged (R105, R106): the first test that fails gives the reply and changes nothing; one that passes takes the
lowest FREE context, marks the room, queues PREPARE under R42, arms 3,000 ticks and answers ACCEPTED; no other node's command
and no other deadline changes. A node byte of 128 or more is
refused RANGE (log 11), and so is a kind code other than 0, NEW, and 1, DUPLICATE (log 34). -/
def Obligations.IssueIsJudged : Prop :=
  ∀ (s : State) (r : RequestInHand) (nb kb : Byte) (stay : Stay), opFor s .judge r → r.request = .issue nb kb stay →
    let n := nodeNumbered nb
    let good := issueInRange nb kb stay
    let ready :=
      (doorOf s n).kind = .encoder ∧ (lineOf s n.line).mode = .decide ∧ (nodeOf s n).silent = false ∧
        (nodeOf s n).faulty ≠ some true
    let guest := stay.cls = 1
    let held := findRoom s stay.room ≠ none
    let vacant := ∃ i, findRoom s stay.room = some i ∧ (dynOf s i).occupied = false
    let taken := ∃ k, (ctxOf s k).state ≠ .free ∧
      ((ctxOf s k).node = n ∨ (guest ∧ (ctxOf s k).stay.cls = 1 ∧ (ctxOf s k).stay.room = stay.room))
    let refuses := fun (a : Answer) =>
      ∃ t, exec (.issue .complete) s = .next t ∧ unchangedBut [.port, .trunk] s t ∧ t.port.inHand = none ∧
        answers s t r a
    (¬ good → refuses (.refused .range)) ∧
    (good → ¬ ready → refuses (.refused .encoder)) ∧
    (good → ready → guest → ¬ held → refuses (.refused .room)) ∧
    (good → ready → guest → held → kb = 1 → vacant → refuses (.refused .vacant)) ∧
    (good → ready → (guest → held ∧ (kb = 1 → ¬ vacant)) →
      (taken ∨ ∀ k, (ctxOf s k).state ≠ .free) → refuses .busy) ∧
    (good → ready → (guest → held ∧ (kb = 1 → ¬ vacant)) → ¬ taken →
      (∀ c, (nodeOf s n).command = some c →
        isSessionCommand c = false ∨ flightFate (lineOf s n.line) n.addr = some .withdrawn) →
      ∀ k, (ctxOf s k).state = .free → (∀ j, j < k → (ctxOf s j).state ≠ .free) →
        ∃ t, exec (.issue .complete) s = .next t ∧ unchangedBut [.time, .lines, .issue, .store, .port, .trunk] s t ∧
          t.port.inHand = none ∧
          t.issue =
            { s.issue with
              ctxs :=
                put s.issue.ctxs k
                  { IssueCtx.free with
                    state := .awaitBlank, node := n, tag := r.tag, duplicate := decide (kb = 1), stay := stay } } ∧
          (¬ guest → t.store = s.store) ∧
          (∀ i, guest → findRoom s stay.room = some i →
            t.store = { s.store with dyns := put s.store.dyns i { dynOf s i with marker := some k } }) ∧
          t.lines = linesQueued s n .prepare ∧
          ((nodeOf s n).command ≠ some .holdOpen → (nodeOf t n).command = some .prepare) ∧
          timeoutArmed s t n 3000 ∧
          answers s t r (.accepted (BitVec.ofNat 8 k.val)))

/-- COMPOSITION (R22, R26, R107): the grant carries the stay, the BLANK's serial, the generation and the check code of the
site code in force; the context is WRITING, WRITE is queued under R42, in place of a PREPARE still pending, and 50 ticks run;
no other node's command and no other deadline changes. A composition granted and completed after the
outcome is decided has no effect (log 23). -/
def Obligations.CompositionWritesGrant : Prop :=
  ∀ (s : State) (k : Fin 2) (serial : Serial) (g : Gen), opInHand s (.composition k) →
    let c := ctxOf s k
    let n := c.node
    let plain : Grant :=
      { serial := serial, cls := c.stay.cls, gen := g, room := c.stay.room, start := c.stay.start,
        finish := c.stay.finish, zones := c.stay.zones, options := c.stay.options &&& 3, check := 0 }
    let grant := { plain with check := checkCode (configOf s).siteCode plain }
    (c.outcome ≠ none →
      ∃ t, exec (.composition .complete) s = .next t ∧ unchangedBut [.port] s t ∧ t.port.inHand = none) ∧
    (c.outcome = none → c.state = .awaitBlank → c.heldBlank = some serial →
      (c.stay.cls ≠ 1 → g = 0) →
      (c.stay.cls = 1 → ∃ i, findRoom s c.stay.room = some i ∧
        g = if c.duplicate then (dynOf s i).issued else (dynOf s i).issued + 1) →
      (doorOf s n).kind = .encoder →
      (∀ x, (nodeOf s n).command = some x →
        x = .prepare ∨ isSessionCommand x = false ∨ flightFate (lineOf s n.line) n.addr = some .withdrawn) →
      ctxOfNode s n = some k →
      ∃ t, exec (.composition .complete) s = .next t ∧ unchangedBut [.time, .lines, .issue, .port] s t ∧
        t.port.inHand = none ∧
        t.issue =
          { s.issue with
            ctxs :=
              put s.issue.ctxs k
                { c with
                  state := .writing, serial := some serial, gen := some g, composed := some grant,
                  heldBlank := none } } ∧
        t.lines = linesQueued s n (.write grant) ∧
        ((nodeOf s n).command ≠ some .holdOpen → (nodeOf t n).command = some (.write grant)) ∧
        verifies (configOf t).siteCode grant = true ∧ timeoutArmed s t n 50)

/-- ISSUE_CLOSING (R103, R109 to R111, R113 to R115, R118, R133). For a GUEST session whose room a slot holds: the commit of
a NEW, a DUPLICATE's, the void commit, the burn, and an end that burns nothing. For another class: the commit after WRITTEN.
Every DONE commit takes its serial's deny entry out, with its DENY record first. Generations move for a g that follows the
issued one (log 16); the void commit's are set whatever the room now holds (log 44). A burn with the VOID flag sets the room
VACANT (log 17). The marker cleared is that of the slot that now holds the number (log 39). The record of a GUEST session that
ends with no generation composed, as one in AWAIT_BLANK does, carries g = 0: R113 and R118 give no value there, and 0 is the
model's choice (log 18). -/
def Obligations.ClosingCommitsOrBurns : Prop :=
  (∀ (s : State) (k : Fin 2) (i : Slot) (g : Gen) (out : SessionOutcome), opInHand s (.closing k) →
    let c := ctxOf s k
    let d := dynOf s i
    c.outcome = some out → c.stay.cls = 1 → findRoom s c.stay.room = some i →
    (c.state = .writing → c.gen = some g ∧ (c.duplicate = false → g = d.issued + 1)) →
    let fresh := c.duplicate = false
    let final : SessionOutcome := if out = .done ∧ c.void = true then .void else out
    let d' : RoomDyn :=
      match final with
      | .done =>
        if fresh then
          { raisedTo d g with
            occupied := true
            minibar :=
              if d.occupied then d.minibar
              else
                d.minibar.map fun m =>
                  { m with
                    tally := 0
                    state :=
                      if m.state = .openGuest ∨ m.state = .restock then m.state
                      else restState true (roomOf s i).limit.toNat 0 } }
        else d
      | .void => { d with issued := g, accepted := g + 1, occupied := false }
      | .failed _ burn =>
        if burn = false then d
        else if c.void = true ∨ d.occupied = false then
          { d with issued := g, accepted := g + 1, occupied := false }
        else raisedTo d g
    (c.state = .writing ∨ ∃ r, out = .failed r false) → (∀ r, out = .failed r true → fresh) → out ≠ .void →
    ∃ t, exec (.issueClosing .complete) s = .next t ∧ unchangedBut [.issue, .store, .port, .journal, .trunk] s t ∧
      t.port.inHand = none ∧
      t.issue = { s.issue with ctxs := put s.issue.ctxs k .free } ∧
      dynOf t i = { d' with marker := none } ∧ (∀ j, j ≠ i → dynOf t j = dynOf s j) ∧
      (final = .done →
        denyCommitted s t c.serial ∧
          appendsAll s t
            (denyRecords s c.serial ++
              [{ stampedRecord s .issueDone with
                node := some (.node c.node), serial := c.serial, room := some c.stay.room, cls := some 1,
                detail := .issue (some (c.gen.getD 0, d'.accepted, d'.issued)) none }])) ∧
      (final ≠ .done → t.store = { s.store with dyns := t.store.dyns }) ∧
      (final = .void →
        appendsAll s t
          [{ stampedRecord s .issueVoid with
            node := some (.node c.node), serial := c.serial, room := some c.stay.room, cls := some 1,
            detail := .issue (some (c.gen.getD 0, d'.accepted, d'.issued)) none }]) ∧
      (∀ r b, final = .failed r b →
        appendsAll s t
          [{ stampedRecord s .issueFailed with
            node := some (.node c.node), serial := c.serial, room := some c.stay.room, cls := some 1,
            detail := .issue (some (c.gen.getD 0, d'.accepted, d'.issued)) (some (r, b)) }]) ∧
      notifies s t (.issueResult c.tag k final c.serial c.gen)) ∧
  ∀ (s : State) (k : Fin 2), opInHand s (.closing k) →
    let c := ctxOf s k
    c.outcome = some .done → c.stay.cls ≠ 1 → c.void = false →
    ∃ t, exec (.issueClosing .complete) s = .next t ∧ unchangedBut [.issue, .store, .port, .journal, .trunk] s t ∧
      t.port.inHand = none ∧ t.issue = { s.issue with ctxs := put s.issue.ctxs k .free } ∧
      denyCommitted s t c.serial ∧ t.store.dyns = s.store.dyns ∧
      appendsAll s t
        (denyRecords s c.serial ++
          [{ stampedRecord s .issueDone with
            node := some (.node c.node), serial := c.serial, cls := some c.stay.cls, detail := .issue none none }]) ∧
      notifies s t (.issueResult c.tag k .done c.serial none)

/-- An ISSUE_TIMEOUT expiry (R112 to R116): nothing for a node with no open context or a decided one; a GUEST session's
outcome is decided, burning a NEW in WRITING, and its closing asked for; another class's session ends at once, with its
record and notice. And ISSUE_CANCEL by the state of the context it names (R112, R113, R117). Either withdraws the session's
PREPARE or WRITE, and no other node's command changes (R115). -/
def Obligations.SessionsEndEarly : Prop :=
  (∀ (s : State) (n : Node), delivered s n .issueTimeout [.issueTimeout] →
    ∃ t, exec (.issueTimeoutExpiry n) s = .next t ∧
      unchangedBut [.time, .lines, .issue, .journal, .trunk] s t ∧ expiryTaken s t n .issueTimeout ∧
      ((∀ k, ctxOfNode s n = some k → (ctxOf s k).outcome ≠ none) → unchangedBut [.time] s t) ∧
      ∀ k, ctxOfNode s n = some k → (ctxOf s k).outcome = none →
        let c := ctxOf s k
        let burn := decide (c.state = .writing ∧ c.stay.cls = 1 ∧ c.duplicate = false)
        (flightFate (lineOf s n.line) n.addr = none → ∀ x, (nodeOf t n).command = some x → isSessionCommand x = false) ∧
          t.lines = linesWithdrawn s n ∧
          (c.stay.cls = 1 →
            unchangedBut [.time, .lines, .issue] s t ∧
              t.issue =
                { s.issue with
                  ctxs := put s.issue.ctxs k { c with outcome := some (.failed .timeout burn), heldBlank := none }
                  work := (s.issue.work.filter fun w => w != .composition k) ++ [.closing k] }) ∧
          (c.stay.cls ≠ 1 →
            t.issue =
                { s.issue with
                  ctxs := put s.issue.ctxs k .free, work := s.issue.work.filter fun w => w != .composition k } ∧
              appendsAll s t
                [{ stampedRecord s .issueFailed with
                  node := some (.node n), serial := c.serial, cls := some c.stay.cls,
                  detail := .issue none (some (.timeout, false)) }] ∧
              notifies s t (.issueResult c.tag k (.failed .timeout false) c.serial none))) ∧
  (∀ (s : State) (r : RequestInHand) (b : Byte), asked s r → r.request = .issueCancel b →
    let answersOnly := fun (a : Answer) =>
      ∃ t, exec .issueCancel s = .next t ∧ unchangedBut [.trunk] s t ∧ answers s t r a
    (2 ≤ b.toNat → answersOnly (.refused .range)) ∧
    ∀ k : Fin 2, b.toNat = k.val →
      ((ctxOf s k).state = .free → answersOnly (.done [1])) ∧
      ((ctxOf s k).state = .writing → answersOnly .busy) ∧
      ((ctxOf s k).state = .awaitBlank → (ctxOf s k).outcome ≠ none → answersOnly (.done [0])) ∧
      ((ctxOf s k).state = .awaitBlank → (ctxOf s k).outcome = none → (ctxOf s k).stay.cls = 1 →
        ∃ t, exec .issueCancel s = .next t ∧ unchangedBut [.time, .lines, .issue, .trunk] s t ∧
          t.issue =
            { s.issue with
              ctxs :=
                put s.issue.ctxs k { ctxOf s k with outcome := some (.failed .cancelled false), heldBlank := none }
              work := (s.issue.work.filter fun w => w != .composition k) ++ [.closing k] } ∧
          timeoutCancelled s t (ctxOf s k).node ∧ t.lines = linesWithdrawn s (ctxOf s k).node ∧
          answers s t r (.done [0])) ∧
      ((ctxOf s k).state = .awaitBlank → (ctxOf s k).outcome = none → (ctxOf s k).stay.cls ≠ 1 →
        ∃ t, exec .issueCancel s = .next t ∧ unchangedBut [.time, .lines, .issue, .journal, .trunk] s t ∧
          t.issue =
            { s.issue with
              ctxs := put s.issue.ctxs k .free, work := s.issue.work.filter fun w => w != .composition k } ∧
          timeoutCancelled s t (ctxOf s k).node ∧ t.lines = linesWithdrawn s (ctxOf s k).node ∧
          appendsAll s t
            [{ stampedRecord s .issueFailed with
              node := some (.node (ctxOf s k).node), serial := (ctxOf s k).serial,
              cls := some (ctxOf s k).stay.cls, detail := .issue none (some (.cancelled, false)) }] ∧
          trunkIs t
            (answeredTrunk
              { s.trunk with
                notices :=
                  noticesAfter s
                    (.issueResult (ctxOf s k).tag k (.failed .cancelled false) (ctxOf s k).serial none) }
              r (.done [0]))))

/-- ROOM_CHECKOUT (R115, R119, R137, R149, R152): the pending charges are committed, a restock ends, the final tally is
reported, the room is VACANT with span 0. A session open for it in WRITING is voided; one in AWAIT_BLANK with no outcome decided
ends CHECKOUT: its PREPARE is withdrawn, its ISSUE_TIMEOUT cancelled, its closing asked for; one decided stays as it is. RETURN
and RELATCH of the room's minibar node are cancelled; every other deadline, command and line stands. -/
def Obligations.CheckoutClosesStay : Prop :=
  ∀ (s : State) (r : RequestInHand) (room : Half), opFor s .checkout r → r.request = .roomCheckout room →
    (findRoom s room = none →
      ∃ t, exec (.roomCheckout .complete) s = .next t ∧ unchangedBut [.port, .trunk] s t ∧ t.port.inHand = none ∧
        answers s t r (.refused .room)) ∧
    ∀ i, findRoom s room = some i →
      let d := dynOf s i
      let limit := (roomOf s i).limit
      let charges := (d.minibar.map (·.charges)).getD []
      let final : Half :=
        BitVec.ofNat 16 (tallyAfter ((d.minibar.map (·.tally.toNat)).getD 0) charges)
      let voided := (ctxOfRoom s room).toList.filter fun k => (ctxOf s k).state == .writing
      let ended :=
        (ctxOfRoom s room).toList.filter fun k => (ctxOf s k).state == .awaitBlank && (ctxOf s k).outcome.isNone
      let cancelled : Deadline → Bool := fun e =>
        (d.minibar.isSome && decide ((roomOf s i).minibarNode = some e.node) && (e.kind == .ret || e.kind == .relatch)) ||
          ended.any fun k => (ctxOf s k).node == e.node && e.kind == .issueTimeout
      ∃ t, exec (.roomCheckout .complete) s = .next t ∧
        unchangedBut [.time, .lines, .issue, .store, .port, .journal, .trunk] s t ∧ t.port.inHand = none ∧
        t.store =
          { s.store with
            dyns :=
              put s.store.dyns i
                { d with
                  accepted := d.issued + 1, occupied := false
                  minibar :=
                    d.minibar.map fun m =>
                      { m with
                        tally := 0, charges := [], state := .locked
                        stocked := if m.state = .restock then m.stable else m.stocked } } } ∧
        appendsAll s t
          (minibarRecords s i
              (((d.minibar.map fun m => commitDetails limit m.tally.toNat m.charges ++ relatchDetails m)).getD []) ++
            [{ stampedRecord s .checkout with
              room := some room, detail := .checkout final d.accepted (d.issued + 1) }]) ∧
        answers s t r
          (.done
            [room.extractLsb' 8 8, room.extractLsb' 0 8, final.extractLsb' 8 8, final.extractLsb' 0 8, d.issued + 1,
              d.issued]) ∧
        t.time = { s.time with deadlines := s.time.deadlines.filter fun e => !cancelled e } ∧
        (∀ k ∈ voided, t.issue = { s.issue with ctxs := put s.issue.ctxs k { ctxOf s k with void := true } }) ∧
        (∀ k ∈ ended,
          t.issue =
              { ctxs :=
                  put s.issue.ctxs k
                    { ctxOf s k with outcome := some (.failed .checkout false), heldBlank := none }
                work := (s.issue.work.filter fun w => w != .composition k) ++ [.closing k] } ∧
            t.lines = linesWithdrawn s (ctxOf s k).node) ∧
        (voided = [] → ended = [] → t.issue = s.issue) ∧ (ended = [] → t.lines = s.lines)

/-! ### Minibars -/

/-- MINIBAR_SETTLE (R136, R151): the tally is reported and starts again at 0, the state is recomputed unless the minibar
is open, pending charges stay. -/
def Obligations.SettleReportsTally : Prop :=
  ∀ (s : State) (r : RequestInHand) (room : Half), opFor s .settle r → r.request = .minibarSettle room →
    ∃ t, exec (.minibarSettle .complete) s = .next t ∧ unchangedBut [.store, .port, .journal, .trunk] s t ∧
      t.port.inHand = none ∧
      (findRoom s room = none → t.store = s.store ∧ appendsAll s t [] ∧ answers s t r (.refused .room)) ∧
      ∀ i, findRoom s room = some i →
        (partOf s i = none →
          t.store = s.store ∧
            appendsAll s t [{ stampedRecord s .settle with room := some room, detail := .settle 0 }] ∧
            ∃ x y, answers s t r
              (.done [room.extractLsb' 8 8, room.extractLsb' 0 8, 0, 0, x, y])) ∧
        ∀ m, partOf s i = some m →
          let state :=
            if m.state = .openGuest ∨ m.state = .restock then m.state
            else restState (dynOf s i).occupied (roomOf s i).limit.toNat 0
          t.store = storeWithPart s i { m with tally := 0, state := state } ∧
            appendsAll s t (minibarRecords s i [(.settle, .settle m.tally)]) ∧
            answers s t r
              (.done
                [room.extractLsb' 8 8, room.extractLsb' 0 8, m.tally.extractLsb' 8 8, m.tally.extractLsb' 0 8,
                  minibarCode state, BitVec.ofNat 8 m.charges.length])

/-- The operations of expiries, of forced commits and of CHECKING on one room's minibar part (R142, R147 to R150, R153,
R155); a node bound to no room changes nothing. The candidate set they empty is absent until the next report (log 47). A
forced commit of a DOOR post finds its room by the number the node was bound to, though the node is bound no longer. The
forced commit of a moved minibar sets RETURN at the room's node as it now is and adds to the tally as it now stands
(log 37), and ends a RESTOCK without an END record (log 53). -/
def Obligations.MinibarOperationsOnRoom : Prop :=
  ∀ (s : State) (n : Node) (i : Slot) (m : MinibarPart),
    let occ := (dynOf s i).occupied
    let limit := (roomOf s i).limit
    let all := partCommitted m occ limit.toNat fun _ => true
    (∀ c op, (c = .relatchExpiryOperation .complete ∧ op = .relatch n) ∨
        (c = .returnExpiryOperation .complete ∧ op = .ret n) ∨
        (c = .forcedCommit .complete ∧ op = .forced (.lineMode n)) →
      opInHand s op → boundRoom s n = none →
      ∃ t, exec c s = .next t ∧ unchangedBut [.port] s t ∧ t.port.inHand = none) ∧
    (boundRoom s n = some i → partOf s i = some m →
      (opInHand s (.relatch n) →
        ∃ t, exec (.relatchExpiryOperation .complete) s = .next t ∧ unchangedBut [.store, .port, .journal] s t ∧
          t.port.inHand = none ∧ t.store = storeWithPart s i (partRelatched m occ limit.toNat) ∧
          appendsAll s t (minibarRecords s i (relatchDetails m))) ∧
      (opInHand s (.ret n) → (roomOf s i).minibarNode = some n →
        let due := fun c : Charge => decide (c.due = s.time.tick ∨ 6000 < (c.due - s.time.tick).toNat)
        ∃ t, exec (.returnExpiryOperation .complete) s = .next t ∧
          unchangedBut [.time, .store, .port, .journal] s t ∧ t.port.inHand = none ∧
          t.store = storeWithPart s i (partCommitted m occ limit.toNat due) ∧
          appendsAll s t (minibarRecords s i (commitDetails limit m.tally.toNat (m.charges.filter due))) ∧
          returnArmed s t n (m.charges.filter fun c => !due c))) ∧
    (partOf s i = some m → (roomOf s i).minibarNode = some n →
      (opInHand s (.forced (.lineMode n)) ∧ boundRoom s n = some i) ∨
        (∃ r, opInHand s (.forced (.doorPost r)) ∧ findRoom s r = some i) →
      ∃ t, exec (.forcedCommit .complete) s = .next t ∧ unchangedBut [.time, .store, .port, .journal] s t ∧
        t.port.inHand = none ∧
        t.store = storeWithPart s i { partRelatched all occ limit.toNat with candidate := none } ∧
        appendsAll s t
          (minibarRecords s i (commitDetails limit m.tally.toNat m.charges ++ relatchDetails m)) ∧
        returnArmed s t n []) ∧
    (partOf s i = some m → (roomOf s i).minibarNode = some n →
      opInHand s (.forced (.moved i (roomOf s i).number)) →
      ∃ t, exec (.forcedCommit .complete) s = .next t ∧ unchangedBut [.time, .store, .port, .journal] s t ∧
        t.port.inHand = none ∧
        t.store =
          storeWithPart s i
            { all with
              state := restState occ limit.toNat all.tally.toNat, stocked := 0, stable := 0, candidate := none } ∧
        appendsAll s t (minibarRecords s i (commitDetails limit m.tally.toNat m.charges)) ∧
        returnArmed s t n []) ∧
    (partOf s i = some m → opInHand s (.lineUp i) →
      ∃ t, exec (.minibarBringIntoLine .complete) s = .next t ∧ unchangedBut [.store, .port, .journal] s t ∧
        t.port.inHand = none ∧
        t.store =
          storeWithPart s i
            { partRelatched m occ limit.toNat with
              candidate := none, state := restState occ limit.toNat m.tally.toNat } ∧
        appendsAll s t (minibarRecords s i (relatchDetails m)))

/-- A compartment report (R143 to R147): one that differs from the candidate set is held, and so is the first after the
candidate set was emptied, the empty set included (log 47); one that confirms takes the stable set along, compartment by
compartment, charging a removal of a stocked item, at once where the return window is 0, after an older charge of its
compartment, and cancelling the charge of a return, outside RESTOCK. RETURN is set whenever the list has changed. A report
item of two sets applies one and then the other. -/
def Obligations.ReportItemChargesRemoval : Prop :=
  (∀ (s : State) (n : Node) (i : Slot) (m : MinibarPart) (set : Compartments), opInHand s (.item n set none) →
    boundRoom s n = some i → partOf s i = some m → (roomOf s i).minibarNode = some n →
    let confirmed := m.candidate = some set
    ∃ t, exec (.reportItemOperation .complete) s = .next t ∧ unchangedBut [.time, .store, .port, .journal] s t ∧
      t.port.inHand = none ∧
      (¬ confirmed →
        t.store = storeWithPart s i { m with candidate := some set } ∧ t.time = s.time ∧ appendsAll s t []) ∧
      (confirmed → set = m.stable →
        t.store = s.store ∧ t.time = s.time ∧ appendsAll s t []) ∧
      (confirmed → m.state = .restock →
        t.store = storeWithPart s i { m with stable := set } ∧ t.time = s.time ∧ appendsAll s t []) ∧
      (confirmed → m.state ≠ .restock →
        let x := reportProcessed s i m set
        t.store = storeWithPart s i { x.1 with stable := set } ∧ appendsAll s t (minibarRecords s i x.2.1) ∧
          (x.2.2 = true → returnArmed s t n x.1.charges) ∧ (x.2.2 = false → t.time = s.time)) ∧
      ∀ c : Fin 8, confirmed → m.state ≠ .restock →
        (∀ d : Fin 8, d ≠ c → set.getLsbD d.val = m.stable.getLsbD d.val) →
        let amount := priceOf s (look (roomOf s i).prices c)
        let window := (configOf s).returnWindow
        let unlatched := decide (m.state ≠ .openGuest)
        let charge : Charge :=
          { compartment := c, amount := amount, due := s.time.tick + window.setWidth 32, unlatched := unlatched }
        (m.stable.getLsbD c.val = true → set.getLsbD c.val = false → m.stocked.getLsbD c.val = true → window ≠ 0 →
          (∀ x ∈ m.charges, x.compartment ≠ c) →
          t.store = storeWithPart s i { m with stable := set, charges := m.charges ++ [charge] } ∧
            appendsAll s t (minibarRecords s i [(.minibarRemove, .removal c amount unlatched)]) ∧
            returnArmed s t n (m.charges ++ [charge])) ∧
        (m.stable.getLsbD c.val = true → set.getLsbD c.val = false → m.stocked.getLsbD c.val = true → window = 0 →
          (∀ x ∈ m.charges, x.compartment ≠ c) →
          let one := partCommitted { m with charges := [charge] } (dynOf s i).occupied (roomOf s i).limit.toNat fun _ => true
          t.store = storeWithPart s i { one with stable := set, charges := m.charges } ∧ t.time = s.time ∧
            appendsAll s t (minibarRecords s i (commitDetails (roomOf s i).limit m.tally.toNat [charge]))) ∧
        (m.stable.getLsbD c.val = true → set.getLsbD c.val = false → m.stocked.getLsbD c.val = false →
          t.store = storeWithPart s i { m with stable := set } ∧ t.time = s.time ∧ appendsAll s t []) ∧
        (m.stable.getLsbD c.val = false → set.getLsbD c.val = true →
          ∀ x, m.charges.find? (fun y => y.compartment = c) = some x →
          let left := m.charges.filter fun y => y.compartment != c
          t.store = storeWithPart s i { m with stable := set, charges := left } ∧
            appendsAll s t (minibarRecords s i [(.minibarReturn, .refund c x.amount)]) ∧ returnArmed s t n left)) ∧
  ∀ (s : State) (n : Node) (i : Slot) (first second : Compartments), opInHand s (.item n first (some second)) →
    boundRoom s n = some i → (roomOf s i).minibarNode = some n →
    ∀ t, exec (.reportItemOperation .complete) (setInHand s (some (.item n first none))) = .next t →
    ∃ a, exec (.reportItemOperation .complete) (setInHand t (some (.item n second none))) = .next a ∧
    ∃ b, exec (.reportItemOperation .complete) s = .next b ∧ unchangedBut [.time, .store, .port, .journal] s b ∧
      b.port.inHand = none ∧ b.store = a.store ∧ b.journal = a.journal ∧ b.time = a.time ∧
      ((partOf b i).map (·.charges) ≠ (partOf s i).map (·.charges) →
        returnArmed s b n (((partOf b i).map (·.charges)).getD []))

/-! ### Deny list -/

/-- DENY_ADD (R123 to R126): the entry is added at its place in serial order, or extended to a later expiry, or kept, or the
request is REFUSED FULL. DENY_REMOVE (R127): the entry is removed with indication REMOVED and the expiry it held, or nothing
changes with ABSENT. Each with a record and a reply (R211; the reply's expiry is 0 where there is none, log 31; the
indication codes 0, 1, 2, 4 and 5 are those of log 34). -/
def Obligations.DenyRequestsChangeList : Prop :=
  (∀ (s : State) (r : RequestInHand) (serial : Serial) (expiry : Minute), opFor s .denyAdd r →
    r.request = .denyAdd serial expiry →
    let old := s.store.deny
    let rec_ : DenyIndication → Minute → Record := fun i e =>
      { stampedRecord s .deny with serial := some serial, detail := .deny i (some e) }
    let reply : Byte → Minute → Nat → Answer := fun code e count =>
      .done
        [serial.extractLsb' 24 8, serial.extractLsb' 16 8, serial.extractLsb' 8 8, serial.extractLsb' 0 8, code,
          e.extractLsb' 16 8, e.extractLsb' 8 8, e.extractLsb' 0 8, BitVec.ofNat 8 (count / 256), BitVec.ofNat 8 count]
    let only := unchangedBut [.store, .port, .journal, .trunk]
    ((∀ e ∈ old, e.serial ≠ serial) → old.length < 1024 → denySound s →
      ∃ t, exec (.denyAdd .complete) s = .next t ∧ only s t ∧ t.port.inHand = none ∧
        (∃ below above, old = below ++ above ∧
          t.store.deny = below ++ { serial := serial, expiry := expiry } :: above ∧
          (∀ e ∈ below, e.serial.toNat < serial.toNat) ∧ ∀ e ∈ above, serial.toNat < e.serial.toNat) ∧
        t.store = { s.store with deny := t.store.deny, denyCount := old.length + 1 } ∧
        appendsAll s t [rec_ .added expiry] ∧ answers s t r (reply 0 expiry (old.length + 1))) ∧
    (∀ e, old.find? (fun x => x.serial = serial) = some e → e.expiry.toNat < expiry.toNat →
      ∃ t, exec (.denyAdd .complete) s = .next t ∧ only s t ∧ t.port.inHand = none ∧
        t.store =
          { s.store with
            deny := old.map fun x => if x.serial = serial then { x with expiry := expiry } else x
            denyCount := old.length } ∧
        appendsAll s t [rec_ .extended expiry] ∧ answers s t r (reply 1 expiry old.length)) ∧
    (∀ e, old.find? (fun x => x.serial = serial) = some e → expiry.toNat ≤ e.expiry.toNat →
      ∃ t, exec (.denyAdd .complete) s = .next t ∧ only s t ∧ t.port.inHand = none ∧ t.store = s.store ∧
        appendsAll s t [rec_ .kept e.expiry] ∧ answers s t r (reply 2 e.expiry s.store.denyCount)) ∧
    ((∀ e ∈ old, e.serial ≠ serial) → 1024 ≤ old.length →
      ∃ t, exec (.denyAdd .complete) s = .next t ∧ only s t ∧ t.port.inHand = none ∧ t.store = s.store ∧
        appendsAll s t [rec_ .full expiry] ∧ answers s t r (.refused .full))) ∧
  (∀ (s : State) (r : RequestInHand) (serial : Serial), opFor s .denyRemove r → r.request = .denyRemove serial →
    let left := s.store.deny.filter fun e => e.serial != serial
    let rec_ : DenyIndication → Record := fun i =>
      { stampedRecord s .deny with serial := some serial, detail := .deny i none }
    let reply : Byte → Minute → Nat → Answer := fun code e count =>
      .done
        [serial.extractLsb' 24 8, serial.extractLsb' 16 8, serial.extractLsb' 8 8, serial.extractLsb' 0 8, code,
          e.extractLsb' 16 8, e.extractLsb' 8 8, e.extractLsb' 0 8, BitVec.ofNat 8 (count / 256), BitVec.ofNat 8 count]
    ∃ t, exec (.denyRemove .complete) s = .next t ∧ unchangedBut [.store, .port, .journal, .trunk] s t ∧
      t.port.inHand = none ∧
      (∀ e, s.store.deny.find? (fun x => x.serial = serial) = some e →
        t.store = { s.store with deny := left, denyCount := left.length } ∧ appendsAll s t [rec_ .removed] ∧
          answers s t r (reply 4 e.expiry left.length)) ∧
      ((∀ e ∈ s.store.deny, e.serial ≠ serial) →
        t.store = s.store ∧ appendsAll s t [rec_ .absent] ∧ answers s t r (reply 5 0 s.store.denyCount)))

/-- PRUNE_STEP (R129): the entry of lowest serial at or above the cursor that has expired at the prune minute goes, with
its record, and the cursor stands after it; when none is left the pass ends. Entries that never expire are passed over. -/
def Obligations.PruneStepRemovesExpired : Prop :=
  ∀ (s : State) (m : Minute), opInHand s .prune → s.pruner.minute = some m → denySound s →
    let due : DenyEntry → Prop := fun e =>
      s.pruner.cursor.toNat ≤ e.serial.toNat ∧ e.expiry.toNat ≤ m.toNat ∧ e.expiry ≠ 16777215
    ((∀ e ∈ s.store.deny, ¬ due e) →
      ∃ t, exec (.pruneStep .complete) s = .next t ∧ unchangedBut [.port, .pruner] s t ∧ t.port.inHand = none ∧
        t.pruner = { s.pruner with minute := none }) ∧
    ∀ e ∈ s.store.deny, due e → (∀ f ∈ s.store.deny, due f → e.serial.toNat ≤ f.serial.toNat) →
      ∃ t, exec (.pruneStep .complete) s = .next t ∧ unchangedBut [.store, .port, .pruner, .journal] s t ∧
        t.port.inHand = none ∧
        t.store =
          { s.store with
            deny := s.store.deny.filter fun f => f.serial != e.serial, denyCount := s.store.deny.length - 1 } ∧
        t.pruner.minute = some m ∧ t.pruner.cursor.toNat = e.serial.toNat + 1 ∧
        appendsAll s t
          [{ stampedRecord s .deny with serial := some e.serial, detail := .deny .pruned (some e.expiry) }]

/-! ### Table store -/

/-- DRAIN (R174, R175): the oldest entry of the post buffer is written and leaves, and no read of any table changes. -/
def Obligations.DrainChangesNoRead : Prop :=
  ∀ (s : State) (e : PostEntry) (es : List PostEntry), opInHand s .drain → s.loader.buffer = e :: es →
    ∃ t, exec (.drain .complete) s = .next t ∧ unchangedBut [.store, .port, .loader] s t ∧ t.port.inHand = none ∧
      t.loader = { s.loader with buffer := es } ∧
      configOf t = configOf s ∧ (∀ i, doorAt t i = doorAt s i) ∧ (∀ i, roomOf t i = roomOf s i) ∧
      (∀ i, zoneOf t i = zoneOf s i) ∧ (∀ i, profileOf t i = profileOf s i) ∧ (∀ i, classOf t i = classOf s i) ∧
      (∀ i, priceOf t i = priceOf s i) ∧
      t.store.dyns = s.store.dyns ∧ t.store.deny = s.store.deny ∧ t.store.denyCount = s.store.denyCount ∧
      (es = [] →
        t.store.config = configOf s ∧ ∀ i, look t.store.doors i = doorAt s i ∧ look t.store.rooms i = roomOf s i)

/-- POST of an entry whose effects end with its reading (R56, R59, R60, R173, R174, R177, R178): CONFIG, ZONE, PROFILE,
CLASS and PRICE. Every later read has the entry, clamped into its ranges; the cursor moves to the next index, back to the
first, or ends; the last entry's post answers the LOAD, with both counts, the cursor and the first refusal (R211). A CONFIG rate
code that names no rate is refused RANGE, and the entry is unchanged. -/
def Obligations.PostClampsZoneAndMovesCursor : Prop :=
  ∀ (s : State) (w : LoadWindow) (ld : LoadInHand) (e : List Byte) (es : List (List Byte)) (i : Nat),
    examining s w ld i e es →
    let takes := fun (p : PostEntry) =>
      let now := { ld with taken := ld.taken + 1 }
      ∃ t, exec .post s = .next t ∧ unchangedBut [.loader, .trunk] s t ∧ postRead s t p ∧
        t.loader =
          { s.loader with buffer := s.loader.buffer ++ [p], cursor := cursorPast w i, load := loadLeft es now } ∧
        trunkIs t (loadTold s.trunk es now (cursorPast w i))
    let within := fun (lo hi v : Nat) => max lo (min hi v)
    let window := fun (k : Nat) =>
      ({ openAt := BitVec.ofNat 16 (within 0 1439 (twoAt e k))
         closeAt := BitVec.ofNat 16 (within 0 1439 (twoAt e (k + 2))) } : Window)
    let rateCode := fun (k : Nat) => (e.getD (7 + k) 0).toNat
    let rate := fun (k : Nat) =>
      if rateCode k = 1 then BitRate.r9600 else if rateCode k = 2 then .r19200 else .r38400
    (w.table = .config → i = 0 → e.length = 11 → (∀ k, k < 4 → 1 ≤ rateCode k ∧ rateCode k ≤ 3) →
      takes
        (.config
          { siteCode := BitVec.ofNat 16 (twoAt e 0), grace := BitVec.ofNat 16 (within 0 1439 (twoAt e 2))
            returnWindow := BitVec.ofNat 16 (within 0 6000 (twoAt e 4))
            stretch := BitVec.ofNat 8 (within 1 50 (e.getD 6 0).toNat), rates := #v[rate 0, rate 1, rate 2, rate 3] })) ∧
    (w.table = .config → i = 0 → e.length = 11 → (∃ k, k < 4 ∧ (rateCode k = 0 ∨ 3 < rateCode k)) →
      let now :=
        { ld with refused := ld.refused + 1, firstRefusal := ld.firstRefusal.or (some (some i, .range)) }
      ∃ t, exec .post s = .next t ∧ unchangedBut [.loader, .trunk] s t ∧
        t.loader = { s.loader with cursor := cursorPast w i, load := loadLeft es now } ∧
        trunkIs t (loadTold s.trunk es now (cursorPast w i))) ∧
    (∀ k : Fin 16, w.table = .zone → i = k.val → e.length = 4 → takes (.zone k (window 0))) ∧
    (∀ k : Fin 32, w.table = .profile → i = k.val → e.length = 6 → (e.getD 5 0).toNat ≤ 1 →
      takes
        (.profile k
          { weekdays := BitVec.ofNat 7 (e.getD 0 0).toNat, shift := window 1
            lockdownAccess := decide (e.getD 5 0 = 1) })) ∧
    (∀ k : Fin 8, w.table = .cls → i = k.val → e.length = 3 →
      takes
        (.cls k
          { openTime := BitVec.ofNat 8 (within 1 250 (e.getD 0 0).toNat)
            heldLimit := BitVec.ofNat 16 (within 10 6000 (twoAt e 1)) })) ∧
    ∀ k : Fin 64, w.table = .price → i = k.val → e.length = 2 → takes (.price k (BitVec.ofNat 16 (twoAt e 0)))

/-- POST of a DOOR entry restarts the tracking of its node and ends its session, whatever kind it was and becomes; one whose
fields are out of range is refused RANGE (R34, R40, R53, R57, R58, R96, R112). POST of a ROOM entry keeps the room and its
dynamic part, creates, moves or removes its minibar, or gives the slot to another room; a restore part sets what it carries
(R61, R63 to R67, R96, R112); it is refused DUPLICATE, else ROOM, else RANGE (R178, log 20; the entry of an empty slot is
examined as any other, log 21). An entry past the window is refused without examination (R173, R177). The last entry's post, or
its refusal, answers the LOAD with both counts, the cursor and the first refusal (R178, R211). A ROOM entry's privacy write has
no node (log 19), and until it is made a room replaced with a restore part is not in privacy (log 52). -/
def Obligations.PostRestartsNodeOrRefuses : Prop :=
  ∀ (s : State) (w : LoadWindow) (ld : LoadInHand) (e : List Byte) (es : List (List Byte)) (i : Slot),
    let refuses := fun (at_ : Option Nat) (why : RefuseReason) (cursor : Cursor) =>
      let now := { ld with refused := ld.refused + 1, firstRefusal := ld.firstRefusal.or (some (at_, why)) }
      ∃ t, exec .post s = .next t ∧ unchangedBut [.loader, .trunk] s t ∧
        t.loader = { s.loader with cursor := cursor, load := loadLeft es now } ∧
        trunkIs t (loadTold s.trunk es now cursor)
    let now := { ld with taken := ld.taken + 1 }
    let taken := fun (t : State) (p : PostEntry) =>
      t.loader =
          { s.loader with
            buffer := s.loader.buffer ++ [p], cursor := cursorPast w i.val, load := loadLeft es now } ∧
        postRead s t p
    let sessionEnds := fun (t : State) (ks : List (Fin 2)) (why : FailReason) =>
      t.issue = sessionsEnded s ks why ∧ appendsAll s t (endRecords s ks why) ∧
        trunkIs t
          (loadTold { s.trunk with notices := noticesWith s (endNotices s ks why) } es now (cursorPast w i.val))
    (examining s w ld i.val e es → w.table = .door → e.length = 5 →
      let n := nodeAt i
      let old := doorOf s n
      let room := BitVec.ofNat 16 (twoAt e 1)
      let fits := (e.getD 3 0).toNat < 16 ∧ (e.getD 4 0).toNat < 8
      let place := fun (kind : NodeKind) (room : Half) =>
        ({ kind := kind, room := room, zone := Fin.ofNat 16 (e.getD 3 0).toNat, cls := Fin.ofNat 8 (e.getD 4 0).toNat } :
          DoorEntry)
      let takes := fun (new : DoorEntry) =>
        let ks := if old.kind = .encoder then endable s n else []
        ∃ t, exec .post s = .next t ∧
          unchangedBut [.time, .lines, .tracker, .issue, .minibar, .loader, .journal, .trunk] s t ∧
          taken t (.door i new) ∧
          t.time = { s.time with deadlines := s.time.deadlines.filter fun d => d.node != n } ∧
          nodeOf t n =
            { silent := false, missed := 0, command := none, attempts := 0, duty := false, faulty := none
              inSweep := configured new && ((nodeOf s n).inSweep || !configured old) } ∧
          n.addr ∉ (lineOf t n.line).fifo ∧ linesBut n.line s t ∧
          lineOf t n.line =
            { lineOf s n.line with
              fifo := (lineOf s n.line).fifo.filter fun a => a != n.addr
              nodes := put (lineOf s n.line).nodes n.addr (nodeOf t n)
              exchange :=
                (lineOf s n.line).exchange.map fun x =>
                  let y := flightMarked n.addr .rewritten x
                  { y with
                    stale := if x.stale.any fun z => z.1 == n.addr then x.stale else x.stale ++ [(n.addr, old)] } } ∧
          (∀ m, m ≠ n → trackOf t m = trackOf s m ∧ nodeOf t m = nodeOf s m) ∧
          (isDoor old = true ∨ isDoor new = true →
            trackOf t n = { state := .unknown, contact := none, deadbolt := false } ∧
              t.tracker.writes =
                writesDerived t new.room (some n) (writesDerived t old.room (some n) s.tracker.writes)) ∧
          (isDoor old = false → isDoor new = false → t.tracker = s.tracker) ∧
          t.minibar =
            s.minibar ++ ((boundRoom s n).toList.map fun j => .forced (.doorPost (roomOf s j).number)) ∧
          sessionEnds t ks .encoderUnreachable
      (e.getD 0 0 = 0 → takes { kind := .unused, room := 0, zone := 0, cls := 0 }) ∧
      (e.getD 0 0 = 1 → room ≠ 0 → fits → takes (place .roomDoor room)) ∧
      (e.getD 0 0 = 2 → fits → takes (place .commonGate 0)) ∧
      (e.getD 0 0 = 3 → room ≠ 0 → fits → takes (place .minibar room)) ∧
      (e.getD 0 0 = 4 → takes { kind := .encoder, room := 0, zone := 0, cls := 0 }) ∧
      (4 < (e.getD 0 0).toNat ∨ ((e.getD 0 0 = 1 ∨ e.getD 0 0 = 3) ∧ (room = 0 ∨ ¬ fits)) ∨
          (e.getD 0 0 = 2 ∧ ¬ fits) →
        refuses (some i.val) .range (cursorPast w i.val))) ∧
    (examining s w ld i.val e es → w.table = .room → e.length = 19 →
      let old := roomOf s i
      let new := staticAt e
      let number := BitVec.ofNat 16 (twoAt e 0)
      let carried := if (e.getD 2 0).toNat < 128 then some (nodeNumbered (e.getD 2 0)) else none
      let restore := restoreAt e
      let twin := ∃ j : Slot, j ≠ i ∧
        ((number ≠ 0 ∧ (roomOf s j).number = number) ∨ (carried ≠ none ∧ (roomOf s j).minibarNode = carried))
      let keeps := number ≠ 0 ∧ number = old.number
      let owed := keeps ∧ old.minibarNode ≠ none ∧ carried = none ∧
        ((partOf s i).map fun m => decide (m.tally ≠ 0 ∨ m.charges ≠ [])) = some true
      let bad := (∃ k : Fin 8, 64 ≤ (e.getD (5 + k.val) 0).toNat) ∨ (e.getD 13 0 = 1 ∧ 1 < (e.getD 14 0).toNat)
      (twin → refuses (some i.val) .duplicate (cursorPast w i.val)) ∧
      (¬ twin → owed → refuses (some i.val) .room (cursorPast w i.val)) ∧
      (¬ twin → ¬ owed → bad → refuses (some i.val) .range (cursorPast w i.val)) ∧
      (¬ twin → ¬ owed → ¬ bad →
        let ended := if keeps then (if restore.isSome then some number else none) else some old.number
        let ks := ended.toList.flatMap fun q => (ctxOfRoom s q).toList.filter fun k => (ctxOf s k).outcome.isNone
        let given := if keeps ∧ new.minibarNode = old.minibarNode then none else old.minibarNode
        ∃ t, exec .post s = .next t ∧
          unchangedBut [.time, .lines, .tracker, .issue, .minibar, .store, .loader, .journal, .trunk] s t ∧
          taken t (.room i new) ∧
          t.store =
            { s.store with
              dyns := put s.store.dyns i (if keeps then dynKept s i new restore else dynReplaced new restore) } ∧
          t.minibar =
            s.minibar ++
              (if keeps ∧ given ≠ none ∧ new.minibarNode ≠ none then [.forced (.moved i number)] else []) ∧
          t.time =
            { s.time with
              deadlines :=
                s.time.deadlines.filter fun d =>
                  decide (given ≠ some d.node) &&
                    !ks.any fun k => d.node == (ctxOf s k).node && d.kind == .issueTimeout } ∧
          (ks = [] → t.lines = s.lines) ∧ (∀ k ∈ ks, sessionCommandGone t (ctxOf s k).node ∨
            flightFate (lineOf s (ctxOf s k).node.line) (ctxOf s k).node.addr ≠ none) ∧
          t.tracker =
            { s.tracker with
              writes :=
                if keeps ∧ restore = none then s.tracker.writes else writesDerived t new.number none s.tracker.writes } ∧
          sessionEnds t ks .roomChanged)) ∧
    (s.working = true → s.port.inHand = none → s.loader.buffer.length < 2 → s.loader.window = some w →
      s.loader.load = some ld → ld.entries = e :: es → s.loader.cursor = .ended →
      refuses none .range .ended)

/-- LOAD_WINDOW and LOAD (R176, R178): a window in range is set with its cursor at the first index; a LOAD without a
window, or one that does not divide into whole entries, is refused RANGE, and one that divides is in hand. -/
def Obligations.LoadWindowAndLoadTaken : Prop :=
  (∀ (s : State) (r : RequestInHand) (tb : Byte) (first last : Half) (wrap : Byte), asked s r →
    r.request = .loadWindow tb first last wrap →
    ((tableOf tb = none ∨ last.toNat < first.toNat ∨
        ∃ t, tableOf tb = some t ∧ (tableSize t ≤ first.toNat ∨ tableSize t ≤ last.toNat)) →
      ∃ t, exec .loadWindow s = .next t ∧ unchangedBut [.trunk] s t ∧ answers s t r (.refused .range)) ∧
    ∀ tab, tableOf tb = some tab → first.toNat ≤ last.toNat → last.toNat < tableSize tab →
      (wrap = 0 ∨ wrap = 1) →
      ∃ t, exec .loadWindow s = .next t ∧ unchangedBut [.loader, .trunk] s t ∧
        t.loader =
          { s.loader with
            window := some { table := tab, first := first.toNat, last := last.toNat, wrap := decide (wrap = 1) }
            cursor := .at first.toNat } ∧
        answers s t r
          (.done
            [tb, first.extractLsb' 8 8, first.extractLsb' 0 8, last.extractLsb' 8 8, last.extractLsb' 0 8, wrap])) ∧
  (∀ (s : State) (r : RequestInHand) (body : List Byte), asked s r → r.request = .load body →
    s.loader.load = none →
    (s.loader.window = none →
      ∃ t, exec .load s = .next t ∧ unchangedBut [.trunk] s t ∧ answers s t r (.refused .range)) ∧
    ∀ w, s.loader.window = some w →
      (body.length % entryBytes w.table ≠ 0 →
        ∃ t, exec .load s = .next t ∧ unchangedBut [.trunk] s t ∧ answers s t r (.refused .range)) ∧
      (body = [] →
        ∃ t, exec .load s = .next t ∧ unchangedBut [.trunk] s t ∧
          answers s t r
            (loadAnswer { entries := [], taken := 0, refused := 0, firstRefusal := none } s.loader.cursor)) ∧
      (body ≠ [] → body.length % entryBytes w.table = 0 →
        ∃ t, exec .load s = .next t ∧ unchangedBut [.loader] s t ∧
          ∃ es : List (List Byte), es.flatten = body ∧ (∀ e ∈ es, e.length = entryBytes w.table) ∧
            t.loader =
              { s.loader with
                load := some { entries := es, taken := 0, refused := 0, firstRefusal := none } }))

/-- READ_ENTRIES and STATUS (R56, R57, R59 to R61, R63, R123, R174, R180, R183, R195, R211, R212): the entries as every
block reads them, from the first index on, a ROOM entry with its restore part and the four bytes after it; STATUS answers the
26 bytes of its record and clears the last receive error; nothing else changes. A ROOM entry's privacy byte is 1 in privacy
(log 55). The node of a FREE context is sent as 0 (R212). -/
def Obligations.ReadsAnswerWithoutChange : Prop :=
  (∀ (s : State) (r : RequestInHand) (tb : Byte) (first : Half) (count : Byte),
    r.request = .readEntries tb first count →
    (asked s r →
      (count = 0 ∨ 8 < count.toNat ∨ tb = 0 ∨ 8 < tb.toNat ∨
        ∃ t, tableOf tb = some t ∧ tableSize t ≤ first.toNat) →
      ∃ t, exec (.readEntries .complete) s = .next t ∧ unchangedBut [.trunk] s t ∧ answers s t r (.refused .range)) ∧
    (opFor s .readEntries r → 1 ≤ count.toNat → count.toNat ≤ 8 →
      let two := fun (v : Nat) => [BitVec.ofNat 8 (v / 256), BitVec.ofNat 8 v]
      let flag := fun (b : Bool) => if b then (1 : Byte) else 0
      let head := fun (k : Nat) => [tb, first.extractLsb' 8 8, first.extractLsb' 0 8, BitVec.ofNat 8 k]
      let window := fun (v : Window) => two v.openAt.toNat ++ two v.closeAt.toNat
      let rate := fun (v : BitRate) =>
        match v with
        | .r9600 => (1 : Byte)
        | .r19200 => 2
        | .r38400 => 3
      let kind := fun (v : NodeKind) =>
        match v with
        | .unused => (0 : Byte)
        | .roomDoor => 1
        | .commonGate => 2
        | .minibar => 3
        | .encoder => 4
      let entry := fun (tab : TableId) (k : Nat) =>
        match tab with
        | .config =>
          let v := configOf s
          two v.siteCode.toNat ++ two v.grace.toNat ++ two v.returnWindow.toNat ++
            [v.stretch, rate (look v.rates 0), rate (look v.rates 1), rate (look v.rates 2), rate (look v.rates 3)]
        | .door =>
          let v := doorAt s (Fin.ofNat 128 k)
          [kind v.kind] ++ two v.room.toNat ++ [BitVec.ofNat 8 v.zone.val, BitVec.ofNat 8 v.cls.val]
        | .room =>
          let v := roomOf s (Fin.ofNat 128 k)
          let d := dynOf s (Fin.ofNat 128 k)
          two v.number.toNat ++
            [match v.minibarNode with
              | some n => BitVec.ofNat 8 (n.line.val * 32 + n.addr.val)
              | none => 128] ++
            two v.limit.toNat ++ ((List.finRange 8).map fun c => BitVec.ofNat 8 (look v.prices c).val) ++
            [1, flag d.occupied, d.accepted, d.issued] ++
            two ((d.minibar.map fun m => m.tally.toNat).getD 0) ++
            [flag d.privacy, (d.marker.map fun c => BitVec.ofNat 8 c.val).getD 255,
              (d.minibar.map fun m =>
                match m.state with
                | .locked => (0 : Byte)
                | .guest => 1
                | .openGuest => 2
                | .capped => 3
                | .restock => 4).getD 255,
              BitVec.ofNat 8 ((d.minibar.map fun m => m.charges.length).getD 0)]
        | .zone => window (zoneOf s (Fin.ofNat 16 k))
        | .profile =>
          let v := profileOf s (Fin.ofNat 32 k)
          [BitVec.ofNat 8 v.weekdays.toNat] ++ window v.shift ++ [flag v.lockdownAccess]
        | .cls =>
          let v := classOf s (Fin.ofNat 8 k)
          [v.openTime] ++ two v.heldLimit.toNat
        | .price => two (priceOf s (Fin.ofNat 64 k)).toNat
      (∀ tab, tableOf tb = some tab → first.toNat < tableSize tab →
        let last := min count.toNat (tableSize tab - first.toNat)
        ∃ t, exec (.readEntries .complete) s = .next t ∧ unchangedBut [.port, .trunk] s t ∧ t.port.inHand = none ∧
          answers s t r
            (.done (head last ++ ((List.range last).flatMap fun k => entry tab (first.toNat + k))))) ∧
      (tb = 8 →
        let es := (s.store.deny.drop first.toNat).take count.toNat
        ∃ t, exec (.readEntries .complete) s = .next t ∧ unchangedBut [.port, .trunk] s t ∧ t.port.inHand = none ∧
          answers s t r
            (.done (head es.length ++ (es.map fun e => be4 e.serial ++ be3 e.expiry).flatten))))) ∧
  (∀ (s : State) (r : RequestInHand), opFor s .status r → r.request = .status →
    let two := fun (v : Nat) => [BitVec.ofNat 8 (v / 256), BitVec.ofNat 8 v]
    let flag := fun (b : Bool) => if b then (1 : Byte) else 0
    let phase : Byte :=
      match s.startup.phase with
      | .resetting => 0
      | .checking => 1
      | .awaitLoad => 2
      | .run => 3
      | .shutdown => 4
    let condition : Byte :=
      match s.time.clock.cond with
      | .unset => 0
      | .set => 1
      | .saturated => 2
    let level := fun (l : Level) =>
      match l with
      | .normal => (0 : Byte)
      | .lockdown => 1
      | .release => 2
    let line := fun (l : LineNo) =>
      let mode : Nat :=
        match (lineOf s l).mode with
        | .decide => 0
        | .transparent => 1
        | .holding _ => 2
        | .held => 3
      BitVec.ofNat 8 (mode + if (lineOf s l).stuck then 4 else 0)
    let context := fun (k : Fin 2) =>
      let c := ctxOf s k
      let state : Nat :=
        match c.state with
        | .free => 0
        | .awaitBlank => 1
        | .writing => 2
      [BitVec.ofNat 8 (state + if c.void then 4 else 0),
        if c.state = .free then 0 else BitVec.ofNat 8 (c.node.line.val * 32 + c.node.addr.val)]
    let error : Byte :=
      match s.trunk.lastError with
      | .none => 0
      | .check => 1
      | .length => 2
    ∃ t fields, exec (.status .complete) s = .next t ∧ unchangedBut [.port, .trunk] s t ∧ t.port.inHand = none ∧
      trunkIs t { answeredTrunk s.trunk r (.done fields) with lastError := .none } ∧ fields.length = 26 ∧
      fields =
        [phase, s.time.clock.minute.extractLsb' 16 8, s.time.clock.minute.extractLsb' 8 8,
            s.time.clock.minute.extractLsb' 0 8, BitVec.ofNat 8 s.time.clock.second.val, condition,
            level s.override.effective, level s.override.requested, line 0, line 1, line 2, line 3,
            BitVec.ofNat 8 s.queue.length, BitVec.ofNat 8 s.loader.buffer.length] ++
          two s.store.denyCount ++ two s.journal.records.length ++ [flag s.journal.push] ++ context 0 ++ context 1 ++
          [flag s.trunk.downAbsent, BitVec.ofNat 8 ((s.trunk.chain.map Fin.val).getD 31), error])

/-! ### Journal -/

/-- The append law (R160), and JOURNAL_PUSH (R165). -/
def Obligations.JournalAppendsAndPush : Prop :=
  (∀ (records : List Record) (r : Record),
    let fill := records.length
    (fill ≤ 1022 → appended records r = records ++ [r]) ∧
    (1023 ≤ fill → (∀ l c, records.getLast? = some l → l.detail ≠ .gap c) →
      ∃ g, appended records r = records ++ [g] ∧ g.kind = .gap ∧ g.detail = .gap 1 ∧ g.minute = r.minute ∧
        g.second = r.second ∧ g.node = none ∧ g.serial = none ∧ g.room = none) ∧
    (∀ l c, 1023 ≤ fill → records.getLast? = some l → l.detail = .gap c →
      appended records r =
        records.dropLast ++ [{ l with detail := .gap (if c < 65535 then c + 1 else c) }])) ∧
  (∀ (s : State) (r : RequestInHand) (b : Byte), asked s r → r.request = .journalPush b →
    (2 ≤ b.toNat →
      ∃ t, exec .journalPush s = .next t ∧ unchangedBut [.trunk] s t ∧ answers s t r (.refused .range)) ∧
    (b.toNat < 2 →
      ∃ t, exec .journalPush s = .next t ∧ unchangedBut [.journal, .trunk] s t ∧
        t.journal = { s.journal with push := decide (b = 1), offer := t.journal.offer } ∧
        (b = 0 → t.journal.offer = .none) ∧
        answers s t r
          (.done
            [b, BitVec.ofNat 8 (s.journal.records.length / 256), BitVec.ofNat 8 s.journal.records.length])))

/-! ### Steps -/

/-- A step runs the command at the front of the queue on the state with the queue's rest; on an empty queue the part
idles (log 2). -/
def Obligations.StepRunsFrontCommand : Prop :=
  (∀ (s : State) (c : Instr) (rest : List Instr), s.pending = c :: rest →
    step s = exec c { s with pending := rest }) ∧
  ∀ s : State, s.pending = [] → step s = .next s

/-- Every command answers a next state with the queue of commands kept: either nothing has changed (log 3), or the
journal's offer (R162), the ready outputs (R187) and the requests waiting at the table port (R170, R172) are up to date. -/
def Obligations.EveryCommandAnswers : Prop :=
  ∀ (c : Instr) (s : State), ∃ t, exec c s = .next t ∧ t.pending = s.pending ∧
    (t = s ∨
      (let runs := t.pins.vdd = true ∧
        (t.startup.phase = .checking ∨ t.startup.phase = .awaitLoad ∨ t.startup.phase = .run)
       let offers := t.journal.push = true ∧ t.journal.batch = none ∧ t.journal.records ≠ [] ∧ runs ∧
        t.relayOnly = false ∧ t.stopping = false
       (¬ offers → t.journal.offer = .none) ∧
        (offers → t.journal.offer = if 896 ≤ t.journal.records.length then .urgent else .trickle) ∧
        (t.trunk.upRo = true ↔
          runs ∧ t.stopping = false ∧ t.trunk.requests.length < 4 ∧ t.trunk.relayDown.length < 4) ∧
        (t.trunk.downRo = true ↔ runs ∧ t.stopping = false ∧ t.trunk.relayUp.length < 8) ∧
        ∀ q, q ∈ t.port.waiting ↔ wants t q = true))

/-! ### Start-up -/

/-- The state after reset (R4, R54, R63, R68, R89, R102, R134, R199, R200, R205): RESETTING with the values of a power-on
reset that finds the backup lost, and every invariant holds of it. That it is the first power-on, with straps 0, is the
model's choice (log 1). -/
def Obligations.ResetLeavesRuleValues : Prop :=
  freshPart 0 .powerOn State.reset State.reset ∧ storeCleared State.reset ∧
    State.reset.time.clock = { minute := 0, second := 0, tenth := 0, cond := .unset } ∧
    State.reset.override.requested = .normal ∧ State.reset.journal.records = [] ∧
    State.reset.startup.keep = false ∧ State.reset.startup.marker = false ∧ Sound State.reset

/-- VDD and VBAK falling, and the two resets of the pins (R4, R102, R164, R190, R200, R205): a fall of VDD cuts off the
frames being sent and a batch keeps its records; a reset keeps the retained store, and a power-on reset that finds the
backup lost clears it. A power-on reset is taken with VDD present too (log 30). Both hold for straps of 31 as for any, the
clearing of a lost store and of the issue-in-flight markers included (log 54). -/
def Obligations.SuppliesAndResets : Prop :=
  ∀ s : State,
    (s.pins.vdd = false →
      ∃ t, exec .vbakOutOfRange s = .next t ∧ unchangedBut [.pins] s t ∧
        t.pins = { s.pins with vbakLost := true }) ∧
    (s.pins.vdd = true →
      ∃ t, exec .vddFall s = .next t ∧ unchangedBut [.journal, .trunk, .pins] s t ∧
        t.pins = { s.pins with vdd := false } ∧
        t.journal = { s.journal with batch := none, offer := .none } ∧
        t.trunk = { s.trunk with upTx := none, downTx := none, upRo := false, downRo := false }) ∧
    ∀ straps : BitVec 5,
      (∃ t, exec (.powerOnReset straps) s = .next t ∧ freshPart straps .powerOn s t ∧
        t.override.requested = .normal ∧
        (s.pins.vbakLost = false →
          storeKept s t ∧ t.journal.records = s.journal.records ∧ t.time.clock = s.time.clock ∧
            t.startup.marker = s.startup.marker ∧ t.startup.keep = s.startup.marker) ∧
        (s.pins.vbakLost = true →
          storeCleared t ∧ t.journal.records = [] ∧ t.startup.marker = false ∧ t.startup.keep = false ∧
            t.time.clock = { minute := 0, second := 0, tenth := 0, cond := .unset })) ∧
      (s.pins.vdd = true →
        ∃ t, exec (.pinReset straps) s = .next t ∧ freshPart straps .pin s t ∧ t.override.requested = .normal ∧
          storeKept s t ∧ t.journal.records = s.journal.records ∧ t.time.clock = s.time.clock ∧
          t.startup.marker = s.startup.marker ∧ t.startup.keep = s.startup.marker)

/-- CHECKING_END, GO and RESTART (R166, R200, R203, R204, R208): path KEEP goes to RUN and path CLEAR to AWAIT_LOAD, the store
cleared but after RESTART COLD, each with its PHASE notice. At that clear every configured node takes the effects of a rewrite
to UNUSED, and an exchange with it goes on under the entry it began with (R34); the lines' modes, conditions, poll positions,
exchanges and other commands stand, and so do the pending privacy writes. GO enters RUN with the clock not UNSET; RESTART is
answered and waits. The checks wait for the operation in hand and for a minute event raised (log 25). RESTART's mode codes are
0, WARM, and 1, COLD (log 34). -/
def Obligations.StartUpChangesPhase : Prop :=
  (∀ s : State, s.working = true → s.startup.phase = .checking → s.pruner.minute = none → s.time.minuteEvents = [] →
    s.port.inHand = none →
    (s.startup.keep = true → (∀ i, MinibarWork.lineUp i ∉ s.minibar) →
      ∃ t, exec .checkingEnd s = .next t ∧ unchangedBut [.trunk, .startup] s t ∧
        t.startup = { s.startup with phase := .run } ∧ notifies s t (.phase .run)) ∧
    (s.startup.keep = false → s.startup.cause = .cold →
      ∃ t, exec .checkingEnd s = .next t ∧ unchangedBut [.trunk, .startup] s t ∧
        t.startup = { s.startup with phase := .awaitLoad } ∧ notifies s t (.phase .awaitLoad)) ∧
    (s.startup.keep = false → s.startup.cause ≠ .cold →
      ∃ t, exec .checkingEnd s = .next t ∧
        unchangedBut [.time, .lines, .tracker, .store, .journal, .trunk, .startup] s t ∧
        t.startup = { s.startup with phase := .awaitLoad } ∧ storeCleared t ∧
        t.time =
          { s.time with deadlines := s.time.deadlines.filter fun d => !configured (doorOf s d.node) } ∧
        t.tracker.writes = s.tracker.writes ∧ (∀ l, lineOf t l = lineCleared s l (lineOf t l).nodes) ∧
        (∀ n, configured (doorOf s n) = true →
            nodeOf t n =
              { silent := false, missed := 0, command := none, attempts := 0, duty := false, faulty := none,
                inSweep := false } ∧
            trackOf t n = { state := .unknown, contact := none, deadbolt := false }) ∧
        (∀ n, configured (doorOf s n) = false → nodeOf t n = nodeOf s n ∧ trackOf t n = trackOf s n) ∧
        t.journal =
          { s.journal with
            records := [{ stampedRecord s .restart with detail := .restart s.startup.cause false }]
            batch := none, offer := t.journal.offer } ∧
        trunkIs t
          { s.trunk with
            notices := noticesAfter s (.phase .awaitLoad)
            upTx := if s.trunk.upTx.map Prod.fst = some .journal then none else s.trunk.upTx })) ∧
  (∀ (s : State) (r : RequestInHand), asked s r → r.request = .go →
    (s.startup.phase = .awaitLoad → s.time.clock.cond ≠ .unset →
      ∃ t, exec .go s = .next t ∧ unchangedBut [.trunk, .startup] s t ∧
        t.startup = { s.startup with phase := .run } ∧
        trunkIs t
          (answeredTrunk { s.trunk with notices := noticesAfter s (.phase .run) } r (.done [3]))) ∧
    (s.startup.phase ≠ .awaitLoad ∨ s.time.clock.cond = .unset →
      ∃ t, exec .go s = .next t ∧ unchangedBut [.trunk] s t ∧ answers s t r (.refused .phase))) ∧
  (∀ (s : State) (r : RequestInHand) (b : Byte), asked s r → r.request = .restart b →
    (b.toNat < 2 →
      ∃ t, exec .restart s = .next t ∧ unchangedBut [.trunk, .startup] s t ∧
        t.startup = { s.startup with restart := some (if b = 0 then .warm else .cold) } ∧
        answers s t r (.done [])) ∧
    (2 ≤ b.toNat →
      ∃ t, exec .restart s = .next t ∧ unchangedBut [.trunk] s t ∧ answers s t r (.refused .range)))

/-- The stop work (R102, R122, R155, R167, R168, R172, R199, R206, R208), one piece a command (log 5): SFAILB taken at a
tick (log 7), SUPPLY_FAIL's steps to SHUTDOWN, and RESTART_BEGIN's to the reset. Step 3 commits the pending charges of one
room a command, by rising slot (log 26); step 4 closes one session a command, with the outcome decided or FAILED, and
SUPPLY_FAIL leaves a context in AWAIT_BLANK even where its outcome is decided (log 32). A DONE commit made there removes its
serial's deny entry (log 45), and the warm reset waits for no exchange in flight (log 41). RESTART COLD clears the store and the
journal, and stores its one RESTART record, for straps of 31 as for any (log 58). -/
def Obligations.StopWorkRunsInSteps : Prop :=
  (∀ (s : State) (fire : Bool), s.ticking = true → s.startup.failTaken = false →
    ∃ t, exec (.tickEvent fire true) s = .next t ∧ unchangedBut [.time, .loader, .journal, .trunk, .startup] s t ∧
      t.startup = { s.startup with failTaken := true } ∧ t.time.tick = s.time.tick + 1 ∧
      clockCounts s.time.clock t.time.clock ∧ t.time.deadlines = s.time.deadlines ∧
      t.time.expiring = s.time.expiring ∧ t.time.minuteEvents = s.time.minuteEvents ++ minuteRaised s t ∧
      t.loader = { s.loader with load := none } ∧
      t.journal = { s.journal with offer := .none } ∧
      t.trunk =
        { s.trunk with
          inHand :=
            (if loadInHand s = true then none else s.trunk.inHand)
          upRo := false, downRo := false }) ∧
  (∀ s : State, s.startup.failTaken = true → s.ticking = true →
    (s.startup.stopWork ≠ .supplyFail →
      ∃ t, exec .supplyFail s = .next t ∧ unchangedBut [.startup] s t ∧
        t.startup =
          { s.startup with
            stopWork := .supplyFail
            stopStep :=
              if s.relayOnly = true then .finish
              else if s.startup.stopWork = .warm then s.startup.stopStep else .operation }) ∧
    (s.startup.stopWork = .supplyFail → s.startup.stopStep = .marker →
      ∃ t, exec .supplyFail s = .next t ∧ unchangedBut [.startup] s t ∧
        t.startup =
          { s.startup with
            stopStep := .finish
            marker :=
              s.startup.marker ||
                (!s.relayOnly &&
                  decide (s.startup.phase = .run ∨ (s.startup.phase = .checking ∧ s.startup.keep = true))) }) ∧
    (s.startup.stopWork = .supplyFail → s.startup.stopStep = .finish →
      (s.trunk.upTx = none → s.trunk.downTx = none → (∀ l, (lineOf s l).exchange = none) →
        ∃ t, exec .supplyFail s = .next t ∧ unchangedBut [.journal, .startup] s t ∧
          t.startup = { s.startup with phase := .shutdown } ∧
          t.journal = { s.journal with frozen := true, offer := .none } ∧
          t.trunk.upRo = false ∧ t.trunk.downRo = false) ∧
      (s.trunk.upTx ≠ none ∨ s.trunk.downTx ≠ none ∨ (∃ l, (lineOf s l).exchange ≠ none) →
        exec .supplyFail s = .next s))) ∧
  (∀ (s : State) (c : Instr),
    ((c = .supplyFail ∧ s.startup.failTaken = true ∧ s.ticking = true ∧ s.startup.stopWork = .supplyFail) ∨
      ((∃ straps, c = .restartBegin straps) ∧ s.startup.failTaken = false ∧ s.serving = true ∧
        (s.startup.phase = .run ∨ s.startup.phase = .awaitLoad) ∧ s.startup.restart = some .warm ∧
        s.startup.stopWork ≠ .none)) →
    (s.startup.stopStep = .operation → s.port.inHand = none →
      ∃ t, exec c s = .next t ∧ unchangedBut [.startup] s t ∧
        t.startup = { s.startup with stopStep := .drain }) ∧
    (s.startup.stopStep = .operation → s.port.inHand ≠ none → exec c s = .next s) ∧
    (s.startup.stopStep = .drain → s.loader.buffer = [] → s.port.inHand = none →
      ∃ t, exec c s = .next t ∧ unchangedBut [.startup] s t ∧
        t.startup = { s.startup with stopStep := .charges }) ∧
    (s.startup.stopStep = .drain → (s.loader.buffer ≠ [] ∨ s.port.inHand ≠ none) → exec c s = .next s) ∧
    (s.startup.stopStep = .charges →
      ((∀ i m, partOf s i = some m → m.charges = []) →
        ∃ t, exec c s = .next t ∧ unchangedBut [.startup] s t ∧
          t.startup = { s.startup with stopStep := .sessions }) ∧
      ∀ i m, partOf s i = some m → m.charges ≠ [] →
        (∀ j, j < i → ∀ m', partOf s j = some m' → m'.charges = []) →
        ∃ t, exec c s = .next t ∧ unchangedBut [.store, .journal] s t ∧
          t.store =
            storeWithPart s i (partCommitted m (dynOf s i).occupied (roomOf s i).limit.toNat fun _ => true) ∧
          appendsAll s t (minibarRecords s i (commitDetails (roomOf s i).limit m.tally.toNat m.charges))) ∧
    (s.startup.stopStep = .sessions →
      let ends : Fin 2 → Prop := fun k =>
        (ctxOf s k).state = .writing ∨ (c ≠ .supplyFail ∧ (ctxOf s k).state ≠ .free)
      let why : FailReason := if c = .supplyFail then .shutdown else .restart
      ((∀ k, ¬ ends k) →
        ∃ t, exec c s = .next t ∧ unchangedBut [.startup] s t ∧
          t.startup = { s.startup with stopStep := .marker }) ∧
      ∀ k, ends k → (∀ j, j < k → ¬ ends j) →
        let x := ctxOf s k
        let out := x.outcome.getD (.failed why (burns x why))
        let decided := { s with issue := { s.issue with ctxs := put s.issue.ctxs k { x with outcome := some out } } }
        ∃ t, exec c s = .next t ∧ unchangedBut [.issue, .store, .journal] s t ∧
          t.issue = { s.issue with ctxs := put s.issue.ctxs k .free } ∧
          (s.serving = true →
            ∃ u, exec (.issueClosing .complete) (setInHand decided (some (.closing k))) = .next u ∧
              t.store = u.store ∧ t.journal = u.journal) ∧
          (x.state = .writing → x.outcome = none → x.stay.cls = 1 → x.duplicate = false → x.void = false →
            ∀ i, findRoom s x.stay.room = some i → ∀ g, x.gen = some g → g = (dynOf s i).issued + 1 →
            (dynOf s i).occupied = true →
            dynOf t i = { raisedTo (dynOf s i) g with marker := none } ∧ (∀ j, j ≠ i → dynOf t j = dynOf s j) ∧
              appendsAll s t
                [{ stampedRecord s .issueFailed with
                  node := some (.node x.node), serial := x.serial, room := some x.stay.room, cls := some 1,
                  detail := .issue (some (g, (raisedTo (dynOf s i) g).accepted, g)) (some (why, true)) }]))) ∧
  (∀ (s : State) (straps : BitVec 5), s.serving = true → s.startup.failTaken = false →
    (s.startup.phase = .run ∨ s.startup.phase = .awaitLoad) →
    (s.startup.restart = none → exec (.restartBegin straps) s = .next s) ∧
    (s.startup.restart = some .warm → s.startup.stopWork = .none →
      ∃ t, exec (.restartBegin straps) s = .next t ∧ unchangedBut [.startup] s t ∧
        t.startup = { s.startup with stopWork := .warm, stopStep := .operation }) ∧
    (s.startup.restart = some .warm → s.startup.stopWork = .warm → s.startup.stopStep = .marker →
      ∃ t, exec (.restartBegin straps) s = .next t ∧ freshPart straps .warm s t ∧ storeKept s t ∧
        t.journal.records = s.journal.records ∧ t.time.clock = s.time.clock ∧
        t.override.requested = s.override.requested ∧ t.startup.marker = true ∧ t.startup.keep = true) ∧
    (s.startup.restart = some .cold →
      ∃ t, exec (.restartBegin straps) s = .next t ∧ freshPart straps .cold s t ∧ storeCleared t ∧
        t.journal.records = [{ stampedRecord s .restart with detail := .restart .cold false }] ∧
        t.time.clock = s.time.clock ∧ t.override.requested = .normal ∧ t.startup.marker = false ∧
        t.startup.keep = false))

/-! ### Trunk -/

/-- Frames received (R183, R185 to R188): a frame that ended short or is not good leaves nothing but the last receive error; a
good one is routed by its kind and destination, and one whose position is taken is discarded (a broadcast that needs two, whole:
log 22). -/
def Obligations.FramesAreRouted : Prop :=
  ∀ s : State, s.active = true → s.stopping = false →
    (∀ p, ∃ t, exec (.frameEndedShort p) s = .next t ∧ unchangedBut [.trunk] s t ∧
      trunkIs t { s.trunk with lastError := .length }) ∧
    ∀ (k dest src tag c0 c1 : Byte) (body : List Byte), body.length ≤ 255 →
      let head := [k, dest, src, tag, BitVec.ofNat 8 body.length]
      let bytes := head ++ body ++ [c0, c1]
      let good := (byteSum (head ++ body) + c0.toNat * 256 + c1.toNat) % 65536 = 65535
      let f : Frame := { kind := frameKind k, dest := dest, source := src, tag := tag, body := body }
      let up := k.toNat = 2 ∨ k.toNat = 3 ∨ k.toNat = 4 ∨ k.toNat = 6
      let mine := s.trunk.chain.map Fin.val = some dest.toNat
      let takes := (k.toNat = 1 ∨ k.toNat = 5) ∧ s.trunk.chain ≠ none ∧ (mine ∨ dest.toNat = 31)
      let relays := ¬ up ∧ ¬ mine ∧ s.trunk.downAbsent = false
      (¬ good →
        (∃ t, exec (.upstreamFrameReceived bytes) s = .next t ∧ unchangedBut [.trunk] s t ∧
          trunkIs t { s.trunk with lastError := .check }) ∧
        ∃ t, exec (.downstreamFrameReceived bytes) s = .next t ∧ unchangedBut [.trunk] s t ∧
          trunkIs t { s.trunk with lastError := .check }) ∧
      (good →
        (∃ t, exec (.upstreamFrameReceived bytes) s = .next t ∧ unchangedBut [.trunk] s t ∧
          ((takes → s.trunk.requests.length < 4) → (relays → s.trunk.relayDown.length < 4) →
            (∃ rs ds, trunkIs t { s.trunk with requests := s.trunk.requests ++ rs,
                                               relayDown := s.trunk.relayDown ++ ds } ∧
              (takes → rs = [f]) ∧ (¬ takes → rs = []) ∧ (relays → ds = [f]) ∧ (¬ relays → ds = []))) ∧
          ((takes ∧ 4 ≤ s.trunk.requests.length) ∨ (relays ∧ 4 ≤ s.trunk.relayDown.length) →
            trunkIs t s.trunk)) ∧
        ∃ t, exec (.downstreamFrameReceived bytes) s = .next t ∧ unchangedBut [.trunk] s t ∧
          (up ∧ s.trunk.relayUp.length < 8 → trunkIs t { s.trunk with relayUp := s.trunk.relayUp ++ [f] }) ∧
          (¬ up ∨ 8 ≤ s.trunk.relayUp.length → trunkIs t s.trunk))

/-- REQUEST_TAKE and NODE_PASS_DOWN (R41, R42, R191, R193, R198, R201, R208): a request is answered for its form or its phase or
becomes the request in hand; a broadcast one of four; a PASS reaches a configured node of a TRANSPARENT line, where it replaces
the command pending there, or is discarded against HOLD_OPEN. A PREPARE or WRITE it replaces ends its session
ENCODER_UNREACHABLE (R112). An address above 31 names no node (log 24). The reply to an empty body has request code 0 (log 31);
RESTART WARM is mode code 0 (log 34). -/
def Obligations.RequestsAreTaken : Prop :=
  (∀ (s : State) (f : Frame) (fs : List Frame), s.working = true → s.trunk.inHand = none →
    s.trunk.requests = f :: fs →
    (s.startup.restart ≠ none → exec .requestTake s = .next s) ∧
    (s.startup.restart = none → f.kind = .request → f.dest ≠ 31 →
      4 ≤ replyCount s.trunk.outQueue + s.trunk.reserved → exec .requestTake s = .next s) ∧
    (s.startup.restart = none → f.kind = .passDown →
      ∃ t, exec .requestTake s = .next t ∧ unchangedBut [.trunk] s t ∧
        (f.dest = 31 → trunkIs t { s.trunk with requests := fs }) ∧
        (f.dest ≠ 31 →
          trunkIs t
            { s.trunk with
              requests := fs
              inHand := some { request := parsePassDown f.body, tag := f.tag, unicast := false } })) ∧
    (s.startup.restart = none → f.kind = .request → f.dest ≠ 31 →
      replyCount s.trunk.outQueue + s.trunk.reserved < 4 →
      (parseRequest f.body = none →
        ∃ t, exec .requestTake s = .next t ∧ unchangedBut [.trunk] s t ∧
          trunkIs t
            { s.trunk with
              requests := fs
              outQueue :=
                s.trunk.outQueue ++
                  [.reply { tag := f.tag, code := f.body.headD 0, answer := .refused .range }] }) ∧
      ∀ r, parseRequest f.body = some r →
        (∀ a, turnedAway s.startup.phase r a →
          ∃ t, exec .requestTake s = .next t ∧ unchangedBut [.trunk] s t ∧
            trunkIs t
              { s.trunk with
                requests := fs
                outQueue := s.trunk.outQueue ++ [.reply { tag := f.tag, code := requestCode r, answer := a }] }) ∧
        ((∀ a, ¬ turnedAway s.startup.phase r a) →
          ∃ t, exec .requestTake s = .next t ∧ unchangedBut [.issue, .trunk] s t ∧
            trunkIs t
              { s.trunk with
                requests := fs, reserved := s.trunk.reserved + 1
                inHand := some { request := r, tag := f.tag, unicast := true } } ∧
            ((∃ n k stay, r = .issue n k stay) →
              t.issue = { s.issue with work := s.issue.work ++ [.judge] }) ∧
            ((¬ ∃ n k stay, r = .issue n k stay) → t.issue = s.issue))) ∧
    (s.startup.restart = none → f.kind = .request → f.dest = 31 →
      ∃ t, exec .requestTake s = .next t ∧ unchangedBut [.trunk] s t ∧
        (∀ r, parseRequest f.body = some r →
          (requestCode r = 5 ∨ requestCode r = 6 ∨ requestCode r = 12 ∨ requestCode r = 13) →
          (∀ a, ¬ turnedAway s.startup.phase r a) →
          trunkIs t
            { s.trunk with
              requests := fs, inHand := some { request := r, tag := f.tag, unicast := false } }) ∧
        ((∀ r, parseRequest f.body = some r →
            (requestCode r ≠ 5 ∧ requestCode r ≠ 6 ∧ requestCode r ≠ 12 ∧ requestCode r ≠ 13) ∨
              ∃ a, turnedAway s.startup.phase r a) →
          trunkIs t { s.trunk with requests := fs }))) ∧
  (∀ (s : State) (r : RequestInHand) (line addr : Byte) (chars : List Byte), asked s r → r.unicast = false →
    r.request = .passDown line addr chars →
    ∃ t, exec .nodePassDown s = .next t ∧ unchangedBut [.time, .lines, .issue, .journal, .trunk] s t ∧
      t.trunk.inHand = none ∧
      ((4 ≤ line.toNat ∨ 32 ≤ addr.toNat ∨ chars = []) →
        unchangedBut [.trunk] s t ∧ trunkIs t { s.trunk with inHand := none }) ∧
      ∀ n : Node, line.toNat = n.line.val → addr.toNat = n.addr.val → chars ≠ [] →
        ((lineOf s n.line).mode ≠ .transparent ∨ configured (doorOf s n) = false →
          unchangedBut [.trunk] s t ∧ trunkIs t { s.trunk with inHand := none }) ∧
        ((lineOf s n.line).mode = .transparent → configured (doorOf s n) = true →
          let ks := replacedSession s n (.pass chars)
          t.lines = linesQueued s n (.pass chars) ∧
            ((nodeOf s n).command ≠ some .holdOpen →
              (nodeOf t n).command = some (.pass chars) ∧ (nodeOf t n).attempts = 0) ∧
            ((nodeOf s n).command = none →
              (lineOf t n.line).fifo = (lineOf s n.line).fifo.filter (fun a => a != n.addr) ++ [n.addr]) ∧
            ((nodeOf s n).command ≠ none → (lineOf t n.line).fifo = (lineOf s n.line).fifo) ∧
            endedOn s t n ks .encoderUnreachable ∧ appendsAll s t (endRecords s ks .encoderUnreachable) ∧
            trunkIs t
              { s.trunk with
                inHand := none, notices := noticesWith s (endNotices s ks .encoderUnreachable) }))

/-- The two transmitters (R163, R164, R184, R188 to R190): the arbiter's order, the batch in flight, what a finished
frame leaves, the relay-down queue, and downstream presence. -/
def Obligations.TransmittersSend : Prop :=
  (∀ s : State, s.active = true → s.stopping = false → s.trunk.upTx = none →
    let sends := fun (src : UpSource) (bytes : List Byte) =>
      ∃ t, exec .upstreamGrant s = .next t ∧ unchangedBut [.journal, .trunk, .pins] s t ∧
        trunkIs t { s.trunk with upTx := some (src, bytes) } ∧ t.pins = { s.pins with upRi := true } ∧
        t.journal =
          { s.journal with
            batch := if src = .journal then some (min 8 s.journal.records.length) else s.journal.batch
            offer := t.journal.offer }
    let own := s.relayOnly = false
    let offers := s.journal.push = true ∧ s.journal.batch = none ∧ s.journal.records ≠ []
    let batch := journalBytes s (s.journal.records.take 8)
    (∀ n ns, own → s.trunk.notices = n :: ns → sends .notice (noticeBytes s n)) ∧
    (own → s.trunk.notices = [] → offers → 896 ≤ s.journal.records.length → sends .journal batch) ∧
    (∀ f fs, (own → s.trunk.notices = [] ∧ ¬ (offers ∧ 896 ≤ s.journal.records.length)) →
      s.trunk.relayUp = f :: fs → sends .relayUp (frameBytes f)) ∧
    (∀ f fs, own → s.trunk.notices = [] → ¬ (offers ∧ 896 ≤ s.journal.records.length) → s.trunk.relayUp = [] →
      s.trunk.outQueue = f :: fs → ∃ src, (src = .reply ∨ src = .passUp) ∧ sends src (outFrameBytes s f)) ∧
    (own → s.trunk.notices = [] → s.trunk.relayUp = [] → s.trunk.outQueue = [] → offers →
      s.journal.records.length < 896 → sends .journal batch)) ∧
  (∀ (s : State) (src : UpSource) (bytes : List Byte), s.active = true → s.trunk.upTx = some (src, bytes) →
    ∃ t, exec .upstreamFrameFinished s = .next t ∧ unchangedBut [.journal, .trunk] s t ∧
      trunkIs t
        { s.trunk with
          upTx := none
          notices := if src = .notice then s.trunk.notices.tail else s.trunk.notices
          relayUp := if src = .relayUp then s.trunk.relayUp.tail else s.trunk.relayUp
          outQueue := if src = .reply ∨ src = .passUp then s.trunk.outQueue.tail else s.trunk.outQueue } ∧
      (src ≠ .journal → t.journal = { s.journal with offer := t.journal.offer }) ∧
      (∀ k, src = .journal → s.journal.batch = some k →
        t.journal =
          { s.journal with records := s.journal.records.drop k, batch := none, offer := t.journal.offer })) ∧
  (∀ (s : State) (f : Frame) (fs : List Frame), s.active = true → s.trunk.relayDown = f :: fs →
    (s.stopping = false → s.trunk.downTx = none → s.trunk.downAbsent = false →
      (∃ t, exec .relayDownSend s = .next t ∧ unchangedBut [.trunk, .pins] s t ∧
        trunkIs t { s.trunk with downTx := some (frameBytes f) } ∧ t.pins = { s.pins with downRi := true }) ∧
      ∃ t, exec .downstreamAbsent s = .next t ∧ unchangedBut [.trunk, .pins] s t ∧
        trunkIs t { s.trunk with downAbsent := true, relayDown := [] } ∧
        t.pins = { s.pins with downRi := false }) ∧
    (s.trunk.downTx ≠ none →
      ∃ t, exec .relayDownFinished s = .next t ∧ unchangedBut [.trunk] s t ∧
        trunkIs t { s.trunk with downTx := none, relayDown := fs })) ∧
  (∀ s : State, s.active = true → s.stopping = false → s.trunk.downAbsent = true →
    ∃ t, exec .downstreamPresent s = .next t ∧ unchangedBut [.trunk, .pins] s t ∧
      trunkIs t { s.trunk with downAbsent := false } ∧ t.pins = { s.pins with downRi := true })

/-! ### Table port -/

/-- The table port (R170 to R173): the requester granted is the first of highest priority, no operation is put in hand but
for it, and its operation is its oldest work; while one is in hand no other is granted and no entry is posted; and the form
that does both is the grant and then the completion (log 4). -/
def Obligations.PortGrantsInOrder : Prop :=
  ∀ (s : State) (op : PortOp),
    (mayGrant s (requesterOf op) → nextWork s op →
      ∃ t, exec (commandFor op .grant) s = .next t ∧
        unchangedBut [.queue, .tracker, .issue, .minibar, .port] s t ∧ t.port.inHand = some op ∧
        t.queue = (if requesterOf op = .admission then s.queue.tail else s.queue) ∧
        t.tracker =
          (if requesterOf op = .tracker then { s.tracker with writes := s.tracker.writes.tail } else s.tracker) ∧
        t.issue = (if requesterOf op = .issue then { s.issue with work := s.issue.work.tail } else s.issue) ∧
        t.minibar = (if requesterOf op = .minibar then s.minibar.tail else s.minibar)) ∧
    (s.port.inHand = none → ∀ t op', exec (commandFor op .grant) s = .next t → t.port.inHand = some op' →
      mayGrant s (requesterOf op') ∧ nextWork s op') ∧
    (s.port.inHand ≠ none →
      (∀ t, exec (commandFor op .grant) s = .next t → t.port.inHand = s.port.inHand) ∧
        exec .post s = .next s) ∧
    (s.port.inHand = none → ∀ g, exec (commandFor op .grant) s = .next g → g.port.inHand ≠ none →
      exec (commandFor op .whole) s = exec (commandFor op .complete) g)

/-! ### The whole part -/

/-- What is written as bytes is read back as it was (R56, R57, R59 to R61, R67, R182, R183, R209, R211): trunk frames, card
grants, and table entries within their ranges, a ROOM entry with its restore part. -/
def Obligations.FormatsRoundTrip : Prop :=
  (∀ f : Frame, f.body.length ≤ 255 → frameKind (frameCode f.kind) = f.kind → receive (frameBytes f) = .good f) ∧
    (∀ g : Grant, parseGrant (grantBytes g) = some g) ∧
    (∀ e : ConfigEntry, e.grace.toNat ≤ 1439 → e.returnWindow.toNat ≤ 6000 → 1 ≤ e.stretch.toNat →
      e.stretch.toNat ≤ 50 → parseConfig (configBytes e) = some e) ∧
    (∀ (e : DoorEntry) (bs : List Byte), parseDoor bs = some e → parseDoor (doorBytes e) = some e) ∧
    (∀ (e : RoomStatic) (d : RoomDyn),
      parseRoom ((roomBytes e d).take 19) =
        some (e, some { occupied := d.occupied, accepted := d.accepted, issued := d.issued, tally := tallyOf d })) ∧
    (∀ w : Window, w.openAt.toNat ≤ 1439 → w.closeAt.toNat ≤ 1439 → parseWindow (windowBytes w) = some w) ∧
    (∀ p : ProfileEntry, p.shift.openAt.toNat ≤ 1439 → p.shift.closeAt.toNat ≤ 1439 →
      parseProfile (profileBytes p) = some p) ∧
    (∀ e : ClassEntry, 1 ≤ e.openTime.toNat → e.openTime.toNat ≤ 250 → 10 ≤ e.heldLimit.toNat →
      e.heldLimit.toNat ≤ 6000 → parseClass (classBytes e) = some e) ∧
    (∀ v : Half, parsePrice (be2 v) = some v) ∧
    ∀ n : Node, nodeByte? (nodeByte n) = some n

/-- Every step keeps the span law of the room records (R63): a span of 0 to 16, and 0 exactly on a VACANT room. -/
def Obligations.StepsKeepSpans : Prop :=
  ∀ s t : State, spansSound s → step s = .next t → spansSound t

/-- Every step keeps the deny list in serial order, with no serial twice, within its capacity, and counted (R123). -/
def Obligations.StepsKeepDenyList : Prop :=
  ∀ s t : State, denySound s → step s = .next t → denySound t

/-- Every step keeps the journal's bounds and its GAP (R156, R160) with the batch in flight (R163, R164). -/
def Obligations.StepsKeepJournal : Prop :=
  ∀ s t : State, journalSound s → step s = .next t → journalSound t

/-- Every step keeps the capacities of the queues and a reserved position for each reply still to be filled (R69, R174,
R185, R186, R191, R196, R197). -/
def Obligations.StepsKeepQueues : Prop :=
  ∀ s t : State, queuesSound s → step s = .next t → queuesSound t

/-- Every step keeps two open issue contexts on different nodes and for different guest rooms (R104, R105). -/
def Obligations.StepsKeepSessions : Prop :=
  ∀ s t : State, sessionsSound s → step s = .next t → sessionsSound t

/-- Every step keeps the deadline list (R11, R12, R14, R15). -/
def Obligations.StepsKeepDeadlines : Prop :=
  ∀ s t : State, deadlinesSound s → step s = .next t → deadlinesSound t

/-- Every step keeps the lines: all in DECIDE under RELEASE, no exchange on a HELD line, a LINE_MODE waiting exactly on a
HOLDING line, and in each FIFO the nodes with a pending command (R42, R45, R47, R48, R51). -/
def Obligations.StepsKeepLines : Prop :=
  ∀ s t : State, releaseSound s → heldSound s → fifoSound s → step s = .next t →
    releaseSound t ∧ heldSound t ∧ fifoSound t

/-- Only the events of the rules change the phase (R200), the tick counter (R1), the wing clock (R2 to R5), set the clean
marker (R206, R208) and freeze the journal (R168). -/
def Obligations.OnlyTheirEventsMoveThem : Prop :=
  ∀ (s t : State) (c : Instr) (rest : List Instr), s.pending = c :: rest → step s = .next t →
    (t.startup.phase ≠ s.startup.phase → phaseChange c s.startup.phase t.startup.phase = true) ∧
    (t.time.tick ≠ s.time.tick →
      (isReset c = true ∧ t.time.tick = 0) ∨
        ((∃ fire fail, c = .tickEvent fire fail) ∧ t.time.tick = s.time.tick + 1)) ∧
    (t.time.clock ≠ s.time.clock → movesClock c = true) ∧
    (s.startup.marker = false → t.startup.marker = true →
      c = .supplyFail ∨ ∃ straps, c = .restartBegin straps) ∧
    (s.journal.frozen = false → t.journal.frozen = true → c = .supplyFail ∧ t.startup.phase = .shutdown)
end

