-- ==== Sys2Proof/Laws/State.lean ====
section
/-!
SUPPORT. What replacing one block of the state leaves in each block, and what the indexed stores give back.
-/

namespace Sys2Proof.Machine

/-! ### One block replaced -/

@[simp] theorem State.withPending_pending (s : State) (x : List Instr) : (s.withPending x).pending = x := rfl
@[simp] theorem State.withPending_time (s : State) (x : List Instr) : (s.withPending x).time = s.time := rfl
@[simp] theorem State.withPending_lines (s : State) (x : List Instr) : (s.withPending x).lines = s.lines := rfl
@[simp] theorem State.withPending_queue (s : State) (x : List Instr) : (s.withPending x).queue = s.queue := rfl
@[simp] theorem State.withPending_tracker (s : State) (x : List Instr) : (s.withPending x).tracker = s.tracker := rfl
@[simp] theorem State.withPending_override (s : State) (x : List Instr) : (s.withPending x).override = s.override := rfl
@[simp] theorem State.withPending_issue (s : State) (x : List Instr) : (s.withPending x).issue = s.issue := rfl
@[simp] theorem State.withPending_minibar (s : State) (x : List Instr) : (s.withPending x).minibar = s.minibar := rfl
@[simp] theorem State.withPending_store (s : State) (x : List Instr) : (s.withPending x).store = s.store := rfl
@[simp] theorem State.withPending_port (s : State) (x : List Instr) : (s.withPending x).port = s.port := rfl
@[simp] theorem State.withPending_loader (s : State) (x : List Instr) : (s.withPending x).loader = s.loader := rfl
@[simp] theorem State.withPending_pruner (s : State) (x : List Instr) : (s.withPending x).pruner = s.pruner := rfl
@[simp] theorem State.withPending_journal (s : State) (x : List Instr) : (s.withPending x).journal = s.journal := rfl
@[simp] theorem State.withPending_trunk (s : State) (x : List Instr) : (s.withPending x).trunk = s.trunk := rfl
@[simp] theorem State.withPending_startup (s : State) (x : List Instr) : (s.withPending x).startup = s.startup := rfl
@[simp] theorem State.withPending_pins (s : State) (x : List Instr) : (s.withPending x).pins = s.pins := rfl
@[simp] theorem State.withTime_pending (s : State) (x : TimeUnit) : (s.withTime x).pending = s.pending := rfl
@[simp] theorem State.withTime_time (s : State) (x : TimeUnit) : (s.withTime x).time = x := rfl
@[simp] theorem State.withTime_lines (s : State) (x : TimeUnit) : (s.withTime x).lines = s.lines := rfl
@[simp] theorem State.withTime_queue (s : State) (x : TimeUnit) : (s.withTime x).queue = s.queue := rfl
@[simp] theorem State.withTime_tracker (s : State) (x : TimeUnit) : (s.withTime x).tracker = s.tracker := rfl
@[simp] theorem State.withTime_override (s : State) (x : TimeUnit) : (s.withTime x).override = s.override := rfl
@[simp] theorem State.withTime_issue (s : State) (x : TimeUnit) : (s.withTime x).issue = s.issue := rfl
@[simp] theorem State.withTime_minibar (s : State) (x : TimeUnit) : (s.withTime x).minibar = s.minibar := rfl
@[simp] theorem State.withTime_store (s : State) (x : TimeUnit) : (s.withTime x).store = s.store := rfl
@[simp] theorem State.withTime_port (s : State) (x : TimeUnit) : (s.withTime x).port = s.port := rfl
@[simp] theorem State.withTime_loader (s : State) (x : TimeUnit) : (s.withTime x).loader = s.loader := rfl
@[simp] theorem State.withTime_pruner (s : State) (x : TimeUnit) : (s.withTime x).pruner = s.pruner := rfl
@[simp] theorem State.withTime_journal (s : State) (x : TimeUnit) : (s.withTime x).journal = s.journal := rfl
@[simp] theorem State.withTime_trunk (s : State) (x : TimeUnit) : (s.withTime x).trunk = s.trunk := rfl
@[simp] theorem State.withTime_startup (s : State) (x : TimeUnit) : (s.withTime x).startup = s.startup := rfl
@[simp] theorem State.withTime_pins (s : State) (x : TimeUnit) : (s.withTime x).pins = s.pins := rfl
@[simp] theorem State.withLines_pending (s : State) (x : Vector LineCtl 4) : (s.withLines x).pending = s.pending := rfl
@[simp] theorem State.withLines_time (s : State) (x : Vector LineCtl 4) : (s.withLines x).time = s.time := rfl
@[simp] theorem State.withLines_lines (s : State) (x : Vector LineCtl 4) : (s.withLines x).lines = x := rfl
@[simp] theorem State.withLines_queue (s : State) (x : Vector LineCtl 4) : (s.withLines x).queue = s.queue := rfl
@[simp] theorem State.withLines_tracker (s : State) (x : Vector LineCtl 4) : (s.withLines x).tracker = s.tracker := rfl
@[simp] theorem State.withLines_override (s : State) (x : Vector LineCtl 4) : (s.withLines x).override = s.override := rfl
@[simp] theorem State.withLines_issue (s : State) (x : Vector LineCtl 4) : (s.withLines x).issue = s.issue := rfl
@[simp] theorem State.withLines_minibar (s : State) (x : Vector LineCtl 4) : (s.withLines x).minibar = s.minibar := rfl
@[simp] theorem State.withLines_store (s : State) (x : Vector LineCtl 4) : (s.withLines x).store = s.store := rfl
@[simp] theorem State.withLines_port (s : State) (x : Vector LineCtl 4) : (s.withLines x).port = s.port := rfl
@[simp] theorem State.withLines_loader (s : State) (x : Vector LineCtl 4) : (s.withLines x).loader = s.loader := rfl
@[simp] theorem State.withLines_pruner (s : State) (x : Vector LineCtl 4) : (s.withLines x).pruner = s.pruner := rfl
@[simp] theorem State.withLines_journal (s : State) (x : Vector LineCtl 4) : (s.withLines x).journal = s.journal := rfl
@[simp] theorem State.withLines_trunk (s : State) (x : Vector LineCtl 4) : (s.withLines x).trunk = s.trunk := rfl
@[simp] theorem State.withLines_startup (s : State) (x : Vector LineCtl 4) : (s.withLines x).startup = s.startup := rfl
@[simp] theorem State.withLines_pins (s : State) (x : Vector LineCtl 4) : (s.withLines x).pins = s.pins := rfl
@[simp] theorem State.withQueue_pending (s : State) (x : List Presentation) : (s.withQueue x).pending = s.pending := rfl
@[simp] theorem State.withQueue_time (s : State) (x : List Presentation) : (s.withQueue x).time = s.time := rfl
@[simp] theorem State.withQueue_lines (s : State) (x : List Presentation) : (s.withQueue x).lines = s.lines := rfl
@[simp] theorem State.withQueue_queue (s : State) (x : List Presentation) : (s.withQueue x).queue = x := rfl
@[simp] theorem State.withQueue_tracker (s : State) (x : List Presentation) : (s.withQueue x).tracker = s.tracker := rfl
@[simp] theorem State.withQueue_override (s : State) (x : List Presentation) : (s.withQueue x).override = s.override := rfl
@[simp] theorem State.withQueue_issue (s : State) (x : List Presentation) : (s.withQueue x).issue = s.issue := rfl
@[simp] theorem State.withQueue_minibar (s : State) (x : List Presentation) : (s.withQueue x).minibar = s.minibar := rfl
@[simp] theorem State.withQueue_store (s : State) (x : List Presentation) : (s.withQueue x).store = s.store := rfl
@[simp] theorem State.withQueue_port (s : State) (x : List Presentation) : (s.withQueue x).port = s.port := rfl
@[simp] theorem State.withQueue_loader (s : State) (x : List Presentation) : (s.withQueue x).loader = s.loader := rfl
@[simp] theorem State.withQueue_pruner (s : State) (x : List Presentation) : (s.withQueue x).pruner = s.pruner := rfl
@[simp] theorem State.withQueue_journal (s : State) (x : List Presentation) : (s.withQueue x).journal = s.journal := rfl
@[simp] theorem State.withQueue_trunk (s : State) (x : List Presentation) : (s.withQueue x).trunk = s.trunk := rfl
@[simp] theorem State.withQueue_startup (s : State) (x : List Presentation) : (s.withQueue x).startup = s.startup := rfl
@[simp] theorem State.withQueue_pins (s : State) (x : List Presentation) : (s.withQueue x).pins = s.pins := rfl
@[simp] theorem State.withTracker_pending (s : State) (x : Tracker) : (s.withTracker x).pending = s.pending := rfl
@[simp] theorem State.withTracker_time (s : State) (x : Tracker) : (s.withTracker x).time = s.time := rfl
@[simp] theorem State.withTracker_lines (s : State) (x : Tracker) : (s.withTracker x).lines = s.lines := rfl
@[simp] theorem State.withTracker_queue (s : State) (x : Tracker) : (s.withTracker x).queue = s.queue := rfl
@[simp] theorem State.withTracker_tracker (s : State) (x : Tracker) : (s.withTracker x).tracker = x := rfl
@[simp] theorem State.withTracker_override (s : State) (x : Tracker) : (s.withTracker x).override = s.override := rfl
@[simp] theorem State.withTracker_issue (s : State) (x : Tracker) : (s.withTracker x).issue = s.issue := rfl
@[simp] theorem State.withTracker_minibar (s : State) (x : Tracker) : (s.withTracker x).minibar = s.minibar := rfl
@[simp] theorem State.withTracker_store (s : State) (x : Tracker) : (s.withTracker x).store = s.store := rfl
@[simp] theorem State.withTracker_port (s : State) (x : Tracker) : (s.withTracker x).port = s.port := rfl
@[simp] theorem State.withTracker_loader (s : State) (x : Tracker) : (s.withTracker x).loader = s.loader := rfl
@[simp] theorem State.withTracker_pruner (s : State) (x : Tracker) : (s.withTracker x).pruner = s.pruner := rfl
@[simp] theorem State.withTracker_journal (s : State) (x : Tracker) : (s.withTracker x).journal = s.journal := rfl
@[simp] theorem State.withTracker_trunk (s : State) (x : Tracker) : (s.withTracker x).trunk = s.trunk := rfl
@[simp] theorem State.withTracker_startup (s : State) (x : Tracker) : (s.withTracker x).startup = s.startup := rfl
@[simp] theorem State.withTracker_pins (s : State) (x : Tracker) : (s.withTracker x).pins = s.pins := rfl
@[simp] theorem State.withOverride_pending (s : State) (x : OverrideUnit) : (s.withOverride x).pending = s.pending := rfl
@[simp] theorem State.withOverride_time (s : State) (x : OverrideUnit) : (s.withOverride x).time = s.time := rfl
@[simp] theorem State.withOverride_lines (s : State) (x : OverrideUnit) : (s.withOverride x).lines = s.lines := rfl
@[simp] theorem State.withOverride_queue (s : State) (x : OverrideUnit) : (s.withOverride x).queue = s.queue := rfl
@[simp] theorem State.withOverride_tracker (s : State) (x : OverrideUnit) : (s.withOverride x).tracker = s.tracker := rfl
@[simp] theorem State.withOverride_override (s : State) (x : OverrideUnit) : (s.withOverride x).override = x := rfl
@[simp] theorem State.withOverride_issue (s : State) (x : OverrideUnit) : (s.withOverride x).issue = s.issue := rfl
@[simp] theorem State.withOverride_minibar (s : State) (x : OverrideUnit) : (s.withOverride x).minibar = s.minibar := rfl
@[simp] theorem State.withOverride_store (s : State) (x : OverrideUnit) : (s.withOverride x).store = s.store := rfl
@[simp] theorem State.withOverride_port (s : State) (x : OverrideUnit) : (s.withOverride x).port = s.port := rfl
@[simp] theorem State.withOverride_loader (s : State) (x : OverrideUnit) : (s.withOverride x).loader = s.loader := rfl
@[simp] theorem State.withOverride_pruner (s : State) (x : OverrideUnit) : (s.withOverride x).pruner = s.pruner := rfl
@[simp] theorem State.withOverride_journal (s : State) (x : OverrideUnit) : (s.withOverride x).journal = s.journal := rfl
@[simp] theorem State.withOverride_trunk (s : State) (x : OverrideUnit) : (s.withOverride x).trunk = s.trunk := rfl
@[simp] theorem State.withOverride_startup (s : State) (x : OverrideUnit) : (s.withOverride x).startup = s.startup := rfl
@[simp] theorem State.withOverride_pins (s : State) (x : OverrideUnit) : (s.withOverride x).pins = s.pins := rfl
@[simp] theorem State.withIssue_pending (s : State) (x : IssueUnit) : (s.withIssue x).pending = s.pending := rfl
@[simp] theorem State.withIssue_time (s : State) (x : IssueUnit) : (s.withIssue x).time = s.time := rfl
@[simp] theorem State.withIssue_lines (s : State) (x : IssueUnit) : (s.withIssue x).lines = s.lines := rfl
@[simp] theorem State.withIssue_queue (s : State) (x : IssueUnit) : (s.withIssue x).queue = s.queue := rfl
@[simp] theorem State.withIssue_tracker (s : State) (x : IssueUnit) : (s.withIssue x).tracker = s.tracker := rfl
@[simp] theorem State.withIssue_override (s : State) (x : IssueUnit) : (s.withIssue x).override = s.override := rfl
@[simp] theorem State.withIssue_issue (s : State) (x : IssueUnit) : (s.withIssue x).issue = x := rfl
@[simp] theorem State.withIssue_minibar (s : State) (x : IssueUnit) : (s.withIssue x).minibar = s.minibar := rfl
@[simp] theorem State.withIssue_store (s : State) (x : IssueUnit) : (s.withIssue x).store = s.store := rfl
@[simp] theorem State.withIssue_port (s : State) (x : IssueUnit) : (s.withIssue x).port = s.port := rfl
@[simp] theorem State.withIssue_loader (s : State) (x : IssueUnit) : (s.withIssue x).loader = s.loader := rfl
@[simp] theorem State.withIssue_pruner (s : State) (x : IssueUnit) : (s.withIssue x).pruner = s.pruner := rfl
@[simp] theorem State.withIssue_journal (s : State) (x : IssueUnit) : (s.withIssue x).journal = s.journal := rfl
@[simp] theorem State.withIssue_trunk (s : State) (x : IssueUnit) : (s.withIssue x).trunk = s.trunk := rfl
@[simp] theorem State.withIssue_startup (s : State) (x : IssueUnit) : (s.withIssue x).startup = s.startup := rfl
@[simp] theorem State.withIssue_pins (s : State) (x : IssueUnit) : (s.withIssue x).pins = s.pins := rfl
@[simp] theorem State.withMinibar_pending (s : State) (x : List MinibarWork) : (s.withMinibar x).pending = s.pending := rfl
@[simp] theorem State.withMinibar_time (s : State) (x : List MinibarWork) : (s.withMinibar x).time = s.time := rfl
@[simp] theorem State.withMinibar_lines (s : State) (x : List MinibarWork) : (s.withMinibar x).lines = s.lines := rfl
@[simp] theorem State.withMinibar_queue (s : State) (x : List MinibarWork) : (s.withMinibar x).queue = s.queue := rfl
@[simp] theorem State.withMinibar_tracker (s : State) (x : List MinibarWork) : (s.withMinibar x).tracker = s.tracker := rfl
@[simp] theorem State.withMinibar_override (s : State) (x : List MinibarWork) : (s.withMinibar x).override = s.override := rfl
@[simp] theorem State.withMinibar_issue (s : State) (x : List MinibarWork) : (s.withMinibar x).issue = s.issue := rfl
@[simp] theorem State.withMinibar_minibar (s : State) (x : List MinibarWork) : (s.withMinibar x).minibar = x := rfl
@[simp] theorem State.withMinibar_store (s : State) (x : List MinibarWork) : (s.withMinibar x).store = s.store := rfl
@[simp] theorem State.withMinibar_port (s : State) (x : List MinibarWork) : (s.withMinibar x).port = s.port := rfl
@[simp] theorem State.withMinibar_loader (s : State) (x : List MinibarWork) : (s.withMinibar x).loader = s.loader := rfl
@[simp] theorem State.withMinibar_pruner (s : State) (x : List MinibarWork) : (s.withMinibar x).pruner = s.pruner := rfl
@[simp] theorem State.withMinibar_journal (s : State) (x : List MinibarWork) : (s.withMinibar x).journal = s.journal := rfl
@[simp] theorem State.withMinibar_trunk (s : State) (x : List MinibarWork) : (s.withMinibar x).trunk = s.trunk := rfl
@[simp] theorem State.withMinibar_startup (s : State) (x : List MinibarWork) : (s.withMinibar x).startup = s.startup := rfl
@[simp] theorem State.withMinibar_pins (s : State) (x : List MinibarWork) : (s.withMinibar x).pins = s.pins := rfl
@[simp] theorem State.withStore_pending (s : State) (x : Store) : (s.withStore x).pending = s.pending := rfl
@[simp] theorem State.withStore_time (s : State) (x : Store) : (s.withStore x).time = s.time := rfl
@[simp] theorem State.withStore_lines (s : State) (x : Store) : (s.withStore x).lines = s.lines := rfl
@[simp] theorem State.withStore_queue (s : State) (x : Store) : (s.withStore x).queue = s.queue := rfl
@[simp] theorem State.withStore_tracker (s : State) (x : Store) : (s.withStore x).tracker = s.tracker := rfl
@[simp] theorem State.withStore_override (s : State) (x : Store) : (s.withStore x).override = s.override := rfl
@[simp] theorem State.withStore_issue (s : State) (x : Store) : (s.withStore x).issue = s.issue := rfl
@[simp] theorem State.withStore_minibar (s : State) (x : Store) : (s.withStore x).minibar = s.minibar := rfl
@[simp] theorem State.withStore_store (s : State) (x : Store) : (s.withStore x).store = x := rfl
@[simp] theorem State.withStore_port (s : State) (x : Store) : (s.withStore x).port = s.port := rfl
@[simp] theorem State.withStore_loader (s : State) (x : Store) : (s.withStore x).loader = s.loader := rfl
@[simp] theorem State.withStore_pruner (s : State) (x : Store) : (s.withStore x).pruner = s.pruner := rfl
@[simp] theorem State.withStore_journal (s : State) (x : Store) : (s.withStore x).journal = s.journal := rfl
@[simp] theorem State.withStore_trunk (s : State) (x : Store) : (s.withStore x).trunk = s.trunk := rfl
@[simp] theorem State.withStore_startup (s : State) (x : Store) : (s.withStore x).startup = s.startup := rfl
@[simp] theorem State.withStore_pins (s : State) (x : Store) : (s.withStore x).pins = s.pins := rfl
@[simp] theorem State.withPort_pending (s : State) (x : TablePort) : (s.withPort x).pending = s.pending := rfl
@[simp] theorem State.withPort_time (s : State) (x : TablePort) : (s.withPort x).time = s.time := rfl
@[simp] theorem State.withPort_lines (s : State) (x : TablePort) : (s.withPort x).lines = s.lines := rfl
@[simp] theorem State.withPort_queue (s : State) (x : TablePort) : (s.withPort x).queue = s.queue := rfl
@[simp] theorem State.withPort_tracker (s : State) (x : TablePort) : (s.withPort x).tracker = s.tracker := rfl
@[simp] theorem State.withPort_override (s : State) (x : TablePort) : (s.withPort x).override = s.override := rfl
@[simp] theorem State.withPort_issue (s : State) (x : TablePort) : (s.withPort x).issue = s.issue := rfl
@[simp] theorem State.withPort_minibar (s : State) (x : TablePort) : (s.withPort x).minibar = s.minibar := rfl
@[simp] theorem State.withPort_store (s : State) (x : TablePort) : (s.withPort x).store = s.store := rfl
@[simp] theorem State.withPort_port (s : State) (x : TablePort) : (s.withPort x).port = x := rfl
@[simp] theorem State.withPort_loader (s : State) (x : TablePort) : (s.withPort x).loader = s.loader := rfl
@[simp] theorem State.withPort_pruner (s : State) (x : TablePort) : (s.withPort x).pruner = s.pruner := rfl
@[simp] theorem State.withPort_journal (s : State) (x : TablePort) : (s.withPort x).journal = s.journal := rfl
@[simp] theorem State.withPort_trunk (s : State) (x : TablePort) : (s.withPort x).trunk = s.trunk := rfl
@[simp] theorem State.withPort_startup (s : State) (x : TablePort) : (s.withPort x).startup = s.startup := rfl
@[simp] theorem State.withPort_pins (s : State) (x : TablePort) : (s.withPort x).pins = s.pins := rfl
@[simp] theorem State.withLoader_pending (s : State) (x : Loader) : (s.withLoader x).pending = s.pending := rfl
@[simp] theorem State.withLoader_time (s : State) (x : Loader) : (s.withLoader x).time = s.time := rfl
@[simp] theorem State.withLoader_lines (s : State) (x : Loader) : (s.withLoader x).lines = s.lines := rfl
@[simp] theorem State.withLoader_queue (s : State) (x : Loader) : (s.withLoader x).queue = s.queue := rfl
@[simp] theorem State.withLoader_tracker (s : State) (x : Loader) : (s.withLoader x).tracker = s.tracker := rfl
@[simp] theorem State.withLoader_override (s : State) (x : Loader) : (s.withLoader x).override = s.override := rfl
@[simp] theorem State.withLoader_issue (s : State) (x : Loader) : (s.withLoader x).issue = s.issue := rfl
@[simp] theorem State.withLoader_minibar (s : State) (x : Loader) : (s.withLoader x).minibar = s.minibar := rfl
@[simp] theorem State.withLoader_store (s : State) (x : Loader) : (s.withLoader x).store = s.store := rfl
@[simp] theorem State.withLoader_port (s : State) (x : Loader) : (s.withLoader x).port = s.port := rfl
@[simp] theorem State.withLoader_loader (s : State) (x : Loader) : (s.withLoader x).loader = x := rfl
@[simp] theorem State.withLoader_pruner (s : State) (x : Loader) : (s.withLoader x).pruner = s.pruner := rfl
@[simp] theorem State.withLoader_journal (s : State) (x : Loader) : (s.withLoader x).journal = s.journal := rfl
@[simp] theorem State.withLoader_trunk (s : State) (x : Loader) : (s.withLoader x).trunk = s.trunk := rfl
@[simp] theorem State.withLoader_startup (s : State) (x : Loader) : (s.withLoader x).startup = s.startup := rfl
@[simp] theorem State.withLoader_pins (s : State) (x : Loader) : (s.withLoader x).pins = s.pins := rfl
@[simp] theorem State.withPruner_pending (s : State) (x : Pruner) : (s.withPruner x).pending = s.pending := rfl
@[simp] theorem State.withPruner_time (s : State) (x : Pruner) : (s.withPruner x).time = s.time := rfl
@[simp] theorem State.withPruner_lines (s : State) (x : Pruner) : (s.withPruner x).lines = s.lines := rfl
@[simp] theorem State.withPruner_queue (s : State) (x : Pruner) : (s.withPruner x).queue = s.queue := rfl
@[simp] theorem State.withPruner_tracker (s : State) (x : Pruner) : (s.withPruner x).tracker = s.tracker := rfl
@[simp] theorem State.withPruner_override (s : State) (x : Pruner) : (s.withPruner x).override = s.override := rfl
@[simp] theorem State.withPruner_issue (s : State) (x : Pruner) : (s.withPruner x).issue = s.issue := rfl
@[simp] theorem State.withPruner_minibar (s : State) (x : Pruner) : (s.withPruner x).minibar = s.minibar := rfl
@[simp] theorem State.withPruner_store (s : State) (x : Pruner) : (s.withPruner x).store = s.store := rfl
@[simp] theorem State.withPruner_port (s : State) (x : Pruner) : (s.withPruner x).port = s.port := rfl
@[simp] theorem State.withPruner_loader (s : State) (x : Pruner) : (s.withPruner x).loader = s.loader := rfl
@[simp] theorem State.withPruner_pruner (s : State) (x : Pruner) : (s.withPruner x).pruner = x := rfl
@[simp] theorem State.withPruner_journal (s : State) (x : Pruner) : (s.withPruner x).journal = s.journal := rfl
@[simp] theorem State.withPruner_trunk (s : State) (x : Pruner) : (s.withPruner x).trunk = s.trunk := rfl
@[simp] theorem State.withPruner_startup (s : State) (x : Pruner) : (s.withPruner x).startup = s.startup := rfl
@[simp] theorem State.withPruner_pins (s : State) (x : Pruner) : (s.withPruner x).pins = s.pins := rfl
@[simp] theorem State.withJournal_pending (s : State) (x : Journal) : (s.withJournal x).pending = s.pending := rfl
@[simp] theorem State.withJournal_time (s : State) (x : Journal) : (s.withJournal x).time = s.time := rfl
@[simp] theorem State.withJournal_lines (s : State) (x : Journal) : (s.withJournal x).lines = s.lines := rfl
@[simp] theorem State.withJournal_queue (s : State) (x : Journal) : (s.withJournal x).queue = s.queue := rfl
@[simp] theorem State.withJournal_tracker (s : State) (x : Journal) : (s.withJournal x).tracker = s.tracker := rfl
@[simp] theorem State.withJournal_override (s : State) (x : Journal) : (s.withJournal x).override = s.override := rfl
@[simp] theorem State.withJournal_issue (s : State) (x : Journal) : (s.withJournal x).issue = s.issue := rfl
@[simp] theorem State.withJournal_minibar (s : State) (x : Journal) : (s.withJournal x).minibar = s.minibar := rfl
@[simp] theorem State.withJournal_store (s : State) (x : Journal) : (s.withJournal x).store = s.store := rfl
@[simp] theorem State.withJournal_port (s : State) (x : Journal) : (s.withJournal x).port = s.port := rfl
@[simp] theorem State.withJournal_loader (s : State) (x : Journal) : (s.withJournal x).loader = s.loader := rfl
@[simp] theorem State.withJournal_pruner (s : State) (x : Journal) : (s.withJournal x).pruner = s.pruner := rfl
@[simp] theorem State.withJournal_journal (s : State) (x : Journal) : (s.withJournal x).journal = x := rfl
@[simp] theorem State.withJournal_trunk (s : State) (x : Journal) : (s.withJournal x).trunk = s.trunk := rfl
@[simp] theorem State.withJournal_startup (s : State) (x : Journal) : (s.withJournal x).startup = s.startup := rfl
@[simp] theorem State.withJournal_pins (s : State) (x : Journal) : (s.withJournal x).pins = s.pins := rfl
@[simp] theorem State.withTrunk_pending (s : State) (x : Trunk) : (s.withTrunk x).pending = s.pending := rfl
@[simp] theorem State.withTrunk_time (s : State) (x : Trunk) : (s.withTrunk x).time = s.time := rfl
@[simp] theorem State.withTrunk_lines (s : State) (x : Trunk) : (s.withTrunk x).lines = s.lines := rfl
@[simp] theorem State.withTrunk_queue (s : State) (x : Trunk) : (s.withTrunk x).queue = s.queue := rfl
@[simp] theorem State.withTrunk_tracker (s : State) (x : Trunk) : (s.withTrunk x).tracker = s.tracker := rfl
@[simp] theorem State.withTrunk_override (s : State) (x : Trunk) : (s.withTrunk x).override = s.override := rfl
@[simp] theorem State.withTrunk_issue (s : State) (x : Trunk) : (s.withTrunk x).issue = s.issue := rfl
@[simp] theorem State.withTrunk_minibar (s : State) (x : Trunk) : (s.withTrunk x).minibar = s.minibar := rfl
@[simp] theorem State.withTrunk_store (s : State) (x : Trunk) : (s.withTrunk x).store = s.store := rfl
@[simp] theorem State.withTrunk_port (s : State) (x : Trunk) : (s.withTrunk x).port = s.port := rfl
@[simp] theorem State.withTrunk_loader (s : State) (x : Trunk) : (s.withTrunk x).loader = s.loader := rfl
@[simp] theorem State.withTrunk_pruner (s : State) (x : Trunk) : (s.withTrunk x).pruner = s.pruner := rfl
@[simp] theorem State.withTrunk_journal (s : State) (x : Trunk) : (s.withTrunk x).journal = s.journal := rfl
@[simp] theorem State.withTrunk_trunk (s : State) (x : Trunk) : (s.withTrunk x).trunk = x := rfl
@[simp] theorem State.withTrunk_startup (s : State) (x : Trunk) : (s.withTrunk x).startup = s.startup := rfl
@[simp] theorem State.withTrunk_pins (s : State) (x : Trunk) : (s.withTrunk x).pins = s.pins := rfl
@[simp] theorem State.withStartup_pending (s : State) (x : Startup) : (s.withStartup x).pending = s.pending := rfl
@[simp] theorem State.withStartup_time (s : State) (x : Startup) : (s.withStartup x).time = s.time := rfl
@[simp] theorem State.withStartup_lines (s : State) (x : Startup) : (s.withStartup x).lines = s.lines := rfl
@[simp] theorem State.withStartup_queue (s : State) (x : Startup) : (s.withStartup x).queue = s.queue := rfl
@[simp] theorem State.withStartup_tracker (s : State) (x : Startup) : (s.withStartup x).tracker = s.tracker := rfl
@[simp] theorem State.withStartup_override (s : State) (x : Startup) : (s.withStartup x).override = s.override := rfl
@[simp] theorem State.withStartup_issue (s : State) (x : Startup) : (s.withStartup x).issue = s.issue := rfl
@[simp] theorem State.withStartup_minibar (s : State) (x : Startup) : (s.withStartup x).minibar = s.minibar := rfl
@[simp] theorem State.withStartup_store (s : State) (x : Startup) : (s.withStartup x).store = s.store := rfl
@[simp] theorem State.withStartup_port (s : State) (x : Startup) : (s.withStartup x).port = s.port := rfl
@[simp] theorem State.withStartup_loader (s : State) (x : Startup) : (s.withStartup x).loader = s.loader := rfl
@[simp] theorem State.withStartup_pruner (s : State) (x : Startup) : (s.withStartup x).pruner = s.pruner := rfl
@[simp] theorem State.withStartup_journal (s : State) (x : Startup) : (s.withStartup x).journal = s.journal := rfl
@[simp] theorem State.withStartup_trunk (s : State) (x : Startup) : (s.withStartup x).trunk = s.trunk := rfl
@[simp] theorem State.withStartup_startup (s : State) (x : Startup) : (s.withStartup x).startup = x := rfl
@[simp] theorem State.withStartup_pins (s : State) (x : Startup) : (s.withStartup x).pins = s.pins := rfl
@[simp] theorem State.withPins_pending (s : State) (x : Pins) : (s.withPins x).pending = s.pending := rfl
@[simp] theorem State.withPins_time (s : State) (x : Pins) : (s.withPins x).time = s.time := rfl
@[simp] theorem State.withPins_lines (s : State) (x : Pins) : (s.withPins x).lines = s.lines := rfl
@[simp] theorem State.withPins_queue (s : State) (x : Pins) : (s.withPins x).queue = s.queue := rfl
@[simp] theorem State.withPins_tracker (s : State) (x : Pins) : (s.withPins x).tracker = s.tracker := rfl
@[simp] theorem State.withPins_override (s : State) (x : Pins) : (s.withPins x).override = s.override := rfl
@[simp] theorem State.withPins_issue (s : State) (x : Pins) : (s.withPins x).issue = s.issue := rfl
@[simp] theorem State.withPins_minibar (s : State) (x : Pins) : (s.withPins x).minibar = s.minibar := rfl
@[simp] theorem State.withPins_store (s : State) (x : Pins) : (s.withPins x).store = s.store := rfl
@[simp] theorem State.withPins_port (s : State) (x : Pins) : (s.withPins x).port = s.port := rfl
@[simp] theorem State.withPins_loader (s : State) (x : Pins) : (s.withPins x).loader = s.loader := rfl
@[simp] theorem State.withPins_pruner (s : State) (x : Pins) : (s.withPins x).pruner = s.pruner := rfl
@[simp] theorem State.withPins_journal (s : State) (x : Pins) : (s.withPins x).journal = s.journal := rfl
@[simp] theorem State.withPins_trunk (s : State) (x : Pins) : (s.withPins x).trunk = s.trunk := rfl
@[simp] theorem State.withPins_startup (s : State) (x : Pins) : (s.withPins x).startup = s.startup := rfl
@[simp] theorem State.withPins_pins (s : State) (x : Pins) : (s.withPins x).pins = x := rfl

/-! ### Indexed stores -/

@[simp] theorem look_put_same {α : Type} {n : Nat} (v : Vector α n) (i : Fin n) (x : α) : look (put v i x) i = x := by
  simp [look, put, Vector.get_eq_getElem]

theorem look_put_ne {α : Type} {n : Nat} (v : Vector α n) {i j : Fin n} (h : i ≠ j) (x : α) :
    look (put v i x) j = look v j := by
  have h' : i.val ≠ j.val := fun e => h (Fin.ext e)
  simp [look, put, Vector.get_eq_getElem, h']

theorem look_put {α : Type} {n : Nat} (v : Vector α n) (i j : Fin n) (x : α) :
    look (put v i x) j = if i = j then x else look v j := by
  split
  · next h => subst h; simp
  · next h => exact look_put_ne v h x

@[simp] theorem look_tabulate {α : Type} {n : Nat} (f : Fin n → α) (i : Fin n) : look (tabulate f) i = f i := by
  simp [look, tabulate, Vector.get_eq_getElem]

@[simp] theorem look_replicate {α : Type} {n : Nat} (x : α) (i : Fin n) : look (Vector.replicate n x) i = x := by
  simp [look, Vector.get_eq_getElem]

@[simp] theorem look_map {α β : Type} {n : Nat} (f : α → β) (v : Vector α n) (i : Fin n) :
    look (v.map f) i = f (look v i) := by
  simp [look, Vector.get_eq_getElem]

/-- A store is known by its entries. -/
theorem store_ext {α : Type} {n : Nat} {v w : Vector α n} (h : ∀ i, look v i = look w i) : v = w := by
  apply Vector.ext
  intro i hi
  exact h ⟨i, hi⟩

/-- A fold whose every step keeps a reading of the state keeps it. -/
theorem foldl_keeps {β γ : Type} (g : State → γ) (f : State → β → State) (h : ∀ s b, g (f s b) = g s) (l : List β)
    (s : State) : g (l.foldl f s) = g s := by
  induction l generalizing s with
  | nil => rfl
  | cons b bs ih => simp [ih, h]

/-- A fold whose every step keeps a property of the state keeps it. -/
theorem foldl_holds {β : Type} (p : State → Prop) (f : State → β → State) (h : ∀ s b, p s → p (f s b)) (l : List β)
    (s : State) (hs : p s) : p (l.foldl f s) := by
  induction l generalizing s with
  | nil => exact hs
  | cons b bs ih => exact ih _ (h s b hs)

end Sys2Proof.Machine
end

