-- ==== Sys2Proof/Laws/Frames.lean ====
section
/-!
SUPPORT. Frames: for each operation, every block and field of the state that it leaves unchanged, whatever its case. A
proof that an operation does not touch a field cites these by `simp` and unfolds nothing.
-/

namespace Sys2Proof.Machine

/-- `settle` changes only what follows from the rest of the state. -/
@[simp] theorem settle_frame (s : State) :
    (settle s).pending = s.pending ∧ (settle s).time = s.time ∧ (settle s).lines = s.lines ∧
    (settle s).queue = s.queue ∧ (settle s).tracker = s.tracker ∧ (settle s).override = s.override ∧
    (settle s).issue = s.issue ∧ (settle s).minibar = s.minibar ∧ (settle s).store = s.store ∧
    (settle s).loader = s.loader ∧ (settle s).pruner = s.pruner ∧ (settle s).startup = s.startup ∧
    (settle s).pins = s.pins ∧ (settle s).port.inHand = s.port.inHand ∧
    (settle s).journal.records = s.journal.records ∧ (settle s).journal.push = s.journal.push ∧
    (settle s).journal.batch = s.journal.batch ∧ (settle s).journal.frozen = s.journal.frozen ∧
    (settle s).trunk.chain = s.trunk.chain ∧ (settle s).trunk.relayDown = s.trunk.relayDown ∧
    (settle s).trunk.relayUp = s.trunk.relayUp ∧ (settle s).trunk.requests = s.trunk.requests ∧
    (settle s).trunk.inHand = s.trunk.inHand ∧ (settle s).trunk.outQueue = s.trunk.outQueue ∧
    (settle s).trunk.reserved = s.trunk.reserved ∧ (settle s).trunk.notices = s.trunk.notices ∧
    (settle s).trunk.downAbsent = s.trunk.downAbsent ∧ (settle s).trunk.lastError = s.trunk.lastError ∧
    (settle s).trunk.upTx = s.trunk.upTx ∧ (settle s).trunk.downTx = s.trunk.downTx := by
  simp [settle]

@[simp] theorem setDyn_frame (s : State) (i : Slot) (d : RoomDyn) :
    (setDyn s i d).pending = s.pending ∧ (setDyn s i d).time = s.time ∧ (setDyn s i d).lines = s.lines ∧
    (setDyn s i d).queue = s.queue ∧ (setDyn s i d).tracker = s.tracker ∧ (setDyn s i d).override = s.override ∧
    (setDyn s i d).issue = s.issue ∧ (setDyn s i d).minibar = s.minibar ∧ (setDyn s i d).port = s.port ∧
    (setDyn s i d).loader = s.loader ∧ (setDyn s i d).pruner = s.pruner ∧ (setDyn s i d).journal = s.journal ∧
    (setDyn s i d).trunk = s.trunk ∧ (setDyn s i d).startup = s.startup ∧ (setDyn s i d).pins = s.pins ∧
    (setDyn s i d).store.config = s.store.config ∧ (setDyn s i d).store.doors = s.store.doors ∧
    (setDyn s i d).store.rooms = s.store.rooms ∧ (setDyn s i d).store.zones = s.store.zones ∧
    (setDyn s i d).store.profiles = s.store.profiles ∧ (setDyn s i d).store.classes = s.store.classes ∧
    (setDyn s i d).store.prices = s.store.prices ∧ (setDyn s i d).store.deny = s.store.deny ∧
    (setDyn s i d).store.denyCount = s.store.denyCount := by
  simp [setDyn]

@[simp] theorem setPart_frame (s : State) (i : Slot) (m : Option MinibarPart) :
    (setPart s i m).pending = s.pending ∧ (setPart s i m).time = s.time ∧ (setPart s i m).lines = s.lines ∧
    (setPart s i m).queue = s.queue ∧ (setPart s i m).tracker = s.tracker ∧ (setPart s i m).override = s.override ∧
    (setPart s i m).issue = s.issue ∧ (setPart s i m).minibar = s.minibar ∧ (setPart s i m).port = s.port ∧
    (setPart s i m).loader = s.loader ∧ (setPart s i m).pruner = s.pruner ∧ (setPart s i m).journal = s.journal ∧
    (setPart s i m).trunk = s.trunk ∧ (setPart s i m).startup = s.startup ∧ (setPart s i m).pins = s.pins ∧
    (setPart s i m).store.config = s.store.config ∧ (setPart s i m).store.doors = s.store.doors ∧
    (setPart s i m).store.rooms = s.store.rooms ∧ (setPart s i m).store.zones = s.store.zones ∧
    (setPart s i m).store.profiles = s.store.profiles ∧ (setPart s i m).store.classes = s.store.classes ∧
    (setPart s i m).store.prices = s.store.prices ∧ (setPart s i m).store.deny = s.store.deny ∧
    (setPart s i m).store.denyCount = s.store.denyCount := by
  simp [setPart]

@[simp] theorem appendRecord_frame (s : State) (r : Record) :
    (appendRecord s r).pending = s.pending ∧ (appendRecord s r).time = s.time ∧ (appendRecord s r).lines = s.lines ∧
    (appendRecord s r).queue = s.queue ∧ (appendRecord s r).tracker = s.tracker ∧
    (appendRecord s r).override = s.override ∧ (appendRecord s r).issue = s.issue ∧
    (appendRecord s r).minibar = s.minibar ∧ (appendRecord s r).store = s.store ∧ (appendRecord s r).port = s.port ∧
    (appendRecord s r).loader = s.loader ∧ (appendRecord s r).pruner = s.pruner ∧
    (appendRecord s r).trunk = s.trunk ∧ (appendRecord s r).startup = s.startup ∧ (appendRecord s r).pins = s.pins ∧
    (appendRecord s r).journal.push = s.journal.push ∧ (appendRecord s r).journal.batch = s.journal.batch ∧
    (appendRecord s r).journal.frozen = s.journal.frozen := by
  unfold appendRecord; split <;> simp

@[simp] theorem appendNode_frame (s : State) (k : RecordKind) (n : Node) (d : Detail) :
    (appendNode s k n d).pending = s.pending ∧ (appendNode s k n d).time = s.time ∧
    (appendNode s k n d).lines = s.lines ∧ (appendNode s k n d).queue = s.queue ∧
    (appendNode s k n d).tracker = s.tracker ∧ (appendNode s k n d).override = s.override ∧
    (appendNode s k n d).issue = s.issue ∧ (appendNode s k n d).minibar = s.minibar ∧
    (appendNode s k n d).store = s.store ∧ (appendNode s k n d).port = s.port ∧
    (appendNode s k n d).loader = s.loader ∧ (appendNode s k n d).pruner = s.pruner ∧
    (appendNode s k n d).trunk = s.trunk ∧ (appendNode s k n d).startup = s.startup ∧
    (appendNode s k n d).pins = s.pins ∧ (appendNode s k n d).journal.push = s.journal.push ∧
    (appendNode s k n d).journal.batch = s.journal.batch ∧ (appendNode s k n d).journal.frozen = s.journal.frozen := by
  simp [appendNode]

@[simp] theorem appendLine_frame (s : State) (k : RecordKind) (l : LineNo) (d : Detail) :
    (appendLine s k l d).pending = s.pending ∧ (appendLine s k l d).time = s.time ∧
    (appendLine s k l d).lines = s.lines ∧ (appendLine s k l d).queue = s.queue ∧
    (appendLine s k l d).tracker = s.tracker ∧ (appendLine s k l d).override = s.override ∧
    (appendLine s k l d).issue = s.issue ∧ (appendLine s k l d).minibar = s.minibar ∧
    (appendLine s k l d).store = s.store ∧ (appendLine s k l d).port = s.port ∧
    (appendLine s k l d).loader = s.loader ∧ (appendLine s k l d).pruner = s.pruner ∧
    (appendLine s k l d).trunk = s.trunk ∧ (appendLine s k l d).startup = s.startup ∧
    (appendLine s k l d).pins = s.pins ∧ (appendLine s k l d).journal.push = s.journal.push ∧
    (appendLine s k l d).journal.batch = s.journal.batch ∧ (appendLine s k l d).journal.frozen = s.journal.frozen := by
  simp [appendLine]

@[simp] theorem appendPlain_frame (s : State) (k : RecordKind) (d : Detail) :
    (appendPlain s k d).pending = s.pending ∧ (appendPlain s k d).time = s.time ∧
    (appendPlain s k d).lines = s.lines ∧ (appendPlain s k d).queue = s.queue ∧
    (appendPlain s k d).tracker = s.tracker ∧ (appendPlain s k d).override = s.override ∧
    (appendPlain s k d).issue = s.issue ∧ (appendPlain s k d).minibar = s.minibar ∧
    (appendPlain s k d).store = s.store ∧ (appendPlain s k d).port = s.port ∧
    (appendPlain s k d).loader = s.loader ∧ (appendPlain s k d).pruner = s.pruner ∧
    (appendPlain s k d).trunk = s.trunk ∧ (appendPlain s k d).startup = s.startup ∧
    (appendPlain s k d).pins = s.pins ∧ (appendPlain s k d).journal.push = s.journal.push ∧
    (appendPlain s k d).journal.batch = s.journal.batch ∧ (appendPlain s k d).journal.frozen = s.journal.frozen := by
  simp [appendPlain]

@[simp] theorem appendDeny_frame (s : State) (serial : Serial) (i : DenyIndication) (expiry : Option Minute) :
    (appendDeny s serial i expiry).pending = s.pending ∧ (appendDeny s serial i expiry).time = s.time ∧
    (appendDeny s serial i expiry).lines = s.lines ∧ (appendDeny s serial i expiry).queue = s.queue ∧
    (appendDeny s serial i expiry).tracker = s.tracker ∧ (appendDeny s serial i expiry).override = s.override ∧
    (appendDeny s serial i expiry).issue = s.issue ∧ (appendDeny s serial i expiry).minibar = s.minibar ∧
    (appendDeny s serial i expiry).store = s.store ∧ (appendDeny s serial i expiry).port = s.port ∧
    (appendDeny s serial i expiry).loader = s.loader ∧ (appendDeny s serial i expiry).pruner = s.pruner ∧
    (appendDeny s serial i expiry).trunk = s.trunk ∧ (appendDeny s serial i expiry).startup = s.startup ∧
    (appendDeny s serial i expiry).pins = s.pins ∧ (appendDeny s serial i expiry).journal.push = s.journal.push ∧
    (appendDeny s serial i expiry).journal.batch = s.journal.batch ∧
    (appendDeny s serial i expiry).journal.frozen = s.journal.frozen := by
  simp [appendDeny]

@[simp] theorem pushNotice_frame (s : State) (b : NoticeBody) :
    (pushNotice s b).pending = s.pending ∧ (pushNotice s b).time = s.time ∧ (pushNotice s b).lines = s.lines ∧
    (pushNotice s b).queue = s.queue ∧ (pushNotice s b).tracker = s.tracker ∧
    (pushNotice s b).override = s.override ∧ (pushNotice s b).issue = s.issue ∧
    (pushNotice s b).minibar = s.minibar ∧ (pushNotice s b).store = s.store ∧ (pushNotice s b).port = s.port ∧
    (pushNotice s b).loader = s.loader ∧ (pushNotice s b).pruner = s.pruner ∧ (pushNotice s b).journal = s.journal ∧
    (pushNotice s b).startup = s.startup ∧ (pushNotice s b).pins = s.pins ∧
    (pushNotice s b).trunk.chain = s.trunk.chain ∧ (pushNotice s b).trunk.relayDown = s.trunk.relayDown ∧
    (pushNotice s b).trunk.relayUp = s.trunk.relayUp ∧ (pushNotice s b).trunk.requests = s.trunk.requests ∧
    (pushNotice s b).trunk.inHand = s.trunk.inHand ∧ (pushNotice s b).trunk.outQueue = s.trunk.outQueue ∧
    (pushNotice s b).trunk.reserved = s.trunk.reserved ∧ (pushNotice s b).trunk.downAbsent = s.trunk.downAbsent ∧
    (pushNotice s b).trunk.lastError = s.trunk.lastError ∧ (pushNotice s b).trunk.upTx = s.trunk.upTx ∧
    (pushNotice s b).trunk.downTx = s.trunk.downTx := by
  unfold pushNotice; split <;> simp

@[simp] theorem fillReply_frame (s : State) (tag code : Byte) (a : Answer) :
    (fillReply s tag code a).pending = s.pending ∧ (fillReply s tag code a).time = s.time ∧
    (fillReply s tag code a).lines = s.lines ∧ (fillReply s tag code a).queue = s.queue ∧
    (fillReply s tag code a).tracker = s.tracker ∧ (fillReply s tag code a).override = s.override ∧
    (fillReply s tag code a).issue = s.issue ∧ (fillReply s tag code a).minibar = s.minibar ∧
    (fillReply s tag code a).store = s.store ∧ (fillReply s tag code a).port = s.port ∧
    (fillReply s tag code a).loader = s.loader ∧ (fillReply s tag code a).pruner = s.pruner ∧
    (fillReply s tag code a).journal = s.journal ∧ (fillReply s tag code a).startup = s.startup ∧
    (fillReply s tag code a).pins = s.pins ∧ (fillReply s tag code a).trunk.chain = s.trunk.chain ∧
    (fillReply s tag code a).trunk.relayDown = s.trunk.relayDown ∧
    (fillReply s tag code a).trunk.relayUp = s.trunk.relayUp ∧
    (fillReply s tag code a).trunk.requests = s.trunk.requests ∧
    (fillReply s tag code a).trunk.inHand = s.trunk.inHand ∧
    (fillReply s tag code a).trunk.notices = s.trunk.notices ∧
    (fillReply s tag code a).trunk.downAbsent = s.trunk.downAbsent ∧
    (fillReply s tag code a).trunk.lastError = s.trunk.lastError ∧
    (fillReply s tag code a).trunk.upTx = s.trunk.upTx ∧ (fillReply s tag code a).trunk.downTx = s.trunk.downTx := by
  simp [fillReply]

@[simp] theorem answerRequest_frame (s : State) (a : Answer) :
    (answerRequest s a).pending = s.pending ∧ (answerRequest s a).time = s.time ∧
    (answerRequest s a).lines = s.lines ∧ (answerRequest s a).queue = s.queue ∧
    (answerRequest s a).tracker = s.tracker ∧ (answerRequest s a).override = s.override ∧
    (answerRequest s a).issue = s.issue ∧ (answerRequest s a).minibar = s.minibar ∧
    (answerRequest s a).store = s.store ∧ (answerRequest s a).port = s.port ∧
    (answerRequest s a).loader = s.loader ∧ (answerRequest s a).pruner = s.pruner ∧
    (answerRequest s a).journal = s.journal ∧ (answerRequest s a).startup = s.startup ∧
    (answerRequest s a).pins = s.pins ∧ (answerRequest s a).trunk.chain = s.trunk.chain ∧
    (answerRequest s a).trunk.relayDown = s.trunk.relayDown ∧ (answerRequest s a).trunk.relayUp = s.trunk.relayUp ∧
    (answerRequest s a).trunk.requests = s.trunk.requests ∧ (answerRequest s a).trunk.notices = s.trunk.notices ∧
    (answerRequest s a).trunk.downAbsent = s.trunk.downAbsent ∧
    (answerRequest s a).trunk.lastError = s.trunk.lastError ∧ (answerRequest s a).trunk.upTx = s.trunk.upTx ∧
    (answerRequest s a).trunk.downTx = s.trunk.downTx := by
  unfold answerRequest; (repeat' split) <;> simp

@[simp] theorem setDeadlines_frame (s : State) (l : List Deadline) :
    (setDeadlines s l).pending = s.pending ∧ (setDeadlines s l).lines = s.lines ∧
    (setDeadlines s l).queue = s.queue ∧ (setDeadlines s l).tracker = s.tracker ∧
    (setDeadlines s l).override = s.override ∧ (setDeadlines s l).issue = s.issue ∧
    (setDeadlines s l).minibar = s.minibar ∧ (setDeadlines s l).store = s.store ∧ (setDeadlines s l).port = s.port ∧
    (setDeadlines s l).loader = s.loader ∧ (setDeadlines s l).pruner = s.pruner ∧
    (setDeadlines s l).journal = s.journal ∧ (setDeadlines s l).trunk = s.trunk ∧
    (setDeadlines s l).startup = s.startup ∧ (setDeadlines s l).pins = s.pins ∧
    (setDeadlines s l).time.tick = s.time.tick ∧ (setDeadlines s l).time.clock = s.time.clock ∧
    (setDeadlines s l).time.expiring = s.time.expiring ∧ (setDeadlines s l).time.minuteEvents = s.time.minuteEvents := by
  simp [setDeadlines]

@[simp] theorem armAt_frame (s : State) (n : Node) (k : DeadlineKind) (due : Tick) :
    (armAt s n k due).pending = s.pending ∧ (armAt s n k due).lines = s.lines ∧ (armAt s n k due).queue = s.queue ∧
    (armAt s n k due).tracker = s.tracker ∧ (armAt s n k due).override = s.override ∧
    (armAt s n k due).issue = s.issue ∧ (armAt s n k due).minibar = s.minibar ∧ (armAt s n k due).store = s.store ∧
    (armAt s n k due).port = s.port ∧ (armAt s n k due).loader = s.loader ∧ (armAt s n k due).pruner = s.pruner ∧
    (armAt s n k due).journal = s.journal ∧ (armAt s n k due).trunk = s.trunk ∧
    (armAt s n k due).startup = s.startup ∧ (armAt s n k due).pins = s.pins ∧
    (armAt s n k due).time.tick = s.time.tick ∧ (armAt s n k due).time.clock = s.time.clock ∧
    (armAt s n k due).time.expiring = s.time.expiring ∧ (armAt s n k due).time.minuteEvents = s.time.minuteEvents := by
  unfold armAt; split <;> simp

@[simp] theorem arm_frame (s : State) (n : Node) (k : DeadlineKind) (d : Tick) :
    (arm s n k d).pending = s.pending ∧ (arm s n k d).lines = s.lines ∧ (arm s n k d).queue = s.queue ∧
    (arm s n k d).tracker = s.tracker ∧ (arm s n k d).override = s.override ∧ (arm s n k d).issue = s.issue ∧
    (arm s n k d).minibar = s.minibar ∧ (arm s n k d).store = s.store ∧ (arm s n k d).port = s.port ∧
    (arm s n k d).loader = s.loader ∧ (arm s n k d).pruner = s.pruner ∧ (arm s n k d).journal = s.journal ∧
    (arm s n k d).trunk = s.trunk ∧ (arm s n k d).startup = s.startup ∧ (arm s n k d).pins = s.pins ∧
    (arm s n k d).time.tick = s.time.tick ∧ (arm s n k d).time.clock = s.time.clock ∧
    (arm s n k d).time.expiring = s.time.expiring ∧ (arm s n k d).time.minuteEvents = s.time.minuteEvents := by
  simp [arm]

@[simp] theorem cancel_frame (s : State) (n : Node) (k : DeadlineKind) :
    (cancel s n k).pending = s.pending ∧ (cancel s n k).lines = s.lines ∧ (cancel s n k).queue = s.queue ∧
    (cancel s n k).tracker = s.tracker ∧ (cancel s n k).override = s.override ∧ (cancel s n k).issue = s.issue ∧
    (cancel s n k).minibar = s.minibar ∧ (cancel s n k).store = s.store ∧ (cancel s n k).port = s.port ∧
    (cancel s n k).loader = s.loader ∧ (cancel s n k).pruner = s.pruner ∧ (cancel s n k).journal = s.journal ∧
    (cancel s n k).trunk = s.trunk ∧ (cancel s n k).startup = s.startup ∧ (cancel s n k).pins = s.pins ∧
    (cancel s n k).time.tick = s.time.tick ∧ (cancel s n k).time.clock = s.time.clock ∧
    (cancel s n k).time.expiring = s.time.expiring ∧ (cancel s n k).time.minuteEvents = s.time.minuteEvents := by
  simp [cancel]

@[simp] theorem cancelNode_frame (s : State) (n : Node) :
    (cancelNode s n).pending = s.pending ∧ (cancelNode s n).lines = s.lines ∧ (cancelNode s n).queue = s.queue ∧
    (cancelNode s n).tracker = s.tracker ∧ (cancelNode s n).override = s.override ∧
    (cancelNode s n).issue = s.issue ∧ (cancelNode s n).minibar = s.minibar ∧ (cancelNode s n).store = s.store ∧
    (cancelNode s n).port = s.port ∧ (cancelNode s n).loader = s.loader ∧ (cancelNode s n).pruner = s.pruner ∧
    (cancelNode s n).journal = s.journal ∧ (cancelNode s n).trunk = s.trunk ∧ (cancelNode s n).startup = s.startup ∧
    (cancelNode s n).pins = s.pins ∧ (cancelNode s n).time.tick = s.time.tick ∧
    (cancelNode s n).time.clock = s.time.clock ∧ (cancelNode s n).time.expiring = s.time.expiring ∧
    (cancelNode s n).time.minuteEvents = s.time.minuteEvents := by
  simp [cancelNode]

@[simp] theorem cancelDoors_frame (s : State) :
    (cancelDoors s).pending = s.pending ∧ (cancelDoors s).lines = s.lines ∧ (cancelDoors s).queue = s.queue ∧
    (cancelDoors s).tracker = s.tracker ∧ (cancelDoors s).override = s.override ∧ (cancelDoors s).issue = s.issue ∧
    (cancelDoors s).minibar = s.minibar ∧ (cancelDoors s).store = s.store ∧ (cancelDoors s).port = s.port ∧
    (cancelDoors s).loader = s.loader ∧ (cancelDoors s).pruner = s.pruner ∧ (cancelDoors s).journal = s.journal ∧
    (cancelDoors s).trunk = s.trunk ∧ (cancelDoors s).startup = s.startup ∧ (cancelDoors s).pins = s.pins ∧
    (cancelDoors s).time.tick = s.time.tick ∧ (cancelDoors s).time.clock = s.time.clock ∧
    (cancelDoors s).time.expiring = s.time.expiring ∧ (cancelDoors s).time.minuteEvents = s.time.minuteEvents := by
  simp [cancelDoors]

@[simp] theorem setDeny_frame (s : State) (l : List DenyEntry) :
    (setDeny s l).pending = s.pending ∧ (setDeny s l).time = s.time ∧ (setDeny s l).lines = s.lines ∧
    (setDeny s l).queue = s.queue ∧ (setDeny s l).tracker = s.tracker ∧ (setDeny s l).override = s.override ∧
    (setDeny s l).issue = s.issue ∧ (setDeny s l).minibar = s.minibar ∧ (setDeny s l).port = s.port ∧
    (setDeny s l).loader = s.loader ∧ (setDeny s l).pruner = s.pruner ∧ (setDeny s l).journal = s.journal ∧
    (setDeny s l).trunk = s.trunk ∧ (setDeny s l).startup = s.startup ∧ (setDeny s l).pins = s.pins ∧
    (setDeny s l).store.config = s.store.config ∧ (setDeny s l).store.doors = s.store.doors ∧
    (setDeny s l).store.rooms = s.store.rooms ∧ (setDeny s l).store.zones = s.store.zones ∧
    (setDeny s l).store.profiles = s.store.profiles ∧ (setDeny s l).store.classes = s.store.classes ∧
    (setDeny s l).store.prices = s.store.prices ∧ (setDeny s l).store.dyns = s.store.dyns := by
  simp [setDeny]

@[simp] theorem setCtx_frame (s : State) (k : Fin 2) (c : IssueCtx) :
    (setCtx s k c).pending = s.pending ∧ (setCtx s k c).time = s.time ∧ (setCtx s k c).lines = s.lines ∧
    (setCtx s k c).queue = s.queue ∧ (setCtx s k c).tracker = s.tracker ∧ (setCtx s k c).override = s.override ∧
    (setCtx s k c).minibar = s.minibar ∧ (setCtx s k c).store = s.store ∧ (setCtx s k c).port = s.port ∧
    (setCtx s k c).loader = s.loader ∧ (setCtx s k c).pruner = s.pruner ∧ (setCtx s k c).journal = s.journal ∧
    (setCtx s k c).trunk = s.trunk ∧ (setCtx s k c).startup = s.startup ∧ (setCtx s k c).pins = s.pins ∧
    (setCtx s k c).issue.work = s.issue.work := by
  simp [setCtx]

@[simp] theorem setLine_frame (s : State) (l : LineNo) (c : LineCtl) :
    (setLine s l c).pending = s.pending ∧ (setLine s l c).time = s.time ∧ (setLine s l c).queue = s.queue ∧
    (setLine s l c).tracker = s.tracker ∧ (setLine s l c).override = s.override ∧ (setLine s l c).issue = s.issue ∧
    (setLine s l c).minibar = s.minibar ∧ (setLine s l c).store = s.store ∧ (setLine s l c).port = s.port ∧
    (setLine s l c).loader = s.loader ∧ (setLine s l c).pruner = s.pruner ∧ (setLine s l c).journal = s.journal ∧
    (setLine s l c).trunk = s.trunk ∧ (setLine s l c).startup = s.startup ∧ (setLine s l c).pins = s.pins := by
  simp [setLine]

@[simp] theorem setNode_frame (s : State) (n : Node) (x : NodeCtl) :
    (setNode s n x).pending = s.pending ∧ (setNode s n x).time = s.time ∧ (setNode s n x).queue = s.queue ∧
    (setNode s n x).tracker = s.tracker ∧ (setNode s n x).override = s.override ∧ (setNode s n x).issue = s.issue ∧
    (setNode s n x).minibar = s.minibar ∧ (setNode s n x).store = s.store ∧ (setNode s n x).port = s.port ∧
    (setNode s n x).loader = s.loader ∧ (setNode s n x).pruner = s.pruner ∧ (setNode s n x).journal = s.journal ∧
    (setNode s n x).trunk = s.trunk ∧ (setNode s n x).startup = s.startup ∧ (setNode s n x).pins = s.pins := by
  simp [setNode]

@[simp] theorem setTrack_frame (s : State) (n : Node) (d : DoorTrack) :
    (setTrack s n d).pending = s.pending ∧ (setTrack s n d).time = s.time ∧ (setTrack s n d).lines = s.lines ∧
    (setTrack s n d).queue = s.queue ∧ (setTrack s n d).override = s.override ∧ (setTrack s n d).issue = s.issue ∧
    (setTrack s n d).minibar = s.minibar ∧ (setTrack s n d).store = s.store ∧ (setTrack s n d).port = s.port ∧
    (setTrack s n d).loader = s.loader ∧ (setTrack s n d).pruner = s.pruner ∧ (setTrack s n d).journal = s.journal ∧
    (setTrack s n d).trunk = s.trunk ∧ (setTrack s n d).startup = s.startup ∧ (setTrack s n d).pins = s.pins ∧
    (setTrack s n d).tracker.writes = s.tracker.writes := by
  simp [setTrack]

@[simp] theorem addMinibarWork_frame (s : State) (w : MinibarWork) :
    (addMinibarWork s w).pending = s.pending ∧ (addMinibarWork s w).time = s.time ∧
    (addMinibarWork s w).lines = s.lines ∧ (addMinibarWork s w).queue = s.queue ∧
    (addMinibarWork s w).tracker = s.tracker ∧ (addMinibarWork s w).override = s.override ∧
    (addMinibarWork s w).issue = s.issue ∧ (addMinibarWork s w).store = s.store ∧
    (addMinibarWork s w).port = s.port ∧ (addMinibarWork s w).loader = s.loader ∧
    (addMinibarWork s w).pruner = s.pruner ∧ (addMinibarWork s w).journal = s.journal ∧
    (addMinibarWork s w).trunk = s.trunk ∧ (addMinibarWork s w).startup = s.startup ∧
    (addMinibarWork s w).pins = s.pins := by
  simp [addMinibarWork]

@[simp] theorem setInHand_frame (s : State) (op : Option PortOp) :
    (setInHand s op).pending = s.pending ∧ (setInHand s op).time = s.time ∧ (setInHand s op).lines = s.lines ∧
    (setInHand s op).queue = s.queue ∧ (setInHand s op).tracker = s.tracker ∧
    (setInHand s op).override = s.override ∧ (setInHand s op).issue = s.issue ∧
    (setInHand s op).minibar = s.minibar ∧ (setInHand s op).store = s.store ∧ (setInHand s op).loader = s.loader ∧
    (setInHand s op).pruner = s.pruner ∧ (setInHand s op).journal = s.journal ∧ (setInHand s op).trunk = s.trunk ∧
    (setInHand s op).startup = s.startup ∧ (setInHand s op).pins = s.pins := by
  simp [setInHand]

@[simp] theorem appendMinibar_frame (s : State) (i : Slot) (k : RecordKind) (d : Detail) :
    (appendMinibar s i k d).pending = s.pending ∧ (appendMinibar s i k d).time = s.time ∧
    (appendMinibar s i k d).lines = s.lines ∧ (appendMinibar s i k d).queue = s.queue ∧
    (appendMinibar s i k d).tracker = s.tracker ∧ (appendMinibar s i k d).override = s.override ∧
    (appendMinibar s i k d).issue = s.issue ∧ (appendMinibar s i k d).minibar = s.minibar ∧
    (appendMinibar s i k d).store = s.store ∧ (appendMinibar s i k d).port = s.port ∧
    (appendMinibar s i k d).loader = s.loader ∧ (appendMinibar s i k d).pruner = s.pruner ∧
    (appendMinibar s i k d).trunk = s.trunk ∧ (appendMinibar s i k d).startup = s.startup ∧
    (appendMinibar s i k d).pins = s.pins ∧ (appendMinibar s i k d).journal.push = s.journal.push ∧
    (appendMinibar s i k d).journal.batch = s.journal.batch ∧
    (appendMinibar s i k d).journal.frozen = s.journal.frozen := by
  simp [appendMinibar]

@[simp] theorem commitCharge_frame (i : Slot) (s : State) (c : Charge) :
    (commitCharge i s c).pending = s.pending ∧ (commitCharge i s c).time = s.time ∧
    (commitCharge i s c).lines = s.lines ∧ (commitCharge i s c).queue = s.queue ∧
    (commitCharge i s c).tracker = s.tracker ∧ (commitCharge i s c).override = s.override ∧
    (commitCharge i s c).issue = s.issue ∧ (commitCharge i s c).minibar = s.minibar ∧
    (commitCharge i s c).port = s.port ∧ (commitCharge i s c).loader = s.loader ∧
    (commitCharge i s c).pruner = s.pruner ∧ (commitCharge i s c).trunk = s.trunk ∧
    (commitCharge i s c).startup = s.startup ∧ (commitCharge i s c).pins = s.pins ∧
    (commitCharge i s c).store.config = s.store.config ∧ (commitCharge i s c).store.doors = s.store.doors ∧
    (commitCharge i s c).store.rooms = s.store.rooms ∧ (commitCharge i s c).store.zones = s.store.zones ∧
    (commitCharge i s c).store.profiles = s.store.profiles ∧ (commitCharge i s c).store.classes = s.store.classes ∧
    (commitCharge i s c).store.prices = s.store.prices ∧ (commitCharge i s c).store.deny = s.store.deny ∧
    (commitCharge i s c).store.denyCount = s.store.denyCount ∧ (commitCharge i s c).journal.push = s.journal.push ∧
    (commitCharge i s c).journal.batch = s.journal.batch ∧ (commitCharge i s c).journal.frozen = s.journal.frozen := by
  unfold commitCharge; dsimp only; (repeat' split) <;> simp

@[simp] theorem foldl_commitCharge_frame (i : Slot) (l : List Charge) (s : State) :
    (l.foldl (commitCharge i) s).pending = s.pending ∧ (l.foldl (commitCharge i) s).time = s.time ∧
    (l.foldl (commitCharge i) s).lines = s.lines ∧ (l.foldl (commitCharge i) s).queue = s.queue ∧
    (l.foldl (commitCharge i) s).tracker = s.tracker ∧ (l.foldl (commitCharge i) s).override = s.override ∧
    (l.foldl (commitCharge i) s).issue = s.issue ∧ (l.foldl (commitCharge i) s).minibar = s.minibar ∧
    (l.foldl (commitCharge i) s).port = s.port ∧ (l.foldl (commitCharge i) s).loader = s.loader ∧
    (l.foldl (commitCharge i) s).pruner = s.pruner ∧ (l.foldl (commitCharge i) s).trunk = s.trunk ∧
    (l.foldl (commitCharge i) s).startup = s.startup ∧ (l.foldl (commitCharge i) s).pins = s.pins ∧
    (l.foldl (commitCharge i) s).store.config = s.store.config ∧
    (l.foldl (commitCharge i) s).store.doors = s.store.doors ∧
    (l.foldl (commitCharge i) s).store.rooms = s.store.rooms ∧
    (l.foldl (commitCharge i) s).store.zones = s.store.zones ∧
    (l.foldl (commitCharge i) s).store.profiles = s.store.profiles ∧
    (l.foldl (commitCharge i) s).store.classes = s.store.classes ∧
    (l.foldl (commitCharge i) s).store.prices = s.store.prices ∧
    (l.foldl (commitCharge i) s).store.deny = s.store.deny ∧
    (l.foldl (commitCharge i) s).store.denyCount = s.store.denyCount ∧
    (l.foldl (commitCharge i) s).journal.push = s.journal.push ∧
    (l.foldl (commitCharge i) s).journal.batch = s.journal.batch ∧
    (l.foldl (commitCharge i) s).journal.frozen = s.journal.frozen := ⟨foldl_keeps (fun s => s.pending) _ (by simp) _ _,
    foldl_keeps (fun s => s.time) _ (by simp) _ _,
    foldl_keeps (fun s => s.lines) _ (by simp) _ _,
    foldl_keeps (fun s => s.queue) _ (by simp) _ _,
    foldl_keeps (fun s => s.tracker) _ (by simp) _ _,
    foldl_keeps (fun s => s.override) _ (by simp) _ _,
    foldl_keeps (fun s => s.issue) _ (by simp) _ _,
    foldl_keeps (fun s => s.minibar) _ (by simp) _ _,
    foldl_keeps (fun s => s.port) _ (by simp) _ _,
    foldl_keeps (fun s => s.loader) _ (by simp) _ _,
    foldl_keeps (fun s => s.pruner) _ (by simp) _ _,
    foldl_keeps (fun s => s.trunk) _ (by simp) _ _,
    foldl_keeps (fun s => s.startup) _ (by simp) _ _,
    foldl_keeps (fun s => s.pins) _ (by simp) _ _,
    foldl_keeps (fun s => s.store.config) _ (by simp) _ _,
    foldl_keeps (fun s => s.store.doors) _ (by simp) _ _,
    foldl_keeps (fun s => s.store.rooms) _ (by simp) _ _,
    foldl_keeps (fun s => s.store.zones) _ (by simp) _ _,
    foldl_keeps (fun s => s.store.profiles) _ (by simp) _ _,
    foldl_keeps (fun s => s.store.classes) _ (by simp) _ _,
    foldl_keeps (fun s => s.store.prices) _ (by simp) _ _,
    foldl_keeps (fun s => s.store.deny) _ (by simp) _ _,
    foldl_keeps (fun s => s.store.denyCount) _ (by simp) _ _,
    foldl_keeps (fun s => s.journal.push) _ (by simp) _ _,
    foldl_keeps (fun s => s.journal.batch) _ (by simp) _ _,
    foldl_keeps (fun s => s.journal.frozen) _ (by simp) _ _⟩

@[simp] theorem commitWhere_frame (s : State) (i : Slot) (due : Charge → Bool) :
    (commitWhere s i due).pending = s.pending ∧ (commitWhere s i due).time = s.time ∧
    (commitWhere s i due).lines = s.lines ∧ (commitWhere s i due).queue = s.queue ∧
    (commitWhere s i due).tracker = s.tracker ∧ (commitWhere s i due).override = s.override ∧
    (commitWhere s i due).issue = s.issue ∧ (commitWhere s i due).minibar = s.minibar ∧
    (commitWhere s i due).port = s.port ∧ (commitWhere s i due).loader = s.loader ∧
    (commitWhere s i due).pruner = s.pruner ∧ (commitWhere s i due).trunk = s.trunk ∧
    (commitWhere s i due).startup = s.startup ∧ (commitWhere s i due).pins = s.pins ∧
    (commitWhere s i due).store.config = s.store.config ∧ (commitWhere s i due).store.doors = s.store.doors ∧
    (commitWhere s i due).store.rooms = s.store.rooms ∧ (commitWhere s i due).store.zones = s.store.zones ∧
    (commitWhere s i due).store.profiles = s.store.profiles ∧
    (commitWhere s i due).store.classes = s.store.classes ∧ (commitWhere s i due).store.prices = s.store.prices ∧
    (commitWhere s i due).store.deny = s.store.deny ∧ (commitWhere s i due).store.denyCount = s.store.denyCount ∧
    (commitWhere s i due).journal.push = s.journal.push ∧ (commitWhere s i due).journal.batch = s.journal.batch ∧
    (commitWhere s i due).journal.frozen = s.journal.frozen := by
  unfold commitWhere; split <;> simp

@[simp] theorem commitAll_frame (s : State) (i : Slot) :
    (commitAll s i).pending = s.pending ∧ (commitAll s i).time = s.time ∧ (commitAll s i).lines = s.lines ∧
    (commitAll s i).queue = s.queue ∧ (commitAll s i).tracker = s.tracker ∧ (commitAll s i).override = s.override ∧
    (commitAll s i).issue = s.issue ∧ (commitAll s i).minibar = s.minibar ∧ (commitAll s i).port = s.port ∧
    (commitAll s i).loader = s.loader ∧ (commitAll s i).pruner = s.pruner ∧ (commitAll s i).trunk = s.trunk ∧
    (commitAll s i).startup = s.startup ∧ (commitAll s i).pins = s.pins ∧
    (commitAll s i).store.config = s.store.config ∧ (commitAll s i).store.doors = s.store.doors ∧
    (commitAll s i).store.rooms = s.store.rooms ∧ (commitAll s i).store.zones = s.store.zones ∧
    (commitAll s i).store.profiles = s.store.profiles ∧ (commitAll s i).store.classes = s.store.classes ∧
    (commitAll s i).store.prices = s.store.prices ∧ (commitAll s i).store.deny = s.store.deny ∧
    (commitAll s i).store.denyCount = s.store.denyCount ∧ (commitAll s i).journal.push = s.journal.push ∧
    (commitAll s i).journal.batch = s.journal.batch ∧ (commitAll s i).journal.frozen = s.journal.frozen := by
  simp [commitAll]

@[simp] theorem setReturn_frame (s : State) (i : Slot) :
    (setReturn s i).pending = s.pending ∧ (setReturn s i).lines = s.lines ∧ (setReturn s i).queue = s.queue ∧
    (setReturn s i).tracker = s.tracker ∧ (setReturn s i).override = s.override ∧ (setReturn s i).issue = s.issue ∧
    (setReturn s i).minibar = s.minibar ∧ (setReturn s i).store = s.store ∧ (setReturn s i).port = s.port ∧
    (setReturn s i).loader = s.loader ∧ (setReturn s i).pruner = s.pruner ∧ (setReturn s i).journal = s.journal ∧
    (setReturn s i).trunk = s.trunk ∧ (setReturn s i).startup = s.startup ∧ (setReturn s i).pins = s.pins ∧
    (setReturn s i).time.tick = s.time.tick ∧ (setReturn s i).time.clock = s.time.clock ∧
    (setReturn s i).time.expiring = s.time.expiring ∧ (setReturn s i).time.minuteEvents = s.time.minuteEvents := by
  unfold setReturn; (repeat' split) <;> simp

@[simp] theorem endRestock_frame (s : State) (i : Slot) :
    (endRestock s i).pending = s.pending ∧ (endRestock s i).time = s.time ∧ (endRestock s i).lines = s.lines ∧
    (endRestock s i).queue = s.queue ∧ (endRestock s i).tracker = s.tracker ∧
    (endRestock s i).override = s.override ∧ (endRestock s i).issue = s.issue ∧
    (endRestock s i).minibar = s.minibar ∧ (endRestock s i).port = s.port ∧ (endRestock s i).loader = s.loader ∧
    (endRestock s i).pruner = s.pruner ∧ (endRestock s i).trunk = s.trunk ∧ (endRestock s i).startup = s.startup ∧
    (endRestock s i).pins = s.pins ∧ (endRestock s i).store.config = s.store.config ∧
    (endRestock s i).store.doors = s.store.doors ∧ (endRestock s i).store.rooms = s.store.rooms ∧
    (endRestock s i).store.zones = s.store.zones ∧ (endRestock s i).store.profiles = s.store.profiles ∧
    (endRestock s i).store.classes = s.store.classes ∧ (endRestock s i).store.prices = s.store.prices ∧
    (endRestock s i).store.deny = s.store.deny ∧ (endRestock s i).store.denyCount = s.store.denyCount ∧
    (endRestock s i).journal.push = s.journal.push ∧ (endRestock s i).journal.batch = s.journal.batch ∧
    (endRestock s i).journal.frozen = s.journal.frozen := by
  unfold endRestock; split <;> simp

@[simp] theorem relatchEnd_frame (s : State) (i : Slot) :
    (relatchEnd s i).pending = s.pending ∧ (relatchEnd s i).time = s.time ∧ (relatchEnd s i).lines = s.lines ∧
    (relatchEnd s i).queue = s.queue ∧ (relatchEnd s i).tracker = s.tracker ∧
    (relatchEnd s i).override = s.override ∧ (relatchEnd s i).issue = s.issue ∧
    (relatchEnd s i).minibar = s.minibar ∧ (relatchEnd s i).port = s.port ∧ (relatchEnd s i).loader = s.loader ∧
    (relatchEnd s i).pruner = s.pruner ∧ (relatchEnd s i).trunk = s.trunk ∧ (relatchEnd s i).startup = s.startup ∧
    (relatchEnd s i).pins = s.pins ∧ (relatchEnd s i).store.config = s.store.config ∧
    (relatchEnd s i).store.doors = s.store.doors ∧ (relatchEnd s i).store.rooms = s.store.rooms ∧
    (relatchEnd s i).store.zones = s.store.zones ∧ (relatchEnd s i).store.profiles = s.store.profiles ∧
    (relatchEnd s i).store.classes = s.store.classes ∧ (relatchEnd s i).store.prices = s.store.prices ∧
    (relatchEnd s i).store.deny = s.store.deny ∧ (relatchEnd s i).store.denyCount = s.store.denyCount ∧
    (relatchEnd s i).journal.push = s.journal.push ∧ (relatchEnd s i).journal.batch = s.journal.batch ∧
    (relatchEnd s i).journal.frozen = s.journal.frozen := by
  unfold relatchEnd; (repeat' split) <;> simp

@[simp] theorem emptyCandidate_frame (s : State) (i : Slot) :
    (emptyCandidate s i).pending = s.pending ∧ (emptyCandidate s i).time = s.time ∧
    (emptyCandidate s i).lines = s.lines ∧ (emptyCandidate s i).queue = s.queue ∧
    (emptyCandidate s i).tracker = s.tracker ∧ (emptyCandidate s i).override = s.override ∧
    (emptyCandidate s i).issue = s.issue ∧ (emptyCandidate s i).minibar = s.minibar ∧
    (emptyCandidate s i).port = s.port ∧ (emptyCandidate s i).loader = s.loader ∧
    (emptyCandidate s i).pruner = s.pruner ∧ (emptyCandidate s i).journal = s.journal ∧
    (emptyCandidate s i).trunk = s.trunk ∧ (emptyCandidate s i).startup = s.startup ∧
    (emptyCandidate s i).pins = s.pins ∧ (emptyCandidate s i).store.config = s.store.config ∧
    (emptyCandidate s i).store.doors = s.store.doors ∧ (emptyCandidate s i).store.rooms = s.store.rooms ∧
    (emptyCandidate s i).store.zones = s.store.zones ∧ (emptyCandidate s i).store.profiles = s.store.profiles ∧
    (emptyCandidate s i).store.classes = s.store.classes ∧ (emptyCandidate s i).store.prices = s.store.prices ∧
    (emptyCandidate s i).store.deny = s.store.deny ∧ (emptyCandidate s i).store.denyCount = s.store.denyCount := by
  unfold emptyCandidate; split <;> simp

@[simp] theorem processRemoval_frame (i : Slot) (s : State) (c : Fin 8) :
    (processRemoval i s c).pending = s.pending ∧ (processRemoval i s c).time.tick = s.time.tick ∧
    (processRemoval i s c).time.clock = s.time.clock ∧
    (processRemoval i s c).time.expiring = s.time.expiring ∧
    (processRemoval i s c).time.minuteEvents = s.time.minuteEvents ∧
    (processRemoval i s c).lines = s.lines ∧ (processRemoval i s c).queue = s.queue ∧
    (processRemoval i s c).tracker = s.tracker ∧ (processRemoval i s c).override = s.override ∧
    (processRemoval i s c).issue = s.issue ∧ (processRemoval i s c).minibar = s.minibar ∧
    (processRemoval i s c).port = s.port ∧ (processRemoval i s c).loader = s.loader ∧
    (processRemoval i s c).pruner = s.pruner ∧ (processRemoval i s c).trunk = s.trunk ∧
    (processRemoval i s c).startup = s.startup ∧ (processRemoval i s c).pins = s.pins ∧
    (processRemoval i s c).store.config = s.store.config ∧ (processRemoval i s c).store.doors = s.store.doors ∧
    (processRemoval i s c).store.rooms = s.store.rooms ∧ (processRemoval i s c).store.zones = s.store.zones ∧
    (processRemoval i s c).store.profiles = s.store.profiles ∧
    (processRemoval i s c).store.classes = s.store.classes ∧ (processRemoval i s c).store.prices = s.store.prices ∧
    (processRemoval i s c).store.deny = s.store.deny ∧ (processRemoval i s c).store.denyCount = s.store.denyCount ∧
    (processRemoval i s c).journal.push = s.journal.push ∧ (processRemoval i s c).journal.batch = s.journal.batch ∧
    (processRemoval i s c).journal.frozen = s.journal.frozen := by
  unfold processRemoval; dsimp only; (repeat' split) <;> simp

@[simp] theorem processReturn_frame (i : Slot) (s : State) (c : Fin 8) :
    (processReturn i s c).pending = s.pending ∧ (processReturn i s c).time.tick = s.time.tick ∧
    (processReturn i s c).time.clock = s.time.clock ∧
    (processReturn i s c).time.expiring = s.time.expiring ∧
    (processReturn i s c).time.minuteEvents = s.time.minuteEvents ∧
    (processReturn i s c).lines = s.lines ∧ (processReturn i s c).queue = s.queue ∧
    (processReturn i s c).tracker = s.tracker ∧ (processReturn i s c).override = s.override ∧
    (processReturn i s c).issue = s.issue ∧ (processReturn i s c).minibar = s.minibar ∧
    (processReturn i s c).port = s.port ∧ (processReturn i s c).loader = s.loader ∧
    (processReturn i s c).pruner = s.pruner ∧ (processReturn i s c).trunk = s.trunk ∧
    (processReturn i s c).startup = s.startup ∧ (processReturn i s c).pins = s.pins ∧
    (processReturn i s c).store.config = s.store.config ∧ (processReturn i s c).store.doors = s.store.doors ∧
    (processReturn i s c).store.rooms = s.store.rooms ∧ (processReturn i s c).store.zones = s.store.zones ∧
    (processReturn i s c).store.profiles = s.store.profiles ∧
    (processReturn i s c).store.classes = s.store.classes ∧ (processReturn i s c).store.prices = s.store.prices ∧
    (processReturn i s c).store.deny = s.store.deny ∧ (processReturn i s c).store.denyCount = s.store.denyCount ∧
    (processReturn i s c).journal.push = s.journal.push ∧ (processReturn i s c).journal.batch = s.journal.batch ∧
    (processReturn i s c).journal.frozen = s.journal.frozen := by
  unfold processReturn; (repeat' split) <;> simp

@[simp] theorem processCompartment_frame (i : Slot) (before after : Compartments) (s : State) (c : Fin 8) :
    (processCompartment i before after s c).pending = s.pending ∧
    (processCompartment i before after s c).time.tick = s.time.tick ∧
    (processCompartment i before after s c).time.clock = s.time.clock ∧
    (processCompartment i before after s c).time.expiring = s.time.expiring ∧
    (processCompartment i before after s c).time.minuteEvents = s.time.minuteEvents ∧
    (processCompartment i before after s c).lines = s.lines ∧
    (processCompartment i before after s c).queue = s.queue ∧
    (processCompartment i before after s c).tracker = s.tracker ∧
    (processCompartment i before after s c).override = s.override ∧
    (processCompartment i before after s c).issue = s.issue ∧
    (processCompartment i before after s c).minibar = s.minibar ∧
    (processCompartment i before after s c).port = s.port ∧
    (processCompartment i before after s c).loader = s.loader ∧
    (processCompartment i before after s c).pruner = s.pruner ∧
    (processCompartment i before after s c).trunk = s.trunk ∧
    (processCompartment i before after s c).startup = s.startup ∧
    (processCompartment i before after s c).pins = s.pins ∧
    (processCompartment i before after s c).store.config = s.store.config ∧
    (processCompartment i before after s c).store.doors = s.store.doors ∧
    (processCompartment i before after s c).store.rooms = s.store.rooms ∧
    (processCompartment i before after s c).store.zones = s.store.zones ∧
    (processCompartment i before after s c).store.profiles = s.store.profiles ∧
    (processCompartment i before after s c).store.classes = s.store.classes ∧
    (processCompartment i before after s c).store.prices = s.store.prices ∧
    (processCompartment i before after s c).store.deny = s.store.deny ∧
    (processCompartment i before after s c).store.denyCount = s.store.denyCount ∧
    (processCompartment i before after s c).journal.push = s.journal.push ∧
    (processCompartment i before after s c).journal.batch = s.journal.batch ∧
    (processCompartment i before after s c).journal.frozen = s.journal.frozen := by
  unfold processCompartment; (repeat' split) <;> simp

@[simp] theorem foldl_processCompartment_frame (i : Slot) (a b : Compartments) (l : List (Fin 8)) (s : State) :
    (l.foldl (processCompartment i a b) s).pending = s.pending ∧
    (l.foldl (processCompartment i a b) s).time.tick = s.time.tick ∧
    (l.foldl (processCompartment i a b) s).time.clock = s.time.clock ∧
    (l.foldl (processCompartment i a b) s).time.expiring = s.time.expiring ∧
    (l.foldl (processCompartment i a b) s).time.minuteEvents = s.time.minuteEvents ∧ (l.foldl (processCompartment i a b) s).lines = s.lines ∧
    (l.foldl (processCompartment i a b) s).queue = s.queue ∧
    (l.foldl (processCompartment i a b) s).tracker = s.tracker ∧
    (l.foldl (processCompartment i a b) s).override = s.override ∧
    (l.foldl (processCompartment i a b) s).issue = s.issue ∧
    (l.foldl (processCompartment i a b) s).minibar = s.minibar ∧
    (l.foldl (processCompartment i a b) s).port = s.port ∧
    (l.foldl (processCompartment i a b) s).loader = s.loader ∧
    (l.foldl (processCompartment i a b) s).pruner = s.pruner ∧
    (l.foldl (processCompartment i a b) s).trunk = s.trunk ∧
    (l.foldl (processCompartment i a b) s).startup = s.startup ∧
    (l.foldl (processCompartment i a b) s).pins = s.pins ∧
    (l.foldl (processCompartment i a b) s).store.config = s.store.config ∧
    (l.foldl (processCompartment i a b) s).store.doors = s.store.doors ∧
    (l.foldl (processCompartment i a b) s).store.rooms = s.store.rooms ∧
    (l.foldl (processCompartment i a b) s).store.zones = s.store.zones ∧
    (l.foldl (processCompartment i a b) s).store.profiles = s.store.profiles ∧
    (l.foldl (processCompartment i a b) s).store.classes = s.store.classes ∧
    (l.foldl (processCompartment i a b) s).store.prices = s.store.prices ∧
    (l.foldl (processCompartment i a b) s).store.deny = s.store.deny ∧
    (l.foldl (processCompartment i a b) s).store.denyCount = s.store.denyCount ∧
    (l.foldl (processCompartment i a b) s).journal.push = s.journal.push ∧
    (l.foldl (processCompartment i a b) s).journal.batch = s.journal.batch ∧
    (l.foldl (processCompartment i a b) s).journal.frozen = s.journal.frozen := ⟨foldl_keeps (fun s => s.pending) _ (by simp) _ _,
    foldl_keeps (fun s => s.time.tick) _ (by simp) _ _,
    foldl_keeps (fun s => s.time.clock) _ (by simp) _ _,
    foldl_keeps (fun s => s.time.expiring) _ (by simp) _ _,
    foldl_keeps (fun s => s.time.minuteEvents) _ (by simp) _ _,
    foldl_keeps (fun s => s.lines) _ (by simp) _ _,
    foldl_keeps (fun s => s.queue) _ (by simp) _ _,
    foldl_keeps (fun s => s.tracker) _ (by simp) _ _,
    foldl_keeps (fun s => s.override) _ (by simp) _ _,
    foldl_keeps (fun s => s.issue) _ (by simp) _ _,
    foldl_keeps (fun s => s.minibar) _ (by simp) _ _,
    foldl_keeps (fun s => s.port) _ (by simp) _ _,
    foldl_keeps (fun s => s.loader) _ (by simp) _ _,
    foldl_keeps (fun s => s.pruner) _ (by simp) _ _,
    foldl_keeps (fun s => s.trunk) _ (by simp) _ _,
    foldl_keeps (fun s => s.startup) _ (by simp) _ _,
    foldl_keeps (fun s => s.pins) _ (by simp) _ _,
    foldl_keeps (fun s => s.store.config) _ (by simp) _ _,
    foldl_keeps (fun s => s.store.doors) _ (by simp) _ _,
    foldl_keeps (fun s => s.store.rooms) _ (by simp) _ _,
    foldl_keeps (fun s => s.store.zones) _ (by simp) _ _,
    foldl_keeps (fun s => s.store.profiles) _ (by simp) _ _,
    foldl_keeps (fun s => s.store.classes) _ (by simp) _ _,
    foldl_keeps (fun s => s.store.prices) _ (by simp) _ _,
    foldl_keeps (fun s => s.store.deny) _ (by simp) _ _,
    foldl_keeps (fun s => s.store.denyCount) _ (by simp) _ _,
    foldl_keeps (fun s => s.journal.push) _ (by simp) _ _,
    foldl_keeps (fun s => s.journal.batch) _ (by simp) _ _,
    foldl_keeps (fun s => s.journal.frozen) _ (by simp) _ _⟩

@[simp] theorem applyReport_frame (s : State) (i : Slot) (set : Compartments) :
    (applyReport s i set).pending = s.pending ∧ (applyReport s i set).time.tick = s.time.tick ∧
    (applyReport s i set).time.clock = s.time.clock ∧
    (applyReport s i set).time.expiring = s.time.expiring ∧
    (applyReport s i set).time.minuteEvents = s.time.minuteEvents ∧
    (applyReport s i set).lines = s.lines ∧ (applyReport s i set).queue = s.queue ∧
    (applyReport s i set).tracker = s.tracker ∧ (applyReport s i set).override = s.override ∧
    (applyReport s i set).issue = s.issue ∧ (applyReport s i set).minibar = s.minibar ∧
    (applyReport s i set).port = s.port ∧ (applyReport s i set).loader = s.loader ∧
    (applyReport s i set).pruner = s.pruner ∧ (applyReport s i set).trunk = s.trunk ∧
    (applyReport s i set).startup = s.startup ∧ (applyReport s i set).pins = s.pins ∧
    (applyReport s i set).store.config = s.store.config ∧ (applyReport s i set).store.doors = s.store.doors ∧
    (applyReport s i set).store.rooms = s.store.rooms ∧ (applyReport s i set).store.zones = s.store.zones ∧
    (applyReport s i set).store.profiles = s.store.profiles ∧
    (applyReport s i set).store.classes = s.store.classes ∧ (applyReport s i set).store.prices = s.store.prices ∧
    (applyReport s i set).store.deny = s.store.deny ∧ (applyReport s i set).store.denyCount = s.store.denyCount ∧
    (applyReport s i set).journal.push = s.journal.push ∧ (applyReport s i set).journal.batch = s.journal.batch ∧
    (applyReport s i set).journal.frozen = s.journal.frozen := by
  unfold applyReport; dsimp only; (repeat' split) <;> simp

@[simp] theorem applyItem_frame (s : State) (n : Node) (first : Compartments) (second : Option Compartments) :
    (applyItem s n first second).pending = s.pending ∧ (applyItem s n first second).lines = s.lines ∧
    (applyItem s n first second).queue = s.queue ∧ (applyItem s n first second).tracker = s.tracker ∧
    (applyItem s n first second).override = s.override ∧ (applyItem s n first second).issue = s.issue ∧
    (applyItem s n first second).minibar = s.minibar ∧ (applyItem s n first second).port = s.port ∧
    (applyItem s n first second).loader = s.loader ∧ (applyItem s n first second).pruner = s.pruner ∧
    (applyItem s n first second).trunk = s.trunk ∧ (applyItem s n first second).startup = s.startup ∧
    (applyItem s n first second).pins = s.pins ∧ (applyItem s n first second).time.tick = s.time.tick ∧
    (applyItem s n first second).time.clock = s.time.clock ∧
    (applyItem s n first second).time.expiring = s.time.expiring ∧
    (applyItem s n first second).time.minuteEvents = s.time.minuteEvents ∧
    (applyItem s n first second).store.config = s.store.config ∧
    (applyItem s n first second).store.doors = s.store.doors ∧
    (applyItem s n first second).store.rooms = s.store.rooms ∧
    (applyItem s n first second).store.zones = s.store.zones ∧
    (applyItem s n first second).store.profiles = s.store.profiles ∧
    (applyItem s n first second).store.classes = s.store.classes ∧
    (applyItem s n first second).store.prices = s.store.prices ∧
    (applyItem s n first second).store.deny = s.store.deny ∧
    (applyItem s n first second).store.denyCount = s.store.denyCount ∧
    (applyItem s n first second).journal.push = s.journal.push ∧
    (applyItem s n first second).journal.batch = s.journal.batch ∧
    (applyItem s n first second).journal.frozen = s.journal.frozen := by
  unfold applyItem; (repeat' split) <;> simp

@[simp] theorem applyRelatch_frame (s : State) (n : Node) :
    (applyRelatch s n).pending = s.pending ∧ (applyRelatch s n).time = s.time ∧ (applyRelatch s n).lines = s.lines ∧
    (applyRelatch s n).queue = s.queue ∧ (applyRelatch s n).tracker = s.tracker ∧
    (applyRelatch s n).override = s.override ∧ (applyRelatch s n).issue = s.issue ∧
    (applyRelatch s n).minibar = s.minibar ∧ (applyRelatch s n).port = s.port ∧
    (applyRelatch s n).loader = s.loader ∧ (applyRelatch s n).pruner = s.pruner ∧
    (applyRelatch s n).trunk = s.trunk ∧ (applyRelatch s n).startup = s.startup ∧ (applyRelatch s n).pins = s.pins ∧
    (applyRelatch s n).store.config = s.store.config ∧ (applyRelatch s n).store.doors = s.store.doors ∧
    (applyRelatch s n).store.rooms = s.store.rooms ∧ (applyRelatch s n).store.zones = s.store.zones ∧
    (applyRelatch s n).store.profiles = s.store.profiles ∧ (applyRelatch s n).store.classes = s.store.classes ∧
    (applyRelatch s n).store.prices = s.store.prices ∧ (applyRelatch s n).store.deny = s.store.deny ∧
    (applyRelatch s n).store.denyCount = s.store.denyCount ∧ (applyRelatch s n).journal.push = s.journal.push ∧
    (applyRelatch s n).journal.batch = s.journal.batch ∧ (applyRelatch s n).journal.frozen = s.journal.frozen := by
  unfold applyRelatch; split <;> simp

@[simp] theorem applyReturn_frame (s : State) (n : Node) :
    (applyReturn s n).pending = s.pending ∧ (applyReturn s n).lines = s.lines ∧ (applyReturn s n).queue = s.queue ∧
    (applyReturn s n).tracker = s.tracker ∧ (applyReturn s n).override = s.override ∧
    (applyReturn s n).issue = s.issue ∧ (applyReturn s n).minibar = s.minibar ∧ (applyReturn s n).port = s.port ∧
    (applyReturn s n).loader = s.loader ∧ (applyReturn s n).pruner = s.pruner ∧ (applyReturn s n).trunk = s.trunk ∧
    (applyReturn s n).startup = s.startup ∧ (applyReturn s n).pins = s.pins ∧
    (applyReturn s n).time.tick = s.time.tick ∧ (applyReturn s n).time.clock = s.time.clock ∧
    (applyReturn s n).time.expiring = s.time.expiring ∧ (applyReturn s n).time.minuteEvents = s.time.minuteEvents ∧
    (applyReturn s n).store.config = s.store.config ∧ (applyReturn s n).store.doors = s.store.doors ∧
    (applyReturn s n).store.rooms = s.store.rooms ∧ (applyReturn s n).store.zones = s.store.zones ∧
    (applyReturn s n).store.profiles = s.store.profiles ∧ (applyReturn s n).store.classes = s.store.classes ∧
    (applyReturn s n).store.prices = s.store.prices ∧ (applyReturn s n).store.deny = s.store.deny ∧
    (applyReturn s n).store.denyCount = s.store.denyCount ∧ (applyReturn s n).journal.push = s.journal.push ∧
    (applyReturn s n).journal.batch = s.journal.batch ∧ (applyReturn s n).journal.frozen = s.journal.frozen := by
  unfold applyReturn; split <;> simp

@[simp] theorem forcedEnd_frame (s : State) (i : Slot) :
    (forcedEnd s i).pending = s.pending ∧ (forcedEnd s i).lines = s.lines ∧ (forcedEnd s i).queue = s.queue ∧
    (forcedEnd s i).tracker = s.tracker ∧ (forcedEnd s i).override = s.override ∧ (forcedEnd s i).issue = s.issue ∧
    (forcedEnd s i).minibar = s.minibar ∧ (forcedEnd s i).port = s.port ∧ (forcedEnd s i).loader = s.loader ∧
    (forcedEnd s i).pruner = s.pruner ∧ (forcedEnd s i).trunk = s.trunk ∧ (forcedEnd s i).startup = s.startup ∧
    (forcedEnd s i).pins = s.pins ∧ (forcedEnd s i).time.tick = s.time.tick ∧
    (forcedEnd s i).time.clock = s.time.clock ∧ (forcedEnd s i).time.expiring = s.time.expiring ∧
    (forcedEnd s i).time.minuteEvents = s.time.minuteEvents ∧ (forcedEnd s i).store.config = s.store.config ∧
    (forcedEnd s i).store.doors = s.store.doors ∧ (forcedEnd s i).store.rooms = s.store.rooms ∧
    (forcedEnd s i).store.zones = s.store.zones ∧ (forcedEnd s i).store.profiles = s.store.profiles ∧
    (forcedEnd s i).store.classes = s.store.classes ∧ (forcedEnd s i).store.prices = s.store.prices ∧
    (forcedEnd s i).store.deny = s.store.deny ∧ (forcedEnd s i).store.denyCount = s.store.denyCount ∧
    (forcedEnd s i).journal.push = s.journal.push ∧ (forcedEnd s i).journal.batch = s.journal.batch ∧
    (forcedEnd s i).journal.frozen = s.journal.frozen := by
  simp [forcedEnd]

@[simp] theorem applyForced_frame (s : State) (x : ForcedCause) :
    (applyForced s x).pending = s.pending ∧ (applyForced s x).lines = s.lines ∧ (applyForced s x).queue = s.queue ∧
    (applyForced s x).tracker = s.tracker ∧ (applyForced s x).override = s.override ∧
    (applyForced s x).issue = s.issue ∧ (applyForced s x).minibar = s.minibar ∧ (applyForced s x).port = s.port ∧
    (applyForced s x).loader = s.loader ∧ (applyForced s x).pruner = s.pruner ∧ (applyForced s x).trunk = s.trunk ∧
    (applyForced s x).startup = s.startup ∧ (applyForced s x).pins = s.pins ∧
    (applyForced s x).time.tick = s.time.tick ∧ (applyForced s x).time.clock = s.time.clock ∧
    (applyForced s x).time.expiring = s.time.expiring ∧ (applyForced s x).time.minuteEvents = s.time.minuteEvents ∧
    (applyForced s x).store.config = s.store.config ∧ (applyForced s x).store.doors = s.store.doors ∧
    (applyForced s x).store.rooms = s.store.rooms ∧ (applyForced s x).store.zones = s.store.zones ∧
    (applyForced s x).store.profiles = s.store.profiles ∧ (applyForced s x).store.classes = s.store.classes ∧
    (applyForced s x).store.prices = s.store.prices ∧ (applyForced s x).store.deny = s.store.deny ∧
    (applyForced s x).store.denyCount = s.store.denyCount ∧ (applyForced s x).journal.push = s.journal.push ∧
    (applyForced s x).journal.batch = s.journal.batch ∧ (applyForced s x).journal.frozen = s.journal.frozen := by
  unfold applyForced; dsimp only; (repeat' split) <;> simp

@[simp] theorem bringIntoLine_frame (s : State) (i : Slot) :
    (bringIntoLine s i).pending = s.pending ∧ (bringIntoLine s i).time = s.time ∧
    (bringIntoLine s i).lines = s.lines ∧ (bringIntoLine s i).queue = s.queue ∧
    (bringIntoLine s i).tracker = s.tracker ∧ (bringIntoLine s i).override = s.override ∧
    (bringIntoLine s i).issue = s.issue ∧ (bringIntoLine s i).minibar = s.minibar ∧
    (bringIntoLine s i).port = s.port ∧ (bringIntoLine s i).loader = s.loader ∧
    (bringIntoLine s i).pruner = s.pruner ∧ (bringIntoLine s i).trunk = s.trunk ∧
    (bringIntoLine s i).startup = s.startup ∧ (bringIntoLine s i).pins = s.pins ∧
    (bringIntoLine s i).store.config = s.store.config ∧ (bringIntoLine s i).store.doors = s.store.doors ∧
    (bringIntoLine s i).store.rooms = s.store.rooms ∧ (bringIntoLine s i).store.zones = s.store.zones ∧
    (bringIntoLine s i).store.profiles = s.store.profiles ∧ (bringIntoLine s i).store.classes = s.store.classes ∧
    (bringIntoLine s i).store.prices = s.store.prices ∧ (bringIntoLine s i).store.deny = s.store.deny ∧
    (bringIntoLine s i).store.denyCount = s.store.denyCount ∧ (bringIntoLine s i).journal.push = s.journal.push ∧
    (bringIntoLine s i).journal.batch = s.journal.batch ∧ (bringIntoLine s i).journal.frozen = s.journal.frozen := by
  unfold bringIntoLine; dsimp only; split <;> simp

@[simp] theorem withdraw_frame (s : State) (n : Node) :
    (withdraw s n).pending = s.pending ∧ (withdraw s n).time = s.time ∧ (withdraw s n).queue = s.queue ∧
    (withdraw s n).tracker = s.tracker ∧ (withdraw s n).override = s.override ∧ (withdraw s n).issue = s.issue ∧
    (withdraw s n).minibar = s.minibar ∧ (withdraw s n).store = s.store ∧ (withdraw s n).port = s.port ∧
    (withdraw s n).loader = s.loader ∧ (withdraw s n).pruner = s.pruner ∧ (withdraw s n).journal = s.journal ∧
    (withdraw s n).trunk = s.trunk ∧ (withdraw s n).startup = s.startup ∧ (withdraw s n).pins = s.pins := by
  unfold withdraw; (repeat' split) <;> simp

@[simp] theorem finishSession_frame (s : State) (k : Fin 2) (out : SessionOutcome) (notify : Bool) :
    (finishSession s k out notify).pending = s.pending ∧ (finishSession s k out notify).time = s.time ∧
    (finishSession s k out notify).lines = s.lines ∧ (finishSession s k out notify).queue = s.queue ∧
    (finishSession s k out notify).tracker = s.tracker ∧ (finishSession s k out notify).override = s.override ∧
    (finishSession s k out notify).minibar = s.minibar ∧ (finishSession s k out notify).store = s.store ∧
    (finishSession s k out notify).port = s.port ∧ (finishSession s k out notify).loader = s.loader ∧
    (finishSession s k out notify).pruner = s.pruner ∧ (finishSession s k out notify).startup = s.startup ∧
    (finishSession s k out notify).pins = s.pins ∧ (finishSession s k out notify).issue.work = s.issue.work ∧
    (finishSession s k out notify).journal.push = s.journal.push ∧
    (finishSession s k out notify).journal.batch = s.journal.batch ∧
    (finishSession s k out notify).journal.frozen = s.journal.frozen ∧
    (finishSession s k out notify).trunk.chain = s.trunk.chain ∧
    (finishSession s k out notify).trunk.relayDown = s.trunk.relayDown ∧
    (finishSession s k out notify).trunk.relayUp = s.trunk.relayUp ∧
    (finishSession s k out notify).trunk.requests = s.trunk.requests ∧
    (finishSession s k out notify).trunk.inHand = s.trunk.inHand ∧
    (finishSession s k out notify).trunk.outQueue = s.trunk.outQueue ∧
    (finishSession s k out notify).trunk.reserved = s.trunk.reserved ∧
    (finishSession s k out notify).trunk.downAbsent = s.trunk.downAbsent ∧
    (finishSession s k out notify).trunk.lastError = s.trunk.lastError ∧
    (finishSession s k out notify).trunk.upTx = s.trunk.upTx ∧
    (finishSession s k out notify).trunk.downTx = s.trunk.downTx := by
  unfold finishSession; split <;> simp

@[simp] theorem commitNew_frame (s : State) (i : Slot) (g : Gen) :
    (commitNew s i g).pending = s.pending ∧ (commitNew s i g).time = s.time ∧ (commitNew s i g).lines = s.lines ∧
    (commitNew s i g).queue = s.queue ∧ (commitNew s i g).tracker = s.tracker ∧
    (commitNew s i g).override = s.override ∧ (commitNew s i g).issue = s.issue ∧
    (commitNew s i g).minibar = s.minibar ∧ (commitNew s i g).port = s.port ∧ (commitNew s i g).loader = s.loader ∧
    (commitNew s i g).pruner = s.pruner ∧ (commitNew s i g).journal = s.journal ∧
    (commitNew s i g).trunk = s.trunk ∧ (commitNew s i g).startup = s.startup ∧ (commitNew s i g).pins = s.pins ∧
    (commitNew s i g).store.config = s.store.config ∧ (commitNew s i g).store.doors = s.store.doors ∧
    (commitNew s i g).store.rooms = s.store.rooms ∧ (commitNew s i g).store.zones = s.store.zones ∧
    (commitNew s i g).store.profiles = s.store.profiles ∧ (commitNew s i g).store.classes = s.store.classes ∧
    (commitNew s i g).store.prices = s.store.prices ∧ (commitNew s i g).store.deny = s.store.deny ∧
    (commitNew s i g).store.denyCount = s.store.denyCount := by
  unfold commitNew; dsimp only; (repeat' split) <;> simp

@[simp] theorem undeny_frame (s : State) (serial : Option Serial) :
    (undeny s serial).pending = s.pending ∧ (undeny s serial).time = s.time ∧ (undeny s serial).lines = s.lines ∧
    (undeny s serial).queue = s.queue ∧ (undeny s serial).tracker = s.tracker ∧
    (undeny s serial).override = s.override ∧ (undeny s serial).issue = s.issue ∧
    (undeny s serial).minibar = s.minibar ∧ (undeny s serial).port = s.port ∧ (undeny s serial).loader = s.loader ∧
    (undeny s serial).pruner = s.pruner ∧ (undeny s serial).trunk = s.trunk ∧
    (undeny s serial).startup = s.startup ∧ (undeny s serial).pins = s.pins ∧
    (undeny s serial).store.config = s.store.config ∧ (undeny s serial).store.doors = s.store.doors ∧
    (undeny s serial).store.rooms = s.store.rooms ∧ (undeny s serial).store.zones = s.store.zones ∧
    (undeny s serial).store.profiles = s.store.profiles ∧ (undeny s serial).store.classes = s.store.classes ∧
    (undeny s serial).store.prices = s.store.prices ∧ (undeny s serial).store.dyns = s.store.dyns ∧
    (undeny s serial).journal.push = s.journal.push ∧ (undeny s serial).journal.batch = s.journal.batch ∧
    (undeny s serial).journal.frozen = s.journal.frozen := by
  unfold undeny; (repeat' split) <;> simp

@[simp] theorem unmark_frame (s : State) (i : Slot) :
    (unmark s i).pending = s.pending ∧ (unmark s i).time = s.time ∧ (unmark s i).lines = s.lines ∧
    (unmark s i).queue = s.queue ∧ (unmark s i).tracker = s.tracker ∧ (unmark s i).override = s.override ∧
    (unmark s i).issue = s.issue ∧ (unmark s i).minibar = s.minibar ∧ (unmark s i).port = s.port ∧
    (unmark s i).loader = s.loader ∧ (unmark s i).pruner = s.pruner ∧ (unmark s i).journal = s.journal ∧
    (unmark s i).trunk = s.trunk ∧ (unmark s i).startup = s.startup ∧ (unmark s i).pins = s.pins ∧
    (unmark s i).store.config = s.store.config ∧ (unmark s i).store.doors = s.store.doors ∧
    (unmark s i).store.rooms = s.store.rooms ∧ (unmark s i).store.zones = s.store.zones ∧
    (unmark s i).store.profiles = s.store.profiles ∧ (unmark s i).store.classes = s.store.classes ∧
    (unmark s i).store.prices = s.store.prices ∧ (unmark s i).store.deny = s.store.deny ∧
    (unmark s i).store.denyCount = s.store.denyCount := by
  simp [unmark]

@[simp] theorem closeDone_frame (s : State) (c : IssueCtx) :
    (closeDone s c).pending = s.pending ∧ (closeDone s c).time = s.time ∧ (closeDone s c).lines = s.lines ∧
    (closeDone s c).queue = s.queue ∧ (closeDone s c).tracker = s.tracker ∧ (closeDone s c).override = s.override ∧
    (closeDone s c).issue = s.issue ∧ (closeDone s c).minibar = s.minibar ∧ (closeDone s c).port = s.port ∧
    (closeDone s c).loader = s.loader ∧ (closeDone s c).pruner = s.pruner ∧ (closeDone s c).trunk = s.trunk ∧
    (closeDone s c).startup = s.startup ∧ (closeDone s c).pins = s.pins ∧
    (closeDone s c).store.config = s.store.config ∧ (closeDone s c).store.doors = s.store.doors ∧
    (closeDone s c).store.rooms = s.store.rooms ∧ (closeDone s c).store.zones = s.store.zones ∧
    (closeDone s c).store.profiles = s.store.profiles ∧ (closeDone s c).store.classes = s.store.classes ∧
    (closeDone s c).store.prices = s.store.prices ∧ (closeDone s c).journal.push = s.journal.push ∧
    (closeDone s c).journal.batch = s.journal.batch ∧ (closeDone s c).journal.frozen = s.journal.frozen := by
  unfold closeDone; (repeat' split) <;> simp

@[simp] theorem closeVoid_frame (s : State) (c : IssueCtx) :
    (closeVoid s c).pending = s.pending ∧ (closeVoid s c).time = s.time ∧ (closeVoid s c).lines = s.lines ∧
    (closeVoid s c).queue = s.queue ∧ (closeVoid s c).tracker = s.tracker ∧ (closeVoid s c).override = s.override ∧
    (closeVoid s c).issue = s.issue ∧ (closeVoid s c).minibar = s.minibar ∧ (closeVoid s c).port = s.port ∧
    (closeVoid s c).loader = s.loader ∧ (closeVoid s c).pruner = s.pruner ∧ (closeVoid s c).journal = s.journal ∧
    (closeVoid s c).trunk = s.trunk ∧ (closeVoid s c).startup = s.startup ∧ (closeVoid s c).pins = s.pins ∧
    (closeVoid s c).store.config = s.store.config ∧ (closeVoid s c).store.doors = s.store.doors ∧
    (closeVoid s c).store.rooms = s.store.rooms ∧ (closeVoid s c).store.zones = s.store.zones ∧
    (closeVoid s c).store.profiles = s.store.profiles ∧ (closeVoid s c).store.classes = s.store.classes ∧
    (closeVoid s c).store.prices = s.store.prices ∧ (closeVoid s c).store.deny = s.store.deny ∧
    (closeVoid s c).store.denyCount = s.store.denyCount := by
  unfold closeVoid; split <;> simp

@[simp] theorem closeFailed_frame (s : State) (c : IssueCtx) (burn : Bool) :
    (closeFailed s c burn).pending = s.pending ∧ (closeFailed s c burn).time = s.time ∧
    (closeFailed s c burn).lines = s.lines ∧ (closeFailed s c burn).queue = s.queue ∧
    (closeFailed s c burn).tracker = s.tracker ∧ (closeFailed s c burn).override = s.override ∧
    (closeFailed s c burn).issue = s.issue ∧ (closeFailed s c burn).minibar = s.minibar ∧
    (closeFailed s c burn).port = s.port ∧ (closeFailed s c burn).loader = s.loader ∧
    (closeFailed s c burn).pruner = s.pruner ∧ (closeFailed s c burn).journal = s.journal ∧
    (closeFailed s c burn).trunk = s.trunk ∧ (closeFailed s c burn).startup = s.startup ∧
    (closeFailed s c burn).pins = s.pins ∧ (closeFailed s c burn).store.config = s.store.config ∧
    (closeFailed s c burn).store.doors = s.store.doors ∧ (closeFailed s c burn).store.rooms = s.store.rooms ∧
    (closeFailed s c burn).store.zones = s.store.zones ∧ (closeFailed s c burn).store.profiles = s.store.profiles ∧
    (closeFailed s c burn).store.classes = s.store.classes ∧ (closeFailed s c burn).store.prices = s.store.prices ∧
    (closeFailed s c burn).store.deny = s.store.deny ∧ (closeFailed s c burn).store.denyCount = s.store.denyCount := by
  unfold closeFailed; split <;> simp

@[simp] theorem closeEffects_frame (s : State) (c : IssueCtx) (x : SessionOutcome) :
    (closeEffects s c x).pending = s.pending ∧ (closeEffects s c x).time = s.time ∧
    (closeEffects s c x).lines = s.lines ∧ (closeEffects s c x).queue = s.queue ∧
    (closeEffects s c x).tracker = s.tracker ∧ (closeEffects s c x).override = s.override ∧
    (closeEffects s c x).issue = s.issue ∧ (closeEffects s c x).minibar = s.minibar ∧
    (closeEffects s c x).port = s.port ∧ (closeEffects s c x).loader = s.loader ∧
    (closeEffects s c x).pruner = s.pruner ∧ (closeEffects s c x).trunk = s.trunk ∧
    (closeEffects s c x).startup = s.startup ∧ (closeEffects s c x).pins = s.pins ∧
    (closeEffects s c x).store.config = s.store.config ∧ (closeEffects s c x).store.doors = s.store.doors ∧
    (closeEffects s c x).store.rooms = s.store.rooms ∧ (closeEffects s c x).store.zones = s.store.zones ∧
    (closeEffects s c x).store.profiles = s.store.profiles ∧ (closeEffects s c x).store.classes = s.store.classes ∧
    (closeEffects s c x).store.prices = s.store.prices ∧ (closeEffects s c x).journal.push = s.journal.push ∧
    (closeEffects s c x).journal.batch = s.journal.batch ∧ (closeEffects s c x).journal.frozen = s.journal.frozen := by
  unfold closeEffects; split <;> simp

@[simp] theorem closeSession_frame (s : State) (k : Fin 2) (notify : Bool) :
    (closeSession s k notify).pending = s.pending ∧ (closeSession s k notify).time = s.time ∧
    (closeSession s k notify).lines = s.lines ∧ (closeSession s k notify).queue = s.queue ∧
    (closeSession s k notify).tracker = s.tracker ∧ (closeSession s k notify).override = s.override ∧
    (closeSession s k notify).minibar = s.minibar ∧ (closeSession s k notify).port = s.port ∧
    (closeSession s k notify).loader = s.loader ∧ (closeSession s k notify).pruner = s.pruner ∧
    (closeSession s k notify).startup = s.startup ∧ (closeSession s k notify).pins = s.pins ∧
    (closeSession s k notify).issue.work = s.issue.work ∧ (closeSession s k notify).store.config = s.store.config ∧
    (closeSession s k notify).store.doors = s.store.doors ∧ (closeSession s k notify).store.rooms = s.store.rooms ∧
    (closeSession s k notify).store.zones = s.store.zones ∧
    (closeSession s k notify).store.profiles = s.store.profiles ∧
    (closeSession s k notify).store.classes = s.store.classes ∧
    (closeSession s k notify).store.prices = s.store.prices ∧
    (closeSession s k notify).journal.push = s.journal.push ∧
    (closeSession s k notify).journal.batch = s.journal.batch ∧
    (closeSession s k notify).journal.frozen = s.journal.frozen ∧
    (closeSession s k notify).trunk.chain = s.trunk.chain ∧
    (closeSession s k notify).trunk.relayDown = s.trunk.relayDown ∧
    (closeSession s k notify).trunk.relayUp = s.trunk.relayUp ∧
    (closeSession s k notify).trunk.requests = s.trunk.requests ∧
    (closeSession s k notify).trunk.inHand = s.trunk.inHand ∧
    (closeSession s k notify).trunk.outQueue = s.trunk.outQueue ∧
    (closeSession s k notify).trunk.reserved = s.trunk.reserved ∧
    (closeSession s k notify).trunk.downAbsent = s.trunk.downAbsent ∧
    (closeSession s k notify).trunk.lastError = s.trunk.lastError ∧
    (closeSession s k notify).trunk.upTx = s.trunk.upTx ∧ (closeSession s k notify).trunk.downTx = s.trunk.downTx := by
  unfold closeSession; dsimp only; split <;> simp

@[simp] theorem endSession_frame (s : State) (k : Fin 2) (r : FailReason) :
    (endSession s k r).pending = s.pending ∧ (endSession s k r).queue = s.queue ∧
    (endSession s k r).tracker = s.tracker ∧ (endSession s k r).override = s.override ∧
    (endSession s k r).minibar = s.minibar ∧ (endSession s k r).store = s.store ∧ (endSession s k r).port = s.port ∧
    (endSession s k r).loader = s.loader ∧ (endSession s k r).pruner = s.pruner ∧
    (endSession s k r).startup = s.startup ∧ (endSession s k r).pins = s.pins ∧
    (endSession s k r).time.tick = s.time.tick ∧ (endSession s k r).time.clock = s.time.clock ∧
    (endSession s k r).time.expiring = s.time.expiring ∧
    (endSession s k r).time.minuteEvents = s.time.minuteEvents ∧ (endSession s k r).journal.push = s.journal.push ∧
    (endSession s k r).journal.batch = s.journal.batch ∧ (endSession s k r).journal.frozen = s.journal.frozen ∧
    (endSession s k r).trunk.chain = s.trunk.chain ∧ (endSession s k r).trunk.relayDown = s.trunk.relayDown ∧
    (endSession s k r).trunk.relayUp = s.trunk.relayUp ∧ (endSession s k r).trunk.requests = s.trunk.requests ∧
    (endSession s k r).trunk.inHand = s.trunk.inHand ∧ (endSession s k r).trunk.outQueue = s.trunk.outQueue ∧
    (endSession s k r).trunk.reserved = s.trunk.reserved ∧
    (endSession s k r).trunk.downAbsent = s.trunk.downAbsent ∧
    (endSession s k r).trunk.lastError = s.trunk.lastError ∧ (endSession s k r).trunk.upTx = s.trunk.upTx ∧
    (endSession s k r).trunk.downTx = s.trunk.downTx := by
  unfold endSession; dsimp only; (repeat' split) <;> simp

@[simp] theorem endNodeSession_frame (s : State) (n : Node) (r : FailReason) :
    (endNodeSession s n r).pending = s.pending ∧ (endNodeSession s n r).queue = s.queue ∧
    (endNodeSession s n r).tracker = s.tracker ∧ (endNodeSession s n r).override = s.override ∧
    (endNodeSession s n r).minibar = s.minibar ∧ (endNodeSession s n r).store = s.store ∧
    (endNodeSession s n r).port = s.port ∧ (endNodeSession s n r).loader = s.loader ∧
    (endNodeSession s n r).pruner = s.pruner ∧ (endNodeSession s n r).startup = s.startup ∧
    (endNodeSession s n r).pins = s.pins ∧ (endNodeSession s n r).time.tick = s.time.tick ∧
    (endNodeSession s n r).time.clock = s.time.clock ∧ (endNodeSession s n r).time.expiring = s.time.expiring ∧
    (endNodeSession s n r).time.minuteEvents = s.time.minuteEvents ∧
    (endNodeSession s n r).journal.push = s.journal.push ∧ (endNodeSession s n r).journal.batch = s.journal.batch ∧
    (endNodeSession s n r).journal.frozen = s.journal.frozen ∧ (endNodeSession s n r).trunk.chain = s.trunk.chain ∧
    (endNodeSession s n r).trunk.relayDown = s.trunk.relayDown ∧
    (endNodeSession s n r).trunk.relayUp = s.trunk.relayUp ∧
    (endNodeSession s n r).trunk.requests = s.trunk.requests ∧
    (endNodeSession s n r).trunk.inHand = s.trunk.inHand ∧
    (endNodeSession s n r).trunk.outQueue = s.trunk.outQueue ∧
    (endNodeSession s n r).trunk.reserved = s.trunk.reserved ∧
    (endNodeSession s n r).trunk.downAbsent = s.trunk.downAbsent ∧
    (endNodeSession s n r).trunk.lastError = s.trunk.lastError ∧ (endNodeSession s n r).trunk.upTx = s.trunk.upTx ∧
    (endNodeSession s n r).trunk.downTx = s.trunk.downTx := by
  unfold endNodeSession; split <;> simp

@[simp] theorem endRoomSession_frame (s : State) (room : Half) (r : FailReason) :
    (endRoomSession s room r).pending = s.pending ∧ (endRoomSession s room r).queue = s.queue ∧
    (endRoomSession s room r).tracker = s.tracker ∧ (endRoomSession s room r).override = s.override ∧
    (endRoomSession s room r).minibar = s.minibar ∧ (endRoomSession s room r).store = s.store ∧
    (endRoomSession s room r).port = s.port ∧ (endRoomSession s room r).loader = s.loader ∧
    (endRoomSession s room r).pruner = s.pruner ∧ (endRoomSession s room r).startup = s.startup ∧
    (endRoomSession s room r).pins = s.pins ∧ (endRoomSession s room r).time.tick = s.time.tick ∧
    (endRoomSession s room r).time.clock = s.time.clock ∧
    (endRoomSession s room r).time.expiring = s.time.expiring ∧
    (endRoomSession s room r).time.minuteEvents = s.time.minuteEvents ∧
    (endRoomSession s room r).journal.push = s.journal.push ∧
    (endRoomSession s room r).journal.batch = s.journal.batch ∧
    (endRoomSession s room r).journal.frozen = s.journal.frozen ∧
    (endRoomSession s room r).trunk.chain = s.trunk.chain ∧
    (endRoomSession s room r).trunk.relayDown = s.trunk.relayDown ∧
    (endRoomSession s room r).trunk.relayUp = s.trunk.relayUp ∧
    (endRoomSession s room r).trunk.requests = s.trunk.requests ∧
    (endRoomSession s room r).trunk.inHand = s.trunk.inHand ∧
    (endRoomSession s room r).trunk.outQueue = s.trunk.outQueue ∧
    (endRoomSession s room r).trunk.reserved = s.trunk.reserved ∧
    (endRoomSession s room r).trunk.downAbsent = s.trunk.downAbsent ∧
    (endRoomSession s room r).trunk.lastError = s.trunk.lastError ∧
    (endRoomSession s room r).trunk.upTx = s.trunk.upTx ∧ (endRoomSession s room r).trunk.downTx = s.trunk.downTx := by
  unfold endRoomSession; split <;> simp

@[simp] theorem issueDrop_frame (s : State) (n : Node) (c : Command) :
    (issueDrop s n c).pending = s.pending ∧ (issueDrop s n c).queue = s.queue ∧
    (issueDrop s n c).tracker = s.tracker ∧ (issueDrop s n c).override = s.override ∧
    (issueDrop s n c).minibar = s.minibar ∧ (issueDrop s n c).store = s.store ∧ (issueDrop s n c).port = s.port ∧
    (issueDrop s n c).loader = s.loader ∧ (issueDrop s n c).pruner = s.pruner ∧
    (issueDrop s n c).startup = s.startup ∧ (issueDrop s n c).pins = s.pins ∧
    (issueDrop s n c).time.tick = s.time.tick ∧ (issueDrop s n c).time.clock = s.time.clock ∧
    (issueDrop s n c).time.expiring = s.time.expiring ∧ (issueDrop s n c).time.minuteEvents = s.time.minuteEvents ∧
    (issueDrop s n c).journal.push = s.journal.push ∧ (issueDrop s n c).journal.batch = s.journal.batch ∧
    (issueDrop s n c).journal.frozen = s.journal.frozen ∧ (issueDrop s n c).trunk.chain = s.trunk.chain ∧
    (issueDrop s n c).trunk.relayDown = s.trunk.relayDown ∧ (issueDrop s n c).trunk.relayUp = s.trunk.relayUp ∧
    (issueDrop s n c).trunk.requests = s.trunk.requests ∧ (issueDrop s n c).trunk.inHand = s.trunk.inHand ∧
    (issueDrop s n c).trunk.outQueue = s.trunk.outQueue ∧ (issueDrop s n c).trunk.reserved = s.trunk.reserved ∧
    (issueDrop s n c).trunk.downAbsent = s.trunk.downAbsent ∧
    (issueDrop s n c).trunk.lastError = s.trunk.lastError ∧ (issueDrop s n c).trunk.upTx = s.trunk.upTx ∧
    (issueDrop s n c).trunk.downTx = s.trunk.downTx := by
  unfold issueDrop; (repeat' split) <;> simp

@[simp] theorem queueCommand_frame (s : State) (n : Node) (c : Command) :
    (queueCommand s n c).pending = s.pending ∧ (queueCommand s n c).queue = s.queue ∧
    (queueCommand s n c).tracker = s.tracker ∧ (queueCommand s n c).override = s.override ∧
    (queueCommand s n c).minibar = s.minibar ∧ (queueCommand s n c).store = s.store ∧
    (queueCommand s n c).port = s.port ∧ (queueCommand s n c).loader = s.loader ∧
    (queueCommand s n c).pruner = s.pruner ∧ (queueCommand s n c).startup = s.startup ∧
    (queueCommand s n c).pins = s.pins ∧ (queueCommand s n c).time.tick = s.time.tick ∧
    (queueCommand s n c).time.clock = s.time.clock ∧ (queueCommand s n c).time.expiring = s.time.expiring ∧
    (queueCommand s n c).time.minuteEvents = s.time.minuteEvents ∧
    (queueCommand s n c).journal.push = s.journal.push ∧ (queueCommand s n c).journal.batch = s.journal.batch ∧
    (queueCommand s n c).journal.frozen = s.journal.frozen ∧ (queueCommand s n c).trunk.chain = s.trunk.chain ∧
    (queueCommand s n c).trunk.relayDown = s.trunk.relayDown ∧
    (queueCommand s n c).trunk.relayUp = s.trunk.relayUp ∧ (queueCommand s n c).trunk.requests = s.trunk.requests ∧
    (queueCommand s n c).trunk.inHand = s.trunk.inHand ∧ (queueCommand s n c).trunk.outQueue = s.trunk.outQueue ∧
    (queueCommand s n c).trunk.reserved = s.trunk.reserved ∧
    (queueCommand s n c).trunk.downAbsent = s.trunk.downAbsent ∧
    (queueCommand s n c).trunk.lastError = s.trunk.lastError ∧ (queueCommand s n c).trunk.upTx = s.trunk.upTx ∧
    (queueCommand s n c).trunk.downTx = s.trunk.downTx := by
  unfold queueCommand; dsimp only; (repeat' split) <;> simp

@[simp] theorem foldl_queueCommand_frame (c : Command) (l : List Slot) (s : State) :
    (l.foldl (fun t i => queueCommand t (nodeAt i) c) s).pending = s.pending ∧
    (l.foldl (fun t i => queueCommand t (nodeAt i) c) s).queue = s.queue ∧
    (l.foldl (fun t i => queueCommand t (nodeAt i) c) s).tracker = s.tracker ∧
    (l.foldl (fun t i => queueCommand t (nodeAt i) c) s).override = s.override ∧
    (l.foldl (fun t i => queueCommand t (nodeAt i) c) s).minibar = s.minibar ∧
    (l.foldl (fun t i => queueCommand t (nodeAt i) c) s).store = s.store ∧
    (l.foldl (fun t i => queueCommand t (nodeAt i) c) s).port = s.port ∧
    (l.foldl (fun t i => queueCommand t (nodeAt i) c) s).loader = s.loader ∧
    (l.foldl (fun t i => queueCommand t (nodeAt i) c) s).pruner = s.pruner ∧
    (l.foldl (fun t i => queueCommand t (nodeAt i) c) s).startup = s.startup ∧
    (l.foldl (fun t i => queueCommand t (nodeAt i) c) s).pins = s.pins ∧
    (l.foldl (fun t i => queueCommand t (nodeAt i) c) s).time.tick = s.time.tick ∧
    (l.foldl (fun t i => queueCommand t (nodeAt i) c) s).time.clock = s.time.clock ∧
    (l.foldl (fun t i => queueCommand t (nodeAt i) c) s).time.expiring = s.time.expiring ∧
    (l.foldl (fun t i => queueCommand t (nodeAt i) c) s).time.minuteEvents = s.time.minuteEvents ∧
    (l.foldl (fun t i => queueCommand t (nodeAt i) c) s).journal.push = s.journal.push ∧
    (l.foldl (fun t i => queueCommand t (nodeAt i) c) s).journal.batch = s.journal.batch ∧
    (l.foldl (fun t i => queueCommand t (nodeAt i) c) s).journal.frozen = s.journal.frozen ∧
    (l.foldl (fun t i => queueCommand t (nodeAt i) c) s).trunk.chain = s.trunk.chain ∧
    (l.foldl (fun t i => queueCommand t (nodeAt i) c) s).trunk.relayDown = s.trunk.relayDown ∧
    (l.foldl (fun t i => queueCommand t (nodeAt i) c) s).trunk.relayUp = s.trunk.relayUp ∧
    (l.foldl (fun t i => queueCommand t (nodeAt i) c) s).trunk.requests = s.trunk.requests ∧
    (l.foldl (fun t i => queueCommand t (nodeAt i) c) s).trunk.inHand = s.trunk.inHand ∧
    (l.foldl (fun t i => queueCommand t (nodeAt i) c) s).trunk.outQueue = s.trunk.outQueue ∧
    (l.foldl (fun t i => queueCommand t (nodeAt i) c) s).trunk.reserved = s.trunk.reserved ∧
    (l.foldl (fun t i => queueCommand t (nodeAt i) c) s).trunk.downAbsent = s.trunk.downAbsent ∧
    (l.foldl (fun t i => queueCommand t (nodeAt i) c) s).trunk.lastError = s.trunk.lastError ∧
    (l.foldl (fun t i => queueCommand t (nodeAt i) c) s).trunk.upTx = s.trunk.upTx ∧
    (l.foldl (fun t i => queueCommand t (nodeAt i) c) s).trunk.downTx = s.trunk.downTx := ⟨foldl_keeps (fun s => s.pending) _ (by simp) _ _,
    foldl_keeps (fun s => s.queue) _ (by simp) _ _,
    foldl_keeps (fun s => s.tracker) _ (by simp) _ _,
    foldl_keeps (fun s => s.override) _ (by simp) _ _,
    foldl_keeps (fun s => s.minibar) _ (by simp) _ _,
    foldl_keeps (fun s => s.store) _ (by simp) _ _,
    foldl_keeps (fun s => s.port) _ (by simp) _ _,
    foldl_keeps (fun s => s.loader) _ (by simp) _ _,
    foldl_keeps (fun s => s.pruner) _ (by simp) _ _,
    foldl_keeps (fun s => s.startup) _ (by simp) _ _,
    foldl_keeps (fun s => s.pins) _ (by simp) _ _,
    foldl_keeps (fun s => s.time.tick) _ (by simp) _ _,
    foldl_keeps (fun s => s.time.clock) _ (by simp) _ _,
    foldl_keeps (fun s => s.time.expiring) _ (by simp) _ _,
    foldl_keeps (fun s => s.time.minuteEvents) _ (by simp) _ _,
    foldl_keeps (fun s => s.journal.push) _ (by simp) _ _,
    foldl_keeps (fun s => s.journal.batch) _ (by simp) _ _,
    foldl_keeps (fun s => s.journal.frozen) _ (by simp) _ _,
    foldl_keeps (fun s => s.trunk.chain) _ (by simp) _ _,
    foldl_keeps (fun s => s.trunk.relayDown) _ (by simp) _ _,
    foldl_keeps (fun s => s.trunk.relayUp) _ (by simp) _ _,
    foldl_keeps (fun s => s.trunk.requests) _ (by simp) _ _,
    foldl_keeps (fun s => s.trunk.inHand) _ (by simp) _ _,
    foldl_keeps (fun s => s.trunk.outQueue) _ (by simp) _ _,
    foldl_keeps (fun s => s.trunk.reserved) _ (by simp) _ _,
    foldl_keeps (fun s => s.trunk.downAbsent) _ (by simp) _ _,
    foldl_keeps (fun s => s.trunk.lastError) _ (by simp) _ _,
    foldl_keeps (fun s => s.trunk.upTx) _ (by simp) _ _,
    foldl_keeps (fun s => s.trunk.downTx) _ (by simp) _ _⟩

@[simp] theorem armHeld_frame (s : State) (n : Node) :
    (armHeld s n).pending = s.pending ∧ (armHeld s n).lines = s.lines ∧ (armHeld s n).queue = s.queue ∧
    (armHeld s n).tracker = s.tracker ∧ (armHeld s n).override = s.override ∧ (armHeld s n).issue = s.issue ∧
    (armHeld s n).minibar = s.minibar ∧ (armHeld s n).store = s.store ∧ (armHeld s n).port = s.port ∧
    (armHeld s n).loader = s.loader ∧ (armHeld s n).pruner = s.pruner ∧ (armHeld s n).journal = s.journal ∧
    (armHeld s n).trunk = s.trunk ∧ (armHeld s n).startup = s.startup ∧ (armHeld s n).pins = s.pins ∧
    (armHeld s n).time.tick = s.time.tick ∧ (armHeld s n).time.clock = s.time.clock ∧
    (armHeld s n).time.expiring = s.time.expiring ∧ (armHeld s n).time.minuteEvents = s.time.minuteEvents := by
  simp [armHeld]

@[simp] theorem setDoorState_frame (s : State) (n : Node) (d : DoorState) :
    (setDoorState s n d).pending = s.pending ∧ (setDoorState s n d).time = s.time ∧
    (setDoorState s n d).lines = s.lines ∧ (setDoorState s n d).queue = s.queue ∧
    (setDoorState s n d).override = s.override ∧ (setDoorState s n d).issue = s.issue ∧
    (setDoorState s n d).minibar = s.minibar ∧ (setDoorState s n d).store = s.store ∧
    (setDoorState s n d).port = s.port ∧ (setDoorState s n d).loader = s.loader ∧
    (setDoorState s n d).pruner = s.pruner ∧ (setDoorState s n d).journal = s.journal ∧
    (setDoorState s n d).trunk = s.trunk ∧ (setDoorState s n d).startup = s.startup ∧
    (setDoorState s n d).pins = s.pins ∧ (setDoorState s n d).tracker.writes = s.tracker.writes := by
  simp [setDoorState]

@[simp] theorem setContact_frame (s : State) (n : Node) (v : Bool) :
    (setContact s n v).pending = s.pending ∧ (setContact s n v).time = s.time ∧ (setContact s n v).lines = s.lines ∧
    (setContact s n v).queue = s.queue ∧ (setContact s n v).override = s.override ∧
    (setContact s n v).issue = s.issue ∧ (setContact s n v).minibar = s.minibar ∧
    (setContact s n v).store = s.store ∧ (setContact s n v).port = s.port ∧ (setContact s n v).loader = s.loader ∧
    (setContact s n v).pruner = s.pruner ∧ (setContact s n v).journal = s.journal ∧
    (setContact s n v).trunk = s.trunk ∧ (setContact s n v).startup = s.startup ∧ (setContact s n v).pins = s.pins ∧
    (setContact s n v).tracker.writes = s.tracker.writes := by
  simp [setContact]

@[simp] theorem contactOpen_frame (s : State) (n : Node) :
    (contactOpen s n).pending = s.pending ∧ (contactOpen s n).lines = s.lines ∧ (contactOpen s n).queue = s.queue ∧
    (contactOpen s n).override = s.override ∧ (contactOpen s n).issue = s.issue ∧
    (contactOpen s n).minibar = s.minibar ∧ (contactOpen s n).store = s.store ∧ (contactOpen s n).port = s.port ∧
    (contactOpen s n).loader = s.loader ∧ (contactOpen s n).pruner = s.pruner ∧
    (contactOpen s n).startup = s.startup ∧ (contactOpen s n).pins = s.pins ∧
    (contactOpen s n).time.tick = s.time.tick ∧ (contactOpen s n).time.clock = s.time.clock ∧
    (contactOpen s n).time.expiring = s.time.expiring ∧ (contactOpen s n).time.minuteEvents = s.time.minuteEvents ∧
    (contactOpen s n).tracker.writes = s.tracker.writes ∧ (contactOpen s n).journal.push = s.journal.push ∧
    (contactOpen s n).journal.batch = s.journal.batch ∧ (contactOpen s n).journal.frozen = s.journal.frozen ∧
    (contactOpen s n).trunk.chain = s.trunk.chain ∧ (contactOpen s n).trunk.relayDown = s.trunk.relayDown ∧
    (contactOpen s n).trunk.relayUp = s.trunk.relayUp ∧ (contactOpen s n).trunk.requests = s.trunk.requests ∧
    (contactOpen s n).trunk.inHand = s.trunk.inHand ∧ (contactOpen s n).trunk.outQueue = s.trunk.outQueue ∧
    (contactOpen s n).trunk.reserved = s.trunk.reserved ∧ (contactOpen s n).trunk.downAbsent = s.trunk.downAbsent ∧
    (contactOpen s n).trunk.lastError = s.trunk.lastError ∧ (contactOpen s n).trunk.upTx = s.trunk.upTx ∧
    (contactOpen s n).trunk.downTx = s.trunk.downTx := by
  unfold contactOpen; split <;> simp

@[simp] theorem contactClosed_frame (s : State) (n : Node) :
    (contactClosed s n).pending = s.pending ∧ (contactClosed s n).lines = s.lines ∧
    (contactClosed s n).queue = s.queue ∧ (contactClosed s n).override = s.override ∧
    (contactClosed s n).issue = s.issue ∧ (contactClosed s n).minibar = s.minibar ∧
    (contactClosed s n).store = s.store ∧ (contactClosed s n).port = s.port ∧
    (contactClosed s n).loader = s.loader ∧ (contactClosed s n).pruner = s.pruner ∧
    (contactClosed s n).trunk = s.trunk ∧ (contactClosed s n).startup = s.startup ∧
    (contactClosed s n).pins = s.pins ∧ (contactClosed s n).time.tick = s.time.tick ∧
    (contactClosed s n).time.clock = s.time.clock ∧ (contactClosed s n).time.expiring = s.time.expiring ∧
    (contactClosed s n).time.minuteEvents = s.time.minuteEvents ∧
    (contactClosed s n).tracker.writes = s.tracker.writes ∧ (contactClosed s n).journal.push = s.journal.push ∧
    (contactClosed s n).journal.batch = s.journal.batch ∧ (contactClosed s n).journal.frozen = s.journal.frozen := by
  unfold contactClosed; split <;> simp

@[simp] theorem contactReport_frame (s : State) (n : Node) (isOpen : Bool) :
    (contactReport s n isOpen).pending = s.pending ∧ (contactReport s n isOpen).lines = s.lines ∧
    (contactReport s n isOpen).queue = s.queue ∧ (contactReport s n isOpen).override = s.override ∧
    (contactReport s n isOpen).issue = s.issue ∧ (contactReport s n isOpen).minibar = s.minibar ∧
    (contactReport s n isOpen).store = s.store ∧ (contactReport s n isOpen).port = s.port ∧
    (contactReport s n isOpen).loader = s.loader ∧ (contactReport s n isOpen).pruner = s.pruner ∧
    (contactReport s n isOpen).startup = s.startup ∧ (contactReport s n isOpen).pins = s.pins ∧
    (contactReport s n isOpen).time.tick = s.time.tick ∧ (contactReport s n isOpen).time.clock = s.time.clock ∧
    (contactReport s n isOpen).time.expiring = s.time.expiring ∧
    (contactReport s n isOpen).time.minuteEvents = s.time.minuteEvents ∧
    (contactReport s n isOpen).tracker.writes = s.tracker.writes ∧
    (contactReport s n isOpen).journal.push = s.journal.push ∧
    (contactReport s n isOpen).journal.batch = s.journal.batch ∧
    (contactReport s n isOpen).journal.frozen = s.journal.frozen ∧
    (contactReport s n isOpen).trunk.chain = s.trunk.chain ∧
    (contactReport s n isOpen).trunk.relayDown = s.trunk.relayDown ∧
    (contactReport s n isOpen).trunk.relayUp = s.trunk.relayUp ∧
    (contactReport s n isOpen).trunk.requests = s.trunk.requests ∧
    (contactReport s n isOpen).trunk.inHand = s.trunk.inHand ∧
    (contactReport s n isOpen).trunk.outQueue = s.trunk.outQueue ∧
    (contactReport s n isOpen).trunk.reserved = s.trunk.reserved ∧
    (contactReport s n isOpen).trunk.downAbsent = s.trunk.downAbsent ∧
    (contactReport s n isOpen).trunk.lastError = s.trunk.lastError ∧
    (contactReport s n isOpen).trunk.upTx = s.trunk.upTx ∧ (contactReport s n isOpen).trunk.downTx = s.trunk.downTx := by
  unfold contactReport; split <;> simp

@[simp] theorem armRelock_frame (s : State) (n : Node) :
    (armRelock s n).pending = s.pending ∧ (armRelock s n).lines = s.lines ∧ (armRelock s n).queue = s.queue ∧
    (armRelock s n).tracker = s.tracker ∧ (armRelock s n).override = s.override ∧ (armRelock s n).issue = s.issue ∧
    (armRelock s n).minibar = s.minibar ∧ (armRelock s n).store = s.store ∧ (armRelock s n).port = s.port ∧
    (armRelock s n).loader = s.loader ∧ (armRelock s n).pruner = s.pruner ∧ (armRelock s n).journal = s.journal ∧
    (armRelock s n).trunk = s.trunk ∧ (armRelock s n).startup = s.startup ∧ (armRelock s n).pins = s.pins ∧
    (armRelock s n).time.tick = s.time.tick ∧ (armRelock s n).time.clock = s.time.clock ∧
    (armRelock s n).time.expiring = s.time.expiring ∧ (armRelock s n).time.minuteEvents = s.time.minuteEvents := by
  simp [armRelock]

@[simp] theorem grantAccepted_frame (s : State) (n : Node) :
    (grantAccepted s n).pending = s.pending ∧ (grantAccepted s n).lines = s.lines ∧
    (grantAccepted s n).queue = s.queue ∧ (grantAccepted s n).override = s.override ∧
    (grantAccepted s n).issue = s.issue ∧ (grantAccepted s n).minibar = s.minibar ∧
    (grantAccepted s n).store = s.store ∧ (grantAccepted s n).port = s.port ∧
    (grantAccepted s n).loader = s.loader ∧ (grantAccepted s n).pruner = s.pruner ∧
    (grantAccepted s n).journal = s.journal ∧ (grantAccepted s n).trunk = s.trunk ∧
    (grantAccepted s n).startup = s.startup ∧ (grantAccepted s n).pins = s.pins ∧
    (grantAccepted s n).time.tick = s.time.tick ∧ (grantAccepted s n).time.clock = s.time.clock ∧
    (grantAccepted s n).time.expiring = s.time.expiring ∧
    (grantAccepted s n).time.minuteEvents = s.time.minuteEvents ∧
    (grantAccepted s n).tracker.writes = s.tracker.writes := by
  unfold grantAccepted; split <;> simp

@[simp] theorem holdOpenAccepted_frame (s : State) (n : Node) :
    (holdOpenAccepted s n).pending = s.pending ∧ (holdOpenAccepted s n).lines = s.lines ∧
    (holdOpenAccepted s n).queue = s.queue ∧ (holdOpenAccepted s n).override = s.override ∧
    (holdOpenAccepted s n).issue = s.issue ∧ (holdOpenAccepted s n).minibar = s.minibar ∧
    (holdOpenAccepted s n).store = s.store ∧ (holdOpenAccepted s n).port = s.port ∧
    (holdOpenAccepted s n).loader = s.loader ∧ (holdOpenAccepted s n).pruner = s.pruner ∧
    (holdOpenAccepted s n).journal = s.journal ∧ (holdOpenAccepted s n).trunk = s.trunk ∧
    (holdOpenAccepted s n).startup = s.startup ∧ (holdOpenAccepted s n).pins = s.pins ∧
    (holdOpenAccepted s n).time.tick = s.time.tick ∧ (holdOpenAccepted s n).time.clock = s.time.clock ∧
    (holdOpenAccepted s n).time.expiring = s.time.expiring ∧
    (holdOpenAccepted s n).time.minuteEvents = s.time.minuteEvents ∧
    (holdOpenAccepted s n).tracker.writes = s.tracker.writes := by
  simp [holdOpenAccepted]

@[simp] theorem releaseEndAccepted_frame (s : State) (n : Node) :
    (releaseEndAccepted s n).pending = s.pending ∧ (releaseEndAccepted s n).lines = s.lines ∧
    (releaseEndAccepted s n).queue = s.queue ∧ (releaseEndAccepted s n).override = s.override ∧
    (releaseEndAccepted s n).issue = s.issue ∧ (releaseEndAccepted s n).minibar = s.minibar ∧
    (releaseEndAccepted s n).store = s.store ∧ (releaseEndAccepted s n).port = s.port ∧
    (releaseEndAccepted s n).loader = s.loader ∧ (releaseEndAccepted s n).pruner = s.pruner ∧
    (releaseEndAccepted s n).journal = s.journal ∧ (releaseEndAccepted s n).trunk = s.trunk ∧
    (releaseEndAccepted s n).startup = s.startup ∧ (releaseEndAccepted s n).pins = s.pins ∧
    (releaseEndAccepted s n).time.tick = s.time.tick ∧ (releaseEndAccepted s n).time.clock = s.time.clock ∧
    (releaseEndAccepted s n).time.expiring = s.time.expiring ∧
    (releaseEndAccepted s n).time.minuteEvents = s.time.minuteEvents ∧
    (releaseEndAccepted s n).tracker.writes = s.tracker.writes := by
  unfold releaseEndAccepted; (repeat' split) <;> simp

@[simp] theorem acceptedByDoor_frame (s : State) (n : Node) (x : Command) :
    (acceptedByDoor s n x).pending = s.pending ∧ (acceptedByDoor s n x).lines = s.lines ∧
    (acceptedByDoor s n x).queue = s.queue ∧ (acceptedByDoor s n x).override = s.override ∧
    (acceptedByDoor s n x).issue = s.issue ∧ (acceptedByDoor s n x).minibar = s.minibar ∧
    (acceptedByDoor s n x).store = s.store ∧ (acceptedByDoor s n x).port = s.port ∧
    (acceptedByDoor s n x).loader = s.loader ∧ (acceptedByDoor s n x).pruner = s.pruner ∧
    (acceptedByDoor s n x).journal = s.journal ∧ (acceptedByDoor s n x).trunk = s.trunk ∧
    (acceptedByDoor s n x).startup = s.startup ∧ (acceptedByDoor s n x).pins = s.pins ∧
    (acceptedByDoor s n x).time.tick = s.time.tick ∧ (acceptedByDoor s n x).time.clock = s.time.clock ∧
    (acceptedByDoor s n x).time.expiring = s.time.expiring ∧
    (acceptedByDoor s n x).time.minuteEvents = s.time.minuteEvents ∧
    (acceptedByDoor s n x).tracker.writes = s.tracker.writes := by
  unfold acceptedByDoor; split <;> simp

@[simp] theorem derivePrivacy_frame (s : State) (room : Half) (n : Option Node) :
    (derivePrivacy s room n).pending = s.pending ∧ (derivePrivacy s room n).time = s.time ∧
    (derivePrivacy s room n).lines = s.lines ∧ (derivePrivacy s room n).queue = s.queue ∧
    (derivePrivacy s room n).override = s.override ∧ (derivePrivacy s room n).issue = s.issue ∧
    (derivePrivacy s room n).minibar = s.minibar ∧ (derivePrivacy s room n).store = s.store ∧
    (derivePrivacy s room n).port = s.port ∧ (derivePrivacy s room n).loader = s.loader ∧
    (derivePrivacy s room n).pruner = s.pruner ∧ (derivePrivacy s room n).journal = s.journal ∧
    (derivePrivacy s room n).trunk = s.trunk ∧ (derivePrivacy s room n).startup = s.startup ∧
    (derivePrivacy s room n).pins = s.pins ∧ (derivePrivacy s room n).tracker.doors = s.tracker.doors := by
  unfold derivePrivacy; split <;> simp

@[simp] theorem deadboltReport_frame (s : State) (n : Node) (thrown : Bool) :
    (deadboltReport s n thrown).pending = s.pending ∧ (deadboltReport s n thrown).time = s.time ∧
    (deadboltReport s n thrown).lines = s.lines ∧ (deadboltReport s n thrown).queue = s.queue ∧
    (deadboltReport s n thrown).override = s.override ∧ (deadboltReport s n thrown).issue = s.issue ∧
    (deadboltReport s n thrown).minibar = s.minibar ∧ (deadboltReport s n thrown).store = s.store ∧
    (deadboltReport s n thrown).port = s.port ∧ (deadboltReport s n thrown).loader = s.loader ∧
    (deadboltReport s n thrown).pruner = s.pruner ∧ (deadboltReport s n thrown).journal = s.journal ∧
    (deadboltReport s n thrown).trunk = s.trunk ∧ (deadboltReport s n thrown).startup = s.startup ∧
    (deadboltReport s n thrown).pins = s.pins := by
  simp [deadboltReport]

@[simp] theorem applyPrivacy_frame (s : State) (w : PrivacyWrite) :
    (applyPrivacy s w).pending = s.pending ∧ (applyPrivacy s w).time = s.time ∧ (applyPrivacy s w).lines = s.lines ∧
    (applyPrivacy s w).queue = s.queue ∧ (applyPrivacy s w).tracker = s.tracker ∧
    (applyPrivacy s w).override = s.override ∧ (applyPrivacy s w).issue = s.issue ∧
    (applyPrivacy s w).minibar = s.minibar ∧ (applyPrivacy s w).port = s.port ∧
    (applyPrivacy s w).loader = s.loader ∧ (applyPrivacy s w).pruner = s.pruner ∧
    (applyPrivacy s w).trunk = s.trunk ∧ (applyPrivacy s w).startup = s.startup ∧ (applyPrivacy s w).pins = s.pins ∧
    (applyPrivacy s w).store.config = s.store.config ∧ (applyPrivacy s w).store.doors = s.store.doors ∧
    (applyPrivacy s w).store.rooms = s.store.rooms ∧ (applyPrivacy s w).store.zones = s.store.zones ∧
    (applyPrivacy s w).store.profiles = s.store.profiles ∧ (applyPrivacy s w).store.classes = s.store.classes ∧
    (applyPrivacy s w).store.prices = s.store.prices ∧ (applyPrivacy s w).store.deny = s.store.deny ∧
    (applyPrivacy s w).store.denyCount = s.store.denyCount ∧ (applyPrivacy s w).journal.push = s.journal.push ∧
    (applyPrivacy s w).journal.batch = s.journal.batch ∧ (applyPrivacy s w).journal.frozen = s.journal.frozen := by
  unfold applyPrivacy; (repeat' split) <;> simp

@[simp] theorem unqueue_frame (s : State) (n : Node) :
    (unqueue s n).pending = s.pending ∧ (unqueue s n).time = s.time ∧ (unqueue s n).lines = s.lines ∧
    (unqueue s n).tracker = s.tracker ∧ (unqueue s n).override = s.override ∧ (unqueue s n).issue = s.issue ∧
    (unqueue s n).minibar = s.minibar ∧ (unqueue s n).store = s.store ∧ (unqueue s n).port = s.port ∧
    (unqueue s n).loader = s.loader ∧ (unqueue s n).pruner = s.pruner ∧ (unqueue s n).journal = s.journal ∧
    (unqueue s n).trunk = s.trunk ∧ (unqueue s n).startup = s.startup ∧ (unqueue s n).pins = s.pins := by
  simp [unqueue]

@[simp] theorem entryEffect_frame (s : State) (n : Node) :
    (entryEffect s n).pending = s.pending ∧ (entryEffect s n).override = s.override ∧
    (entryEffect s n).store = s.store ∧ (entryEffect s n).port = s.port ∧ (entryEffect s n).loader = s.loader ∧
    (entryEffect s n).pruner = s.pruner ∧ (entryEffect s n).startup = s.startup ∧ (entryEffect s n).pins = s.pins ∧
    (entryEffect s n).time.tick = s.time.tick ∧ (entryEffect s n).time.clock = s.time.clock ∧
    (entryEffect s n).time.expiring = s.time.expiring ∧ (entryEffect s n).time.minuteEvents = s.time.minuteEvents ∧
    (entryEffect s n).tracker.writes = s.tracker.writes ∧ (entryEffect s n).journal.push = s.journal.push ∧
    (entryEffect s n).journal.batch = s.journal.batch ∧ (entryEffect s n).journal.frozen = s.journal.frozen ∧
    (entryEffect s n).trunk.chain = s.trunk.chain ∧ (entryEffect s n).trunk.relayDown = s.trunk.relayDown ∧
    (entryEffect s n).trunk.relayUp = s.trunk.relayUp ∧ (entryEffect s n).trunk.requests = s.trunk.requests ∧
    (entryEffect s n).trunk.inHand = s.trunk.inHand ∧ (entryEffect s n).trunk.outQueue = s.trunk.outQueue ∧
    (entryEffect s n).trunk.reserved = s.trunk.reserved ∧ (entryEffect s n).trunk.downAbsent = s.trunk.downAbsent ∧
    (entryEffect s n).trunk.lastError = s.trunk.lastError ∧ (entryEffect s n).trunk.upTx = s.trunk.upTx ∧
    (entryEffect s n).trunk.downTx = s.trunk.downTx := by
  unfold entryEffect; dsimp only; (repeat' split) <;> simp

@[simp] theorem foldl_entryEffect_frame (l : List Node) (s : State) :
    (l.foldl entryEffect s).pending = s.pending ∧ (l.foldl entryEffect s).override = s.override ∧
    (l.foldl entryEffect s).store = s.store ∧ (l.foldl entryEffect s).port = s.port ∧
    (l.foldl entryEffect s).loader = s.loader ∧ (l.foldl entryEffect s).pruner = s.pruner ∧
    (l.foldl entryEffect s).startup = s.startup ∧ (l.foldl entryEffect s).pins = s.pins ∧
    (l.foldl entryEffect s).time.tick = s.time.tick ∧ (l.foldl entryEffect s).time.clock = s.time.clock ∧
    (l.foldl entryEffect s).time.expiring = s.time.expiring ∧
    (l.foldl entryEffect s).time.minuteEvents = s.time.minuteEvents ∧
    (l.foldl entryEffect s).tracker.writes = s.tracker.writes ∧
    (l.foldl entryEffect s).journal.push = s.journal.push ∧
    (l.foldl entryEffect s).journal.batch = s.journal.batch ∧
    (l.foldl entryEffect s).journal.frozen = s.journal.frozen ∧
    (l.foldl entryEffect s).trunk.chain = s.trunk.chain ∧
    (l.foldl entryEffect s).trunk.relayDown = s.trunk.relayDown ∧
    (l.foldl entryEffect s).trunk.relayUp = s.trunk.relayUp ∧
    (l.foldl entryEffect s).trunk.requests = s.trunk.requests ∧
    (l.foldl entryEffect s).trunk.inHand = s.trunk.inHand ∧
    (l.foldl entryEffect s).trunk.outQueue = s.trunk.outQueue ∧
    (l.foldl entryEffect s).trunk.reserved = s.trunk.reserved ∧
    (l.foldl entryEffect s).trunk.downAbsent = s.trunk.downAbsent ∧
    (l.foldl entryEffect s).trunk.lastError = s.trunk.lastError ∧
    (l.foldl entryEffect s).trunk.upTx = s.trunk.upTx ∧ (l.foldl entryEffect s).trunk.downTx = s.trunk.downTx := ⟨foldl_keeps (fun s => s.pending) _ (by simp) _ _,
    foldl_keeps (fun s => s.override) _ (by simp) _ _,
    foldl_keeps (fun s => s.store) _ (by simp) _ _,
    foldl_keeps (fun s => s.port) _ (by simp) _ _,
    foldl_keeps (fun s => s.loader) _ (by simp) _ _,
    foldl_keeps (fun s => s.pruner) _ (by simp) _ _,
    foldl_keeps (fun s => s.startup) _ (by simp) _ _,
    foldl_keeps (fun s => s.pins) _ (by simp) _ _,
    foldl_keeps (fun s => s.time.tick) _ (by simp) _ _,
    foldl_keeps (fun s => s.time.clock) _ (by simp) _ _,
    foldl_keeps (fun s => s.time.expiring) _ (by simp) _ _,
    foldl_keeps (fun s => s.time.minuteEvents) _ (by simp) _ _,
    foldl_keeps (fun s => s.tracker.writes) _ (by simp) _ _,
    foldl_keeps (fun s => s.journal.push) _ (by simp) _ _,
    foldl_keeps (fun s => s.journal.batch) _ (by simp) _ _,
    foldl_keeps (fun s => s.journal.frozen) _ (by simp) _ _,
    foldl_keeps (fun s => s.trunk.chain) _ (by simp) _ _,
    foldl_keeps (fun s => s.trunk.relayDown) _ (by simp) _ _,
    foldl_keeps (fun s => s.trunk.relayUp) _ (by simp) _ _,
    foldl_keeps (fun s => s.trunk.requests) _ (by simp) _ _,
    foldl_keeps (fun s => s.trunk.inHand) _ (by simp) _ _,
    foldl_keeps (fun s => s.trunk.outQueue) _ (by simp) _ _,
    foldl_keeps (fun s => s.trunk.reserved) _ (by simp) _ _,
    foldl_keeps (fun s => s.trunk.downAbsent) _ (by simp) _ _,
    foldl_keeps (fun s => s.trunk.lastError) _ (by simp) _ _,
    foldl_keeps (fun s => s.trunk.upTx) _ (by simp) _ _,
    foldl_keeps (fun s => s.trunk.downTx) _ (by simp) _ _⟩

@[simp] theorem entryEffects_frame (s : State) (l : LineNo) :
    (entryEffects s l).pending = s.pending ∧ (entryEffects s l).override = s.override ∧
    (entryEffects s l).store = s.store ∧ (entryEffects s l).port = s.port ∧ (entryEffects s l).loader = s.loader ∧
    (entryEffects s l).pruner = s.pruner ∧ (entryEffects s l).startup = s.startup ∧
    (entryEffects s l).pins = s.pins ∧ (entryEffects s l).time.tick = s.time.tick ∧
    (entryEffects s l).time.clock = s.time.clock ∧ (entryEffects s l).time.expiring = s.time.expiring ∧
    (entryEffects s l).time.minuteEvents = s.time.minuteEvents ∧
    (entryEffects s l).tracker.writes = s.tracker.writes ∧ (entryEffects s l).journal.push = s.journal.push ∧
    (entryEffects s l).journal.batch = s.journal.batch ∧ (entryEffects s l).journal.frozen = s.journal.frozen ∧
    (entryEffects s l).trunk.chain = s.trunk.chain ∧ (entryEffects s l).trunk.relayDown = s.trunk.relayDown ∧
    (entryEffects s l).trunk.relayUp = s.trunk.relayUp ∧ (entryEffects s l).trunk.requests = s.trunk.requests ∧
    (entryEffects s l).trunk.inHand = s.trunk.inHand ∧ (entryEffects s l).trunk.outQueue = s.trunk.outQueue ∧
    (entryEffects s l).trunk.reserved = s.trunk.reserved ∧
    (entryEffects s l).trunk.downAbsent = s.trunk.downAbsent ∧
    (entryEffects s l).trunk.lastError = s.trunk.lastError ∧ (entryEffects s l).trunk.upTx = s.trunk.upTx ∧
    (entryEffects s l).trunk.downTx = s.trunk.downTx := by
  simp [entryEffects]

@[simp] theorem loadSweep_frame (s : State) (l : LineNo) :
    (loadSweep s l).pending = s.pending ∧ (loadSweep s l).time = s.time ∧ (loadSweep s l).queue = s.queue ∧
    (loadSweep s l).tracker = s.tracker ∧ (loadSweep s l).override = s.override ∧ (loadSweep s l).issue = s.issue ∧
    (loadSweep s l).minibar = s.minibar ∧ (loadSweep s l).store = s.store ∧ (loadSweep s l).port = s.port ∧
    (loadSweep s l).loader = s.loader ∧ (loadSweep s l).pruner = s.pruner ∧ (loadSweep s l).journal = s.journal ∧
    (loadSweep s l).trunk = s.trunk ∧ (loadSweep s l).startup = s.startup ∧ (loadSweep s l).pins = s.pins := by
  simp [loadSweep]

@[simp] theorem foldl_loadSweep_frame (l : List LineNo) (s : State) :
    (l.foldl loadSweep s).pending = s.pending ∧ (l.foldl loadSweep s).time = s.time ∧
    (l.foldl loadSweep s).queue = s.queue ∧ (l.foldl loadSweep s).tracker = s.tracker ∧
    (l.foldl loadSweep s).override = s.override ∧ (l.foldl loadSweep s).issue = s.issue ∧
    (l.foldl loadSweep s).minibar = s.minibar ∧ (l.foldl loadSweep s).store = s.store ∧
    (l.foldl loadSweep s).port = s.port ∧ (l.foldl loadSweep s).loader = s.loader ∧
    (l.foldl loadSweep s).pruner = s.pruner ∧ (l.foldl loadSweep s).journal = s.journal ∧
    (l.foldl loadSweep s).trunk = s.trunk ∧ (l.foldl loadSweep s).startup = s.startup ∧
    (l.foldl loadSweep s).pins = s.pins := ⟨foldl_keeps (fun s => s.pending) _ (by simp) _ _,
    foldl_keeps (fun s => s.time) _ (by simp) _ _,
    foldl_keeps (fun s => s.queue) _ (by simp) _ _,
    foldl_keeps (fun s => s.tracker) _ (by simp) _ _,
    foldl_keeps (fun s => s.override) _ (by simp) _ _,
    foldl_keeps (fun s => s.issue) _ (by simp) _ _,
    foldl_keeps (fun s => s.minibar) _ (by simp) _ _,
    foldl_keeps (fun s => s.store) _ (by simp) _ _,
    foldl_keeps (fun s => s.port) _ (by simp) _ _,
    foldl_keeps (fun s => s.loader) _ (by simp) _ _,
    foldl_keeps (fun s => s.pruner) _ (by simp) _ _,
    foldl_keeps (fun s => s.journal) _ (by simp) _ _,
    foldl_keeps (fun s => s.trunk) _ (by simp) _ _,
    foldl_keeps (fun s => s.startup) _ (by simp) _ _,
    foldl_keeps (fun s => s.pins) _ (by simp) _ _⟩

@[simp] theorem changeMode_frame (s : State) (l : LineNo) (m : LineMode) (broken : Bool) :
    (changeMode s l m broken).pending = s.pending ∧ (changeMode s l m broken).time = s.time ∧
    (changeMode s l m broken).queue = s.queue ∧ (changeMode s l m broken).tracker = s.tracker ∧
    (changeMode s l m broken).override = s.override ∧ (changeMode s l m broken).issue = s.issue ∧
    (changeMode s l m broken).minibar = s.minibar ∧ (changeMode s l m broken).store = s.store ∧
    (changeMode s l m broken).port = s.port ∧ (changeMode s l m broken).loader = s.loader ∧
    (changeMode s l m broken).pruner = s.pruner ∧ (changeMode s l m broken).trunk = s.trunk ∧
    (changeMode s l m broken).startup = s.startup ∧ (changeMode s l m broken).pins = s.pins ∧
    (changeMode s l m broken).journal.push = s.journal.push ∧
    (changeMode s l m broken).journal.batch = s.journal.batch ∧
    (changeMode s l m broken).journal.frozen = s.journal.frozen := by
  simp [changeMode]

@[simp] theorem restartChoice_frame (s : State) (l : LineNo) :
    (restartChoice s l).pending = s.pending ∧ (restartChoice s l).time = s.time ∧
    (restartChoice s l).queue = s.queue ∧ (restartChoice s l).tracker = s.tracker ∧
    (restartChoice s l).override = s.override ∧ (restartChoice s l).issue = s.issue ∧
    (restartChoice s l).minibar = s.minibar ∧ (restartChoice s l).store = s.store ∧
    (restartChoice s l).port = s.port ∧ (restartChoice s l).loader = s.loader ∧
    (restartChoice s l).pruner = s.pruner ∧ (restartChoice s l).journal = s.journal ∧
    (restartChoice s l).trunk = s.trunk ∧ (restartChoice s l).startup = s.startup ∧
    (restartChoice s l).pins = s.pins := by
  simp [restartChoice]

@[simp] theorem returnEffects_frame (s : State) (l : LineNo) (fromTransparent : Bool) :
    (returnEffects s l fromTransparent).pending = s.pending ∧ (returnEffects s l fromTransparent).time = s.time ∧
    (returnEffects s l fromTransparent).queue = s.queue ∧ (returnEffects s l fromTransparent).tracker = s.tracker ∧
    (returnEffects s l fromTransparent).override = s.override ∧
    (returnEffects s l fromTransparent).issue = s.issue ∧ (returnEffects s l fromTransparent).minibar = s.minibar ∧
    (returnEffects s l fromTransparent).store = s.store ∧ (returnEffects s l fromTransparent).port = s.port ∧
    (returnEffects s l fromTransparent).loader = s.loader ∧ (returnEffects s l fromTransparent).pruner = s.pruner ∧
    (returnEffects s l fromTransparent).journal = s.journal ∧ (returnEffects s l fromTransparent).trunk = s.trunk ∧
    (returnEffects s l fromTransparent).startup = s.startup ∧ (returnEffects s l fromTransparent).pins = s.pins := by
  unfold returnEffects; split <;> simp

@[simp] theorem breakHold_frame (s : State) (l : LineNo) :
    (breakHold s l).pending = s.pending ∧ (breakHold s l).time = s.time ∧ (breakHold s l).queue = s.queue ∧
    (breakHold s l).tracker = s.tracker ∧ (breakHold s l).override = s.override ∧ (breakHold s l).issue = s.issue ∧
    (breakHold s l).minibar = s.minibar ∧ (breakHold s l).store = s.store ∧ (breakHold s l).port = s.port ∧
    (breakHold s l).loader = s.loader ∧ (breakHold s l).pruner = s.pruner ∧ (breakHold s l).startup = s.startup ∧
    (breakHold s l).pins = s.pins ∧ (breakHold s l).journal.push = s.journal.push ∧
    (breakHold s l).journal.batch = s.journal.batch ∧ (breakHold s l).journal.frozen = s.journal.frozen ∧
    (breakHold s l).trunk.chain = s.trunk.chain ∧ (breakHold s l).trunk.relayDown = s.trunk.relayDown ∧
    (breakHold s l).trunk.relayUp = s.trunk.relayUp ∧ (breakHold s l).trunk.requests = s.trunk.requests ∧
    (breakHold s l).trunk.inHand = s.trunk.inHand ∧ (breakHold s l).trunk.outQueue = s.trunk.outQueue ∧
    (breakHold s l).trunk.reserved = s.trunk.reserved ∧ (breakHold s l).trunk.downAbsent = s.trunk.downAbsent ∧
    (breakHold s l).trunk.lastError = s.trunk.lastError ∧ (breakHold s l).trunk.upTx = s.trunk.upTx ∧
    (breakHold s l).trunk.downTx = s.trunk.downTx := by
  simp [breakHold]

@[simp] theorem answerWaiting_frame (s : State) (l : LineNo) (a : Answer) :
    (answerWaiting s l a).pending = s.pending ∧ (answerWaiting s l a).time = s.time ∧
    (answerWaiting s l a).queue = s.queue ∧ (answerWaiting s l a).tracker = s.tracker ∧
    (answerWaiting s l a).override = s.override ∧ (answerWaiting s l a).issue = s.issue ∧
    (answerWaiting s l a).minibar = s.minibar ∧ (answerWaiting s l a).store = s.store ∧
    (answerWaiting s l a).port = s.port ∧ (answerWaiting s l a).loader = s.loader ∧
    (answerWaiting s l a).pruner = s.pruner ∧ (answerWaiting s l a).journal = s.journal ∧
    (answerWaiting s l a).startup = s.startup ∧ (answerWaiting s l a).pins = s.pins ∧
    (answerWaiting s l a).trunk.chain = s.trunk.chain ∧ (answerWaiting s l a).trunk.relayDown = s.trunk.relayDown ∧
    (answerWaiting s l a).trunk.relayUp = s.trunk.relayUp ∧
    (answerWaiting s l a).trunk.requests = s.trunk.requests ∧ (answerWaiting s l a).trunk.inHand = s.trunk.inHand ∧
    (answerWaiting s l a).trunk.notices = s.trunk.notices ∧
    (answerWaiting s l a).trunk.downAbsent = s.trunk.downAbsent ∧
    (answerWaiting s l a).trunk.lastError = s.trunk.lastError ∧ (answerWaiting s l a).trunk.upTx = s.trunk.upTx ∧
    (answerWaiting s l a).trunk.downTx = s.trunk.downTx := by
  unfold answerWaiting; split <;> simp

@[simp] theorem releaseLine_frame (s : State) (l : LineNo) :
    (releaseLine s l).pending = s.pending ∧ (releaseLine s l).time = s.time ∧ (releaseLine s l).queue = s.queue ∧
    (releaseLine s l).tracker = s.tracker ∧ (releaseLine s l).override = s.override ∧
    (releaseLine s l).issue = s.issue ∧ (releaseLine s l).minibar = s.minibar ∧ (releaseLine s l).store = s.store ∧
    (releaseLine s l).port = s.port ∧ (releaseLine s l).loader = s.loader ∧ (releaseLine s l).pruner = s.pruner ∧
    (releaseLine s l).startup = s.startup ∧ (releaseLine s l).pins = s.pins ∧
    (releaseLine s l).journal.push = s.journal.push ∧ (releaseLine s l).journal.batch = s.journal.batch ∧
    (releaseLine s l).journal.frozen = s.journal.frozen ∧ (releaseLine s l).trunk.chain = s.trunk.chain ∧
    (releaseLine s l).trunk.relayDown = s.trunk.relayDown ∧ (releaseLine s l).trunk.relayUp = s.trunk.relayUp ∧
    (releaseLine s l).trunk.requests = s.trunk.requests ∧ (releaseLine s l).trunk.inHand = s.trunk.inHand ∧
    (releaseLine s l).trunk.downAbsent = s.trunk.downAbsent ∧
    (releaseLine s l).trunk.lastError = s.trunk.lastError ∧ (releaseLine s l).trunk.upTx = s.trunk.upTx ∧
    (releaseLine s l).trunk.downTx = s.trunk.downTx := by
  unfold releaseLine; (repeat' split) <;> simp

@[simp] theorem foldl_releaseLine_frame (l : List LineNo) (s : State) :
    (l.foldl releaseLine s).pending = s.pending ∧ (l.foldl releaseLine s).time = s.time ∧
    (l.foldl releaseLine s).queue = s.queue ∧ (l.foldl releaseLine s).tracker = s.tracker ∧
    (l.foldl releaseLine s).override = s.override ∧ (l.foldl releaseLine s).issue = s.issue ∧
    (l.foldl releaseLine s).minibar = s.minibar ∧ (l.foldl releaseLine s).store = s.store ∧
    (l.foldl releaseLine s).port = s.port ∧ (l.foldl releaseLine s).loader = s.loader ∧
    (l.foldl releaseLine s).pruner = s.pruner ∧ (l.foldl releaseLine s).startup = s.startup ∧
    (l.foldl releaseLine s).pins = s.pins ∧ (l.foldl releaseLine s).journal.push = s.journal.push ∧
    (l.foldl releaseLine s).journal.batch = s.journal.batch ∧
    (l.foldl releaseLine s).journal.frozen = s.journal.frozen ∧
    (l.foldl releaseLine s).trunk.chain = s.trunk.chain ∧
    (l.foldl releaseLine s).trunk.relayDown = s.trunk.relayDown ∧
    (l.foldl releaseLine s).trunk.relayUp = s.trunk.relayUp ∧
    (l.foldl releaseLine s).trunk.requests = s.trunk.requests ∧
    (l.foldl releaseLine s).trunk.inHand = s.trunk.inHand ∧
    (l.foldl releaseLine s).trunk.downAbsent = s.trunk.downAbsent ∧
    (l.foldl releaseLine s).trunk.lastError = s.trunk.lastError ∧
    (l.foldl releaseLine s).trunk.upTx = s.trunk.upTx ∧ (l.foldl releaseLine s).trunk.downTx = s.trunk.downTx := ⟨foldl_keeps (fun s => s.pending) _ (by simp) _ _,
    foldl_keeps (fun s => s.time) _ (by simp) _ _,
    foldl_keeps (fun s => s.queue) _ (by simp) _ _,
    foldl_keeps (fun s => s.tracker) _ (by simp) _ _,
    foldl_keeps (fun s => s.override) _ (by simp) _ _,
    foldl_keeps (fun s => s.issue) _ (by simp) _ _,
    foldl_keeps (fun s => s.minibar) _ (by simp) _ _,
    foldl_keeps (fun s => s.store) _ (by simp) _ _,
    foldl_keeps (fun s => s.port) _ (by simp) _ _,
    foldl_keeps (fun s => s.loader) _ (by simp) _ _,
    foldl_keeps (fun s => s.pruner) _ (by simp) _ _,
    foldl_keeps (fun s => s.startup) _ (by simp) _ _,
    foldl_keeps (fun s => s.pins) _ (by simp) _ _,
    foldl_keeps (fun s => s.journal.push) _ (by simp) _ _,
    foldl_keeps (fun s => s.journal.batch) _ (by simp) _ _,
    foldl_keeps (fun s => s.journal.frozen) _ (by simp) _ _,
    foldl_keeps (fun s => s.trunk.chain) _ (by simp) _ _,
    foldl_keeps (fun s => s.trunk.relayDown) _ (by simp) _ _,
    foldl_keeps (fun s => s.trunk.relayUp) _ (by simp) _ _,
    foldl_keeps (fun s => s.trunk.requests) _ (by simp) _ _,
    foldl_keeps (fun s => s.trunk.inHand) _ (by simp) _ _,
    foldl_keeps (fun s => s.trunk.downAbsent) _ (by simp) _ _,
    foldl_keeps (fun s => s.trunk.lastError) _ (by simp) _ _,
    foldl_keeps (fun s => s.trunk.upTx) _ (by simp) _ _,
    foldl_keeps (fun s => s.trunk.downTx) _ (by simp) _ _⟩

@[simp] theorem queueDoors_frame (s : State) (c : Command) :
    (queueDoors s c).pending = s.pending ∧ (queueDoors s c).queue = s.queue ∧ (queueDoors s c).tracker = s.tracker ∧
    (queueDoors s c).override = s.override ∧ (queueDoors s c).minibar = s.minibar ∧
    (queueDoors s c).store = s.store ∧ (queueDoors s c).port = s.port ∧ (queueDoors s c).loader = s.loader ∧
    (queueDoors s c).pruner = s.pruner ∧ (queueDoors s c).startup = s.startup ∧ (queueDoors s c).pins = s.pins ∧
    (queueDoors s c).time.tick = s.time.tick ∧ (queueDoors s c).time.clock = s.time.clock ∧
    (queueDoors s c).time.expiring = s.time.expiring ∧ (queueDoors s c).time.minuteEvents = s.time.minuteEvents ∧
    (queueDoors s c).journal.push = s.journal.push ∧ (queueDoors s c).journal.batch = s.journal.batch ∧
    (queueDoors s c).journal.frozen = s.journal.frozen ∧ (queueDoors s c).trunk.chain = s.trunk.chain ∧
    (queueDoors s c).trunk.relayDown = s.trunk.relayDown ∧ (queueDoors s c).trunk.relayUp = s.trunk.relayUp ∧
    (queueDoors s c).trunk.requests = s.trunk.requests ∧ (queueDoors s c).trunk.inHand = s.trunk.inHand ∧
    (queueDoors s c).trunk.outQueue = s.trunk.outQueue ∧ (queueDoors s c).trunk.reserved = s.trunk.reserved ∧
    (queueDoors s c).trunk.downAbsent = s.trunk.downAbsent ∧ (queueDoors s c).trunk.lastError = s.trunk.lastError ∧
    (queueDoors s c).trunk.upTx = s.trunk.upTx ∧ (queueDoors s c).trunk.downTx = s.trunk.downTx := by
  simp [queueDoors]

@[simp] theorem enterRelease_frame (s : State) :
    (enterRelease s).pending = s.pending ∧ (enterRelease s).queue = s.queue ∧ (enterRelease s).tracker = s.tracker ∧
    (enterRelease s).override = s.override ∧ (enterRelease s).minibar = s.minibar ∧
    (enterRelease s).store = s.store ∧ (enterRelease s).port = s.port ∧ (enterRelease s).loader = s.loader ∧
    (enterRelease s).pruner = s.pruner ∧ (enterRelease s).startup = s.startup ∧ (enterRelease s).pins = s.pins ∧
    (enterRelease s).time.tick = s.time.tick ∧ (enterRelease s).time.clock = s.time.clock ∧
    (enterRelease s).time.expiring = s.time.expiring ∧ (enterRelease s).time.minuteEvents = s.time.minuteEvents ∧
    (enterRelease s).journal.push = s.journal.push ∧ (enterRelease s).journal.batch = s.journal.batch ∧
    (enterRelease s).journal.frozen = s.journal.frozen ∧ (enterRelease s).trunk.chain = s.trunk.chain ∧
    (enterRelease s).trunk.relayDown = s.trunk.relayDown ∧ (enterRelease s).trunk.relayUp = s.trunk.relayUp ∧
    (enterRelease s).trunk.requests = s.trunk.requests ∧ (enterRelease s).trunk.inHand = s.trunk.inHand ∧
    (enterRelease s).trunk.downAbsent = s.trunk.downAbsent ∧ (enterRelease s).trunk.lastError = s.trunk.lastError ∧
    (enterRelease s).trunk.upTx = s.trunk.upTx ∧ (enterRelease s).trunk.downTx = s.trunk.downTx := by
  simp [enterRelease]

@[simp] theorem leaveRelease_frame (s : State) :
    (leaveRelease s).pending = s.pending ∧ (leaveRelease s).queue = s.queue ∧ (leaveRelease s).tracker = s.tracker ∧
    (leaveRelease s).override = s.override ∧ (leaveRelease s).minibar = s.minibar ∧
    (leaveRelease s).store = s.store ∧ (leaveRelease s).port = s.port ∧ (leaveRelease s).loader = s.loader ∧
    (leaveRelease s).pruner = s.pruner ∧ (leaveRelease s).startup = s.startup ∧ (leaveRelease s).pins = s.pins ∧
    (leaveRelease s).time.tick = s.time.tick ∧ (leaveRelease s).time.clock = s.time.clock ∧
    (leaveRelease s).time.expiring = s.time.expiring ∧ (leaveRelease s).time.minuteEvents = s.time.minuteEvents ∧
    (leaveRelease s).journal.push = s.journal.push ∧ (leaveRelease s).journal.batch = s.journal.batch ∧
    (leaveRelease s).journal.frozen = s.journal.frozen ∧ (leaveRelease s).trunk.chain = s.trunk.chain ∧
    (leaveRelease s).trunk.relayDown = s.trunk.relayDown ∧ (leaveRelease s).trunk.relayUp = s.trunk.relayUp ∧
    (leaveRelease s).trunk.requests = s.trunk.requests ∧ (leaveRelease s).trunk.inHand = s.trunk.inHand ∧
    (leaveRelease s).trunk.outQueue = s.trunk.outQueue ∧ (leaveRelease s).trunk.reserved = s.trunk.reserved ∧
    (leaveRelease s).trunk.downAbsent = s.trunk.downAbsent ∧ (leaveRelease s).trunk.lastError = s.trunk.lastError ∧
    (leaveRelease s).trunk.upTx = s.trunk.upTx ∧ (leaveRelease s).trunk.downTx = s.trunk.downTx := by
  simp [leaveRelease]

@[simp] theorem recomputeLevel_frame (s : State) :
    (recomputeLevel s).pending = s.pending ∧ (recomputeLevel s).queue = s.queue ∧
    (recomputeLevel s).tracker = s.tracker ∧ (recomputeLevel s).minibar = s.minibar ∧
    (recomputeLevel s).store = s.store ∧ (recomputeLevel s).port = s.port ∧ (recomputeLevel s).loader = s.loader ∧
    (recomputeLevel s).pruner = s.pruner ∧ (recomputeLevel s).startup = s.startup ∧
    (recomputeLevel s).pins = s.pins ∧ (recomputeLevel s).time.tick = s.time.tick ∧
    (recomputeLevel s).time.clock = s.time.clock ∧ (recomputeLevel s).time.expiring = s.time.expiring ∧
    (recomputeLevel s).time.minuteEvents = s.time.minuteEvents ∧
    (recomputeLevel s).override.requested = s.override.requested ∧
    (recomputeLevel s).override.pinAsserted = s.override.pinAsserted ∧
    (recomputeLevel s).journal.push = s.journal.push ∧ (recomputeLevel s).journal.batch = s.journal.batch ∧
    (recomputeLevel s).journal.frozen = s.journal.frozen ∧ (recomputeLevel s).trunk.chain = s.trunk.chain ∧
    (recomputeLevel s).trunk.relayDown = s.trunk.relayDown ∧ (recomputeLevel s).trunk.relayUp = s.trunk.relayUp ∧
    (recomputeLevel s).trunk.requests = s.trunk.requests ∧ (recomputeLevel s).trunk.inHand = s.trunk.inHand ∧
    (recomputeLevel s).trunk.downAbsent = s.trunk.downAbsent ∧
    (recomputeLevel s).trunk.lastError = s.trunk.lastError ∧ (recomputeLevel s).trunk.upTx = s.trunk.upTx ∧
    (recomputeLevel s).trunk.downTx = s.trunk.downTx := by
  unfold recomputeLevel; dsimp only; (repeat' split) <;> simp

@[simp] theorem handPresentation_frame (s : State) (p : Presentation) :
    (handPresentation s p).pending = s.pending ∧ (handPresentation s p).tracker = s.tracker ∧
    (handPresentation s p).override = s.override ∧ (handPresentation s p).minibar = s.minibar ∧
    (handPresentation s p).store = s.store ∧ (handPresentation s p).port = s.port ∧
    (handPresentation s p).loader = s.loader ∧ (handPresentation s p).pruner = s.pruner ∧
    (handPresentation s p).startup = s.startup ∧ (handPresentation s p).pins = s.pins ∧
    (handPresentation s p).time.tick = s.time.tick ∧ (handPresentation s p).time.clock = s.time.clock ∧
    (handPresentation s p).time.expiring = s.time.expiring ∧
    (handPresentation s p).time.minuteEvents = s.time.minuteEvents ∧
    (handPresentation s p).journal.push = s.journal.push ∧ (handPresentation s p).journal.batch = s.journal.batch ∧
    (handPresentation s p).journal.frozen = s.journal.frozen ∧ (handPresentation s p).trunk.chain = s.trunk.chain ∧
    (handPresentation s p).trunk.relayDown = s.trunk.relayDown ∧
    (handPresentation s p).trunk.relayUp = s.trunk.relayUp ∧
    (handPresentation s p).trunk.requests = s.trunk.requests ∧
    (handPresentation s p).trunk.inHand = s.trunk.inHand ∧
    (handPresentation s p).trunk.outQueue = s.trunk.outQueue ∧
    (handPresentation s p).trunk.reserved = s.trunk.reserved ∧
    (handPresentation s p).trunk.downAbsent = s.trunk.downAbsent ∧
    (handPresentation s p).trunk.lastError = s.trunk.lastError ∧ (handPresentation s p).trunk.upTx = s.trunk.upTx ∧
    (handPresentation s p).trunk.downTx = s.trunk.downTx := by
  unfold handPresentation; (repeat' split) <;> simp

@[simp] theorem blankReport_frame (s : State) (n : Node) (serial : Serial) :
    (blankReport s n serial).pending = s.pending ∧ (blankReport s n serial).time = s.time ∧
    (blankReport s n serial).lines = s.lines ∧ (blankReport s n serial).queue = s.queue ∧
    (blankReport s n serial).tracker = s.tracker ∧ (blankReport s n serial).override = s.override ∧
    (blankReport s n serial).minibar = s.minibar ∧ (blankReport s n serial).store = s.store ∧
    (blankReport s n serial).port = s.port ∧ (blankReport s n serial).loader = s.loader ∧
    (blankReport s n serial).pruner = s.pruner ∧ (blankReport s n serial).journal = s.journal ∧
    (blankReport s n serial).trunk = s.trunk ∧ (blankReport s n serial).startup = s.startup ∧
    (blankReport s n serial).pins = s.pins := by
  unfold blankReport; dsimp only; (repeat' split) <;> simp

@[simp] theorem writtenReport_frame (s : State) (n : Node) :
    (writtenReport s n).pending = s.pending ∧ (writtenReport s n).queue = s.queue ∧
    (writtenReport s n).tracker = s.tracker ∧ (writtenReport s n).override = s.override ∧
    (writtenReport s n).minibar = s.minibar ∧ (writtenReport s n).store = s.store ∧
    (writtenReport s n).port = s.port ∧ (writtenReport s n).loader = s.loader ∧
    (writtenReport s n).pruner = s.pruner ∧ (writtenReport s n).journal = s.journal ∧
    (writtenReport s n).trunk = s.trunk ∧ (writtenReport s n).startup = s.startup ∧
    (writtenReport s n).pins = s.pins ∧ (writtenReport s n).time.tick = s.time.tick ∧
    (writtenReport s n).time.clock = s.time.clock ∧ (writtenReport s n).time.expiring = s.time.expiring ∧
    (writtenReport s n).time.minuteEvents = s.time.minuteEvents := by
  unfold writtenReport; dsimp only; (repeat' split) <;> simp

@[simp] theorem writeFailedReport_frame (s : State) (n : Node) :
    (writeFailedReport s n).pending = s.pending ∧ (writeFailedReport s n).queue = s.queue ∧
    (writeFailedReport s n).tracker = s.tracker ∧ (writeFailedReport s n).override = s.override ∧
    (writeFailedReport s n).minibar = s.minibar ∧ (writeFailedReport s n).store = s.store ∧
    (writeFailedReport s n).port = s.port ∧ (writeFailedReport s n).loader = s.loader ∧
    (writeFailedReport s n).pruner = s.pruner ∧ (writeFailedReport s n).startup = s.startup ∧
    (writeFailedReport s n).pins = s.pins ∧ (writeFailedReport s n).time.tick = s.time.tick ∧
    (writeFailedReport s n).time.clock = s.time.clock ∧ (writeFailedReport s n).time.expiring = s.time.expiring ∧
    (writeFailedReport s n).time.minuteEvents = s.time.minuteEvents ∧
    (writeFailedReport s n).journal.push = s.journal.push ∧
    (writeFailedReport s n).journal.batch = s.journal.batch ∧
    (writeFailedReport s n).journal.frozen = s.journal.frozen ∧
    (writeFailedReport s n).trunk.chain = s.trunk.chain ∧
    (writeFailedReport s n).trunk.relayDown = s.trunk.relayDown ∧
    (writeFailedReport s n).trunk.relayUp = s.trunk.relayUp ∧
    (writeFailedReport s n).trunk.requests = s.trunk.requests ∧
    (writeFailedReport s n).trunk.inHand = s.trunk.inHand ∧
    (writeFailedReport s n).trunk.outQueue = s.trunk.outQueue ∧
    (writeFailedReport s n).trunk.reserved = s.trunk.reserved ∧
    (writeFailedReport s n).trunk.downAbsent = s.trunk.downAbsent ∧
    (writeFailedReport s n).trunk.lastError = s.trunk.lastError ∧
    (writeFailedReport s n).trunk.upTx = s.trunk.upTx ∧ (writeFailedReport s n).trunk.downTx = s.trunk.downTx := by
  unfold writeFailedReport; (repeat' split) <;> simp

@[simp] theorem encoderStatus_frame (s : State) (n : Node) (status : Byte) :
    (encoderStatus s n status).pending = s.pending ∧ (encoderStatus s n status).queue = s.queue ∧
    (encoderStatus s n status).tracker = s.tracker ∧ (encoderStatus s n status).override = s.override ∧
    (encoderStatus s n status).minibar = s.minibar ∧ (encoderStatus s n status).store = s.store ∧
    (encoderStatus s n status).port = s.port ∧ (encoderStatus s n status).loader = s.loader ∧
    (encoderStatus s n status).pruner = s.pruner ∧ (encoderStatus s n status).startup = s.startup ∧
    (encoderStatus s n status).pins = s.pins ∧ (encoderStatus s n status).time.tick = s.time.tick ∧
    (encoderStatus s n status).time.clock = s.time.clock ∧
    (encoderStatus s n status).time.expiring = s.time.expiring ∧
    (encoderStatus s n status).time.minuteEvents = s.time.minuteEvents ∧
    (encoderStatus s n status).journal.push = s.journal.push ∧
    (encoderStatus s n status).journal.batch = s.journal.batch ∧
    (encoderStatus s n status).journal.frozen = s.journal.frozen ∧
    (encoderStatus s n status).trunk.chain = s.trunk.chain ∧
    (encoderStatus s n status).trunk.relayDown = s.trunk.relayDown ∧
    (encoderStatus s n status).trunk.relayUp = s.trunk.relayUp ∧
    (encoderStatus s n status).trunk.requests = s.trunk.requests ∧
    (encoderStatus s n status).trunk.inHand = s.trunk.inHand ∧
    (encoderStatus s n status).trunk.outQueue = s.trunk.outQueue ∧
    (encoderStatus s n status).trunk.reserved = s.trunk.reserved ∧
    (encoderStatus s n status).trunk.downAbsent = s.trunk.downAbsent ∧
    (encoderStatus s n status).trunk.lastError = s.trunk.lastError ∧
    (encoderStatus s n status).trunk.upTx = s.trunk.upTx ∧ (encoderStatus s n status).trunk.downTx = s.trunk.downTx := by
  unfold encoderStatus; dsimp only; split <;> simp

@[simp] theorem reportItem_frame (s : State) (n : Node) (event : NodeEvent) (status : Compartments) :
    (reportItem s n event status).pending = s.pending ∧ (reportItem s n event status).time = s.time ∧
    (reportItem s n event status).lines = s.lines ∧ (reportItem s n event status).queue = s.queue ∧
    (reportItem s n event status).tracker = s.tracker ∧ (reportItem s n event status).override = s.override ∧
    (reportItem s n event status).issue = s.issue ∧ (reportItem s n event status).store = s.store ∧
    (reportItem s n event status).port = s.port ∧ (reportItem s n event status).loader = s.loader ∧
    (reportItem s n event status).pruner = s.pruner ∧ (reportItem s n event status).journal = s.journal ∧
    (reportItem s n event status).trunk = s.trunk ∧ (reportItem s n event status).startup = s.startup ∧
    (reportItem s n event status).pins = s.pins := by
  unfold reportItem; split <;> simp

@[simp] theorem handPresent_frame (s : State) (n : Node) (g : Grant) (stamp : Capture) :
    (handPresent s n g stamp).pending = s.pending ∧ (handPresent s n g stamp).tracker = s.tracker ∧
    (handPresent s n g stamp).override = s.override ∧ (handPresent s n g stamp).minibar = s.minibar ∧
    (handPresent s n g stamp).store = s.store ∧ (handPresent s n g stamp).port = s.port ∧
    (handPresent s n g stamp).loader = s.loader ∧ (handPresent s n g stamp).pruner = s.pruner ∧
    (handPresent s n g stamp).startup = s.startup ∧ (handPresent s n g stamp).pins = s.pins ∧
    (handPresent s n g stamp).time.tick = s.time.tick ∧ (handPresent s n g stamp).time.clock = s.time.clock ∧
    (handPresent s n g stamp).time.expiring = s.time.expiring ∧
    (handPresent s n g stamp).time.minuteEvents = s.time.minuteEvents ∧
    (handPresent s n g stamp).journal.push = s.journal.push ∧
    (handPresent s n g stamp).journal.batch = s.journal.batch ∧
    (handPresent s n g stamp).journal.frozen = s.journal.frozen ∧
    (handPresent s n g stamp).trunk.chain = s.trunk.chain ∧
    (handPresent s n g stamp).trunk.relayDown = s.trunk.relayDown ∧
    (handPresent s n g stamp).trunk.relayUp = s.trunk.relayUp ∧
    (handPresent s n g stamp).trunk.requests = s.trunk.requests ∧
    (handPresent s n g stamp).trunk.inHand = s.trunk.inHand ∧
    (handPresent s n g stamp).trunk.outQueue = s.trunk.outQueue ∧
    (handPresent s n g stamp).trunk.reserved = s.trunk.reserved ∧
    (handPresent s n g stamp).trunk.downAbsent = s.trunk.downAbsent ∧
    (handPresent s n g stamp).trunk.lastError = s.trunk.lastError ∧
    (handPresent s n g stamp).trunk.upTx = s.trunk.upTx ∧ (handPresent s n g stamp).trunk.downTx = s.trunk.downTx := by
  unfold handPresent; split <;> simp

@[simp] theorem handContact_frame (s : State) (n : Node) (status : Byte) (level : Bool) :
    (handContact s n status level).pending = s.pending ∧ (handContact s n status level).lines = s.lines ∧
    (handContact s n status level).queue = s.queue ∧ (handContact s n status level).override = s.override ∧
    (handContact s n status level).issue = s.issue ∧ (handContact s n status level).minibar = s.minibar ∧
    (handContact s n status level).store = s.store ∧ (handContact s n status level).port = s.port ∧
    (handContact s n status level).loader = s.loader ∧ (handContact s n status level).pruner = s.pruner ∧
    (handContact s n status level).startup = s.startup ∧ (handContact s n status level).pins = s.pins ∧
    (handContact s n status level).time.tick = s.time.tick ∧
    (handContact s n status level).time.clock = s.time.clock ∧
    (handContact s n status level).time.expiring = s.time.expiring ∧
    (handContact s n status level).time.minuteEvents = s.time.minuteEvents ∧
    (handContact s n status level).tracker.writes = s.tracker.writes ∧
    (handContact s n status level).journal.push = s.journal.push ∧
    (handContact s n status level).journal.batch = s.journal.batch ∧
    (handContact s n status level).journal.frozen = s.journal.frozen ∧
    (handContact s n status level).trunk.chain = s.trunk.chain ∧
    (handContact s n status level).trunk.relayDown = s.trunk.relayDown ∧
    (handContact s n status level).trunk.relayUp = s.trunk.relayUp ∧
    (handContact s n status level).trunk.requests = s.trunk.requests ∧
    (handContact s n status level).trunk.inHand = s.trunk.inHand ∧
    (handContact s n status level).trunk.outQueue = s.trunk.outQueue ∧
    (handContact s n status level).trunk.reserved = s.trunk.reserved ∧
    (handContact s n status level).trunk.downAbsent = s.trunk.downAbsent ∧
    (handContact s n status level).trunk.lastError = s.trunk.lastError ∧
    (handContact s n status level).trunk.upTx = s.trunk.upTx ∧
    (handContact s n status level).trunk.downTx = s.trunk.downTx := by
  simp [handContact]

@[simp] theorem handEvent_frame (s : State) (n : Node) (kind : NodeKind) (event : NodeEvent) (status : Byte) (stamp : Capture) :
    (handEvent s n kind event status stamp).pending = s.pending ∧
    (handEvent s n kind event status stamp).override = s.override ∧
    (handEvent s n kind event status stamp).minibar = s.minibar ∧
    (handEvent s n kind event status stamp).store = s.store ∧
    (handEvent s n kind event status stamp).port = s.port ∧
    (handEvent s n kind event status stamp).loader = s.loader ∧
    (handEvent s n kind event status stamp).pruner = s.pruner ∧
    (handEvent s n kind event status stamp).startup = s.startup ∧
    (handEvent s n kind event status stamp).pins = s.pins ∧
    (handEvent s n kind event status stamp).time.tick = s.time.tick ∧
    (handEvent s n kind event status stamp).time.clock = s.time.clock ∧
    (handEvent s n kind event status stamp).time.expiring = s.time.expiring ∧
    (handEvent s n kind event status stamp).time.minuteEvents = s.time.minuteEvents ∧
    (handEvent s n kind event status stamp).journal.push = s.journal.push ∧
    (handEvent s n kind event status stamp).journal.batch = s.journal.batch ∧
    (handEvent s n kind event status stamp).journal.frozen = s.journal.frozen ∧
    (handEvent s n kind event status stamp).trunk.chain = s.trunk.chain ∧
    (handEvent s n kind event status stamp).trunk.relayDown = s.trunk.relayDown ∧
    (handEvent s n kind event status stamp).trunk.relayUp = s.trunk.relayUp ∧
    (handEvent s n kind event status stamp).trunk.requests = s.trunk.requests ∧
    (handEvent s n kind event status stamp).trunk.inHand = s.trunk.inHand ∧
    (handEvent s n kind event status stamp).trunk.outQueue = s.trunk.outQueue ∧
    (handEvent s n kind event status stamp).trunk.reserved = s.trunk.reserved ∧
    (handEvent s n kind event status stamp).trunk.downAbsent = s.trunk.downAbsent ∧
    (handEvent s n kind event status stamp).trunk.lastError = s.trunk.lastError ∧
    (handEvent s n kind event status stamp).trunk.upTx = s.trunk.upTx ∧
    (handEvent s n kind event status stamp).trunk.downTx = s.trunk.downTx := by
  unfold handEvent; (repeat' split) <;> simp

@[simp] theorem handStatus_frame (s : State) (n : Node) (kind : NodeKind) (event : NodeEvent) (status : Byte) :
    (handStatus s n kind event status).pending = s.pending ∧ (handStatus s n kind event status).queue = s.queue ∧
    (handStatus s n kind event status).override = s.override ∧ (handStatus s n kind event status).store = s.store ∧
    (handStatus s n kind event status).port = s.port ∧ (handStatus s n kind event status).loader = s.loader ∧
    (handStatus s n kind event status).pruner = s.pruner ∧ (handStatus s n kind event status).startup = s.startup ∧
    (handStatus s n kind event status).pins = s.pins ∧ (handStatus s n kind event status).time.tick = s.time.tick ∧
    (handStatus s n kind event status).time.clock = s.time.clock ∧
    (handStatus s n kind event status).time.expiring = s.time.expiring ∧
    (handStatus s n kind event status).time.minuteEvents = s.time.minuteEvents ∧
    (handStatus s n kind event status).journal.push = s.journal.push ∧
    (handStatus s n kind event status).journal.batch = s.journal.batch ∧
    (handStatus s n kind event status).journal.frozen = s.journal.frozen ∧
    (handStatus s n kind event status).trunk.chain = s.trunk.chain ∧
    (handStatus s n kind event status).trunk.relayDown = s.trunk.relayDown ∧
    (handStatus s n kind event status).trunk.relayUp = s.trunk.relayUp ∧
    (handStatus s n kind event status).trunk.requests = s.trunk.requests ∧
    (handStatus s n kind event status).trunk.inHand = s.trunk.inHand ∧
    (handStatus s n kind event status).trunk.outQueue = s.trunk.outQueue ∧
    (handStatus s n kind event status).trunk.reserved = s.trunk.reserved ∧
    (handStatus s n kind event status).trunk.downAbsent = s.trunk.downAbsent ∧
    (handStatus s n kind event status).trunk.lastError = s.trunk.lastError ∧
    (handStatus s n kind event status).trunk.upTx = s.trunk.upTx ∧
    (handStatus s n kind event status).trunk.downTx = s.trunk.downTx := by
  unfold handStatus; split <;> simp

@[simp] theorem handAnswer_frame (s : State) (n : Node) (kind : NodeKind) (event : NodeEvent) (status : Byte) (stamp : Capture) :
    (handAnswer s n kind event status stamp).pending = s.pending ∧
    (handAnswer s n kind event status stamp).override = s.override ∧
    (handAnswer s n kind event status stamp).store = s.store ∧
    (handAnswer s n kind event status stamp).port = s.port ∧
    (handAnswer s n kind event status stamp).loader = s.loader ∧
    (handAnswer s n kind event status stamp).pruner = s.pruner ∧
    (handAnswer s n kind event status stamp).startup = s.startup ∧
    (handAnswer s n kind event status stamp).pins = s.pins ∧
    (handAnswer s n kind event status stamp).time.tick = s.time.tick ∧
    (handAnswer s n kind event status stamp).time.clock = s.time.clock ∧
    (handAnswer s n kind event status stamp).time.expiring = s.time.expiring ∧
    (handAnswer s n kind event status stamp).time.minuteEvents = s.time.minuteEvents ∧
    (handAnswer s n kind event status stamp).journal.push = s.journal.push ∧
    (handAnswer s n kind event status stamp).journal.batch = s.journal.batch ∧
    (handAnswer s n kind event status stamp).journal.frozen = s.journal.frozen ∧
    (handAnswer s n kind event status stamp).trunk.chain = s.trunk.chain ∧
    (handAnswer s n kind event status stamp).trunk.relayDown = s.trunk.relayDown ∧
    (handAnswer s n kind event status stamp).trunk.relayUp = s.trunk.relayUp ∧
    (handAnswer s n kind event status stamp).trunk.requests = s.trunk.requests ∧
    (handAnswer s n kind event status stamp).trunk.inHand = s.trunk.inHand ∧
    (handAnswer s n kind event status stamp).trunk.outQueue = s.trunk.outQueue ∧
    (handAnswer s n kind event status stamp).trunk.reserved = s.trunk.reserved ∧
    (handAnswer s n kind event status stamp).trunk.downAbsent = s.trunk.downAbsent ∧
    (handAnswer s n kind event status stamp).trunk.lastError = s.trunk.lastError ∧
    (handAnswer s n kind event status stamp).trunk.upTx = s.trunk.upTx ∧
    (handAnswer s n kind event status stamp).trunk.downTx = s.trunk.downTx := by
  simp [handAnswer]

@[simp] theorem passUp_frame (s : State) (l : LineNo) (a : Addr) (chars : List Byte) :
    (passUp s l a chars).pending = s.pending ∧ (passUp s l a chars).time = s.time ∧
    (passUp s l a chars).lines = s.lines ∧ (passUp s l a chars).queue = s.queue ∧
    (passUp s l a chars).tracker = s.tracker ∧ (passUp s l a chars).override = s.override ∧
    (passUp s l a chars).issue = s.issue ∧ (passUp s l a chars).minibar = s.minibar ∧
    (passUp s l a chars).store = s.store ∧ (passUp s l a chars).port = s.port ∧
    (passUp s l a chars).loader = s.loader ∧ (passUp s l a chars).pruner = s.pruner ∧
    (passUp s l a chars).journal = s.journal ∧ (passUp s l a chars).startup = s.startup ∧
    (passUp s l a chars).pins = s.pins ∧ (passUp s l a chars).trunk.chain = s.trunk.chain ∧
    (passUp s l a chars).trunk.relayDown = s.trunk.relayDown ∧
    (passUp s l a chars).trunk.relayUp = s.trunk.relayUp ∧ (passUp s l a chars).trunk.requests = s.trunk.requests ∧
    (passUp s l a chars).trunk.inHand = s.trunk.inHand ∧ (passUp s l a chars).trunk.reserved = s.trunk.reserved ∧
    (passUp s l a chars).trunk.notices = s.trunk.notices ∧
    (passUp s l a chars).trunk.downAbsent = s.trunk.downAbsent ∧
    (passUp s l a chars).trunk.lastError = s.trunk.lastError ∧ (passUp s l a chars).trunk.upTx = s.trunk.upTx ∧
    (passUp s l a chars).trunk.downTx = s.trunk.downTx := by
  unfold passUp; split <;> simp

@[simp] theorem goodAnswer_frame (s : State) (n : Node) :
    (goodAnswer s n).pending = s.pending ∧ (goodAnswer s n).time = s.time ∧ (goodAnswer s n).queue = s.queue ∧
    (goodAnswer s n).tracker = s.tracker ∧ (goodAnswer s n).override = s.override ∧
    (goodAnswer s n).issue = s.issue ∧ (goodAnswer s n).minibar = s.minibar ∧ (goodAnswer s n).store = s.store ∧
    (goodAnswer s n).port = s.port ∧ (goodAnswer s n).loader = s.loader ∧ (goodAnswer s n).pruner = s.pruner ∧
    (goodAnswer s n).trunk = s.trunk ∧ (goodAnswer s n).startup = s.startup ∧ (goodAnswer s n).pins = s.pins ∧
    (goodAnswer s n).journal.push = s.journal.push ∧ (goodAnswer s n).journal.batch = s.journal.batch ∧
    (goodAnswer s n).journal.frozen = s.journal.frozen := by
  unfold goodAnswer; dsimp only; split <;> simp

@[simp] theorem missedAnswer_frame (s : State) (n : Node) :
    (missedAnswer s n).pending = s.pending ∧ (missedAnswer s n).queue = s.queue ∧
    (missedAnswer s n).tracker = s.tracker ∧ (missedAnswer s n).override = s.override ∧
    (missedAnswer s n).minibar = s.minibar ∧ (missedAnswer s n).store = s.store ∧ (missedAnswer s n).port = s.port ∧
    (missedAnswer s n).loader = s.loader ∧ (missedAnswer s n).pruner = s.pruner ∧
    (missedAnswer s n).startup = s.startup ∧ (missedAnswer s n).pins = s.pins ∧
    (missedAnswer s n).time.tick = s.time.tick ∧ (missedAnswer s n).time.clock = s.time.clock ∧
    (missedAnswer s n).time.expiring = s.time.expiring ∧
    (missedAnswer s n).time.minuteEvents = s.time.minuteEvents ∧ (missedAnswer s n).journal.push = s.journal.push ∧
    (missedAnswer s n).journal.batch = s.journal.batch ∧ (missedAnswer s n).journal.frozen = s.journal.frozen ∧
    (missedAnswer s n).trunk.chain = s.trunk.chain ∧ (missedAnswer s n).trunk.relayDown = s.trunk.relayDown ∧
    (missedAnswer s n).trunk.relayUp = s.trunk.relayUp ∧ (missedAnswer s n).trunk.requests = s.trunk.requests ∧
    (missedAnswer s n).trunk.inHand = s.trunk.inHand ∧ (missedAnswer s n).trunk.outQueue = s.trunk.outQueue ∧
    (missedAnswer s n).trunk.reserved = s.trunk.reserved ∧
    (missedAnswer s n).trunk.downAbsent = s.trunk.downAbsent ∧
    (missedAnswer s n).trunk.lastError = s.trunk.lastError ∧ (missedAnswer s n).trunk.upTx = s.trunk.upTx ∧
    (missedAnswer s n).trunk.downTx = s.trunk.downTx := by
  unfold missedAnswer; dsimp only; split <;> simp

@[simp] theorem beginPoll_frame (s : State) (l : LineNo) (a : Addr) :
    (beginPoll s l a).pending = s.pending ∧ (beginPoll s l a).time = s.time ∧ (beginPoll s l a).queue = s.queue ∧
    (beginPoll s l a).tracker = s.tracker ∧ (beginPoll s l a).override = s.override ∧
    (beginPoll s l a).issue = s.issue ∧ (beginPoll s l a).minibar = s.minibar ∧ (beginPoll s l a).store = s.store ∧
    (beginPoll s l a).port = s.port ∧ (beginPoll s l a).loader = s.loader ∧ (beginPoll s l a).pruner = s.pruner ∧
    (beginPoll s l a).journal = s.journal ∧ (beginPoll s l a).trunk = s.trunk ∧
    (beginPoll s l a).startup = s.startup ∧ (beginPoll s l a).pins = s.pins := by
  simp [beginPoll]

@[simp] theorem beginCall_frame (s : State) (l : LineNo) :
    (beginCall s l).pending = s.pending ∧ (beginCall s l).time = s.time ∧ (beginCall s l).queue = s.queue ∧
    (beginCall s l).tracker = s.tracker ∧ (beginCall s l).override = s.override ∧ (beginCall s l).issue = s.issue ∧
    (beginCall s l).minibar = s.minibar ∧ (beginCall s l).store = s.store ∧ (beginCall s l).port = s.port ∧
    (beginCall s l).loader = s.loader ∧ (beginCall s l).pruner = s.pruner ∧ (beginCall s l).journal = s.journal ∧
    (beginCall s l).trunk = s.trunk ∧ (beginCall s l).startup = s.startup ∧ (beginCall s l).pins = s.pins := by
  simp [beginCall]

@[simp] theorem beginCommand_frame (s : State) (l : LineNo) (a : Addr) (c : Command) :
    (beginCommand s l a c).pending = s.pending ∧ (beginCommand s l a c).time = s.time ∧
    (beginCommand s l a c).queue = s.queue ∧ (beginCommand s l a c).tracker = s.tracker ∧
    (beginCommand s l a c).override = s.override ∧ (beginCommand s l a c).issue = s.issue ∧
    (beginCommand s l a c).minibar = s.minibar ∧ (beginCommand s l a c).store = s.store ∧
    (beginCommand s l a c).port = s.port ∧ (beginCommand s l a c).loader = s.loader ∧
    (beginCommand s l a c).pruner = s.pruner ∧ (beginCommand s l a c).journal = s.journal ∧
    (beginCommand s l a c).trunk = s.trunk ∧ (beginCommand s l a c).startup = s.startup ∧
    (beginCommand s l a c).pins = s.pins := by
  simp [beginCommand]

@[simp] theorem endExchange_frame (s : State) (l : LineNo) :
    (endExchange s l).pending = s.pending ∧ (endExchange s l).time = s.time ∧ (endExchange s l).queue = s.queue ∧
    (endExchange s l).tracker = s.tracker ∧ (endExchange s l).override = s.override ∧
    (endExchange s l).issue = s.issue ∧ (endExchange s l).minibar = s.minibar ∧ (endExchange s l).store = s.store ∧
    (endExchange s l).port = s.port ∧ (endExchange s l).loader = s.loader ∧ (endExchange s l).pruner = s.pruner ∧
    (endExchange s l).journal = s.journal ∧ (endExchange s l).trunk = s.trunk ∧
    (endExchange s l).startup = s.startup ∧ (endExchange s l).pins = s.pins := by
  simp [endExchange]

@[simp] theorem missIf_frame (s : State) (n : Node) (d : DoorEntry) :
    (missIf s n d).pending = s.pending ∧ (missIf s n d).queue = s.queue ∧ (missIf s n d).tracker = s.tracker ∧
    (missIf s n d).override = s.override ∧ (missIf s n d).minibar = s.minibar ∧ (missIf s n d).store = s.store ∧
    (missIf s n d).port = s.port ∧ (missIf s n d).loader = s.loader ∧ (missIf s n d).pruner = s.pruner ∧
    (missIf s n d).startup = s.startup ∧ (missIf s n d).pins = s.pins ∧ (missIf s n d).time.tick = s.time.tick ∧
    (missIf s n d).time.clock = s.time.clock ∧ (missIf s n d).time.expiring = s.time.expiring ∧
    (missIf s n d).time.minuteEvents = s.time.minuteEvents ∧ (missIf s n d).journal.push = s.journal.push ∧
    (missIf s n d).journal.batch = s.journal.batch ∧ (missIf s n d).journal.frozen = s.journal.frozen ∧
    (missIf s n d).trunk.chain = s.trunk.chain ∧ (missIf s n d).trunk.relayDown = s.trunk.relayDown ∧
    (missIf s n d).trunk.relayUp = s.trunk.relayUp ∧ (missIf s n d).trunk.requests = s.trunk.requests ∧
    (missIf s n d).trunk.inHand = s.trunk.inHand ∧ (missIf s n d).trunk.outQueue = s.trunk.outQueue ∧
    (missIf s n d).trunk.reserved = s.trunk.reserved ∧ (missIf s n d).trunk.downAbsent = s.trunk.downAbsent ∧
    (missIf s n d).trunk.lastError = s.trunk.lastError ∧ (missIf s n d).trunk.upTx = s.trunk.upTx ∧
    (missIf s n d).trunk.downTx = s.trunk.downTx := by
  unfold missIf; split <;> simp

@[simp] theorem takeAnswer_frame (s : State) (l : LineNo) (d : DoorEntry) (ans : NodeAnswer) (event : NodeEvent) (stamp : Capture) :
    (takeAnswer s l d ans event stamp).pending = s.pending ∧
    (takeAnswer s l d ans event stamp).override = s.override ∧ (takeAnswer s l d ans event stamp).store = s.store ∧
    (takeAnswer s l d ans event stamp).port = s.port ∧ (takeAnswer s l d ans event stamp).loader = s.loader ∧
    (takeAnswer s l d ans event stamp).pruner = s.pruner ∧ (takeAnswer s l d ans event stamp).startup = s.startup ∧
    (takeAnswer s l d ans event stamp).pins = s.pins ∧ (takeAnswer s l d ans event stamp).time.tick = s.time.tick ∧
    (takeAnswer s l d ans event stamp).time.clock = s.time.clock ∧
    (takeAnswer s l d ans event stamp).time.expiring = s.time.expiring ∧
    (takeAnswer s l d ans event stamp).time.minuteEvents = s.time.minuteEvents ∧
    (takeAnswer s l d ans event stamp).journal.push = s.journal.push ∧
    (takeAnswer s l d ans event stamp).journal.batch = s.journal.batch ∧
    (takeAnswer s l d ans event stamp).journal.frozen = s.journal.frozen ∧
    (takeAnswer s l d ans event stamp).trunk.chain = s.trunk.chain ∧
    (takeAnswer s l d ans event stamp).trunk.relayDown = s.trunk.relayDown ∧
    (takeAnswer s l d ans event stamp).trunk.relayUp = s.trunk.relayUp ∧
    (takeAnswer s l d ans event stamp).trunk.requests = s.trunk.requests ∧
    (takeAnswer s l d ans event stamp).trunk.inHand = s.trunk.inHand ∧
    (takeAnswer s l d ans event stamp).trunk.reserved = s.trunk.reserved ∧
    (takeAnswer s l d ans event stamp).trunk.downAbsent = s.trunk.downAbsent ∧
    (takeAnswer s l d ans event stamp).trunk.lastError = s.trunk.lastError ∧
    (takeAnswer s l d ans event stamp).trunk.upTx = s.trunk.upTx ∧
    (takeAnswer s l d ans event stamp).trunk.downTx = s.trunk.downTx := by
  unfold takeAnswer; split <;> simp

@[simp] theorem answerEnd_frame (s : State) (l : LineNo) (e : Exchange) (chars : List Byte) :
    (answerEnd s l e chars).pending = s.pending ∧ (answerEnd s l e chars).override = s.override ∧
    (answerEnd s l e chars).store = s.store ∧ (answerEnd s l e chars).port = s.port ∧
    (answerEnd s l e chars).loader = s.loader ∧ (answerEnd s l e chars).pruner = s.pruner ∧
    (answerEnd s l e chars).startup = s.startup ∧ (answerEnd s l e chars).pins = s.pins ∧
    (answerEnd s l e chars).time.tick = s.time.tick ∧ (answerEnd s l e chars).time.clock = s.time.clock ∧
    (answerEnd s l e chars).time.expiring = s.time.expiring ∧
    (answerEnd s l e chars).time.minuteEvents = s.time.minuteEvents ∧
    (answerEnd s l e chars).journal.push = s.journal.push ∧
    (answerEnd s l e chars).journal.batch = s.journal.batch ∧
    (answerEnd s l e chars).journal.frozen = s.journal.frozen ∧
    (answerEnd s l e chars).trunk.chain = s.trunk.chain ∧
    (answerEnd s l e chars).trunk.relayDown = s.trunk.relayDown ∧
    (answerEnd s l e chars).trunk.relayUp = s.trunk.relayUp ∧
    (answerEnd s l e chars).trunk.requests = s.trunk.requests ∧
    (answerEnd s l e chars).trunk.inHand = s.trunk.inHand ∧
    (answerEnd s l e chars).trunk.reserved = s.trunk.reserved ∧
    (answerEnd s l e chars).trunk.downAbsent = s.trunk.downAbsent ∧
    (answerEnd s l e chars).trunk.lastError = s.trunk.lastError ∧
    (answerEnd s l e chars).trunk.upTx = s.trunk.upTx ∧ (answerEnd s l e chars).trunk.downTx = s.trunk.downTx := by
  unfold answerEnd; dsimp only; (repeat' split) <;> simp

@[simp] theorem failedAttempt_frame (s : State) (n : Node) (c : Command) (duty : Bool) (fate : Fate) :
    (failedAttempt s n c duty fate).pending = s.pending ∧ (failedAttempt s n c duty fate).queue = s.queue ∧
    (failedAttempt s n c duty fate).tracker = s.tracker ∧ (failedAttempt s n c duty fate).override = s.override ∧
    (failedAttempt s n c duty fate).minibar = s.minibar ∧ (failedAttempt s n c duty fate).store = s.store ∧
    (failedAttempt s n c duty fate).port = s.port ∧ (failedAttempt s n c duty fate).loader = s.loader ∧
    (failedAttempt s n c duty fate).pruner = s.pruner ∧ (failedAttempt s n c duty fate).startup = s.startup ∧
    (failedAttempt s n c duty fate).pins = s.pins ∧ (failedAttempt s n c duty fate).time.tick = s.time.tick ∧
    (failedAttempt s n c duty fate).time.clock = s.time.clock ∧
    (failedAttempt s n c duty fate).time.expiring = s.time.expiring ∧
    (failedAttempt s n c duty fate).time.minuteEvents = s.time.minuteEvents ∧
    (failedAttempt s n c duty fate).journal.push = s.journal.push ∧
    (failedAttempt s n c duty fate).journal.batch = s.journal.batch ∧
    (failedAttempt s n c duty fate).journal.frozen = s.journal.frozen ∧
    (failedAttempt s n c duty fate).trunk.chain = s.trunk.chain ∧
    (failedAttempt s n c duty fate).trunk.relayDown = s.trunk.relayDown ∧
    (failedAttempt s n c duty fate).trunk.relayUp = s.trunk.relayUp ∧
    (failedAttempt s n c duty fate).trunk.requests = s.trunk.requests ∧
    (failedAttempt s n c duty fate).trunk.inHand = s.trunk.inHand ∧
    (failedAttempt s n c duty fate).trunk.outQueue = s.trunk.outQueue ∧
    (failedAttempt s n c duty fate).trunk.reserved = s.trunk.reserved ∧
    (failedAttempt s n c duty fate).trunk.downAbsent = s.trunk.downAbsent ∧
    (failedAttempt s n c duty fate).trunk.lastError = s.trunk.lastError ∧
    (failedAttempt s n c duty fate).trunk.upTx = s.trunk.upTx ∧
    (failedAttempt s n c duty fate).trunk.downTx = s.trunk.downTx := by
  unfold failedAttempt; (repeat' split) <;> simp

@[simp] theorem commandFailed_frame (s : State) (l : LineNo) (e : Exchange) (a : Addr) (c : Command) (duty : Bool) (fate : Fate) :
    (commandFailed s l e a c duty fate).pending = s.pending ∧ (commandFailed s l e a c duty fate).queue = s.queue ∧
    (commandFailed s l e a c duty fate).tracker = s.tracker ∧
    (commandFailed s l e a c duty fate).override = s.override ∧
    (commandFailed s l e a c duty fate).minibar = s.minibar ∧ (commandFailed s l e a c duty fate).store = s.store ∧
    (commandFailed s l e a c duty fate).port = s.port ∧ (commandFailed s l e a c duty fate).loader = s.loader ∧
    (commandFailed s l e a c duty fate).pruner = s.pruner ∧
    (commandFailed s l e a c duty fate).startup = s.startup ∧ (commandFailed s l e a c duty fate).pins = s.pins ∧
    (commandFailed s l e a c duty fate).time.tick = s.time.tick ∧
    (commandFailed s l e a c duty fate).time.clock = s.time.clock ∧
    (commandFailed s l e a c duty fate).time.expiring = s.time.expiring ∧
    (commandFailed s l e a c duty fate).time.minuteEvents = s.time.minuteEvents ∧
    (commandFailed s l e a c duty fate).journal.push = s.journal.push ∧
    (commandFailed s l e a c duty fate).journal.batch = s.journal.batch ∧
    (commandFailed s l e a c duty fate).journal.frozen = s.journal.frozen ∧
    (commandFailed s l e a c duty fate).trunk.chain = s.trunk.chain ∧
    (commandFailed s l e a c duty fate).trunk.relayDown = s.trunk.relayDown ∧
    (commandFailed s l e a c duty fate).trunk.relayUp = s.trunk.relayUp ∧
    (commandFailed s l e a c duty fate).trunk.requests = s.trunk.requests ∧
    (commandFailed s l e a c duty fate).trunk.inHand = s.trunk.inHand ∧
    (commandFailed s l e a c duty fate).trunk.outQueue = s.trunk.outQueue ∧
    (commandFailed s l e a c duty fate).trunk.reserved = s.trunk.reserved ∧
    (commandFailed s l e a c duty fate).trunk.downAbsent = s.trunk.downAbsent ∧
    (commandFailed s l e a c duty fate).trunk.lastError = s.trunk.lastError ∧
    (commandFailed s l e a c duty fate).trunk.upTx = s.trunk.upTx ∧
    (commandFailed s l e a c duty fate).trunk.downTx = s.trunk.downTx := by
  simp [commandFailed]

@[simp] theorem handAcceptance_frame (s : State) (n : Node) (d : DoorEntry) (c : Command) (duty : Bool) :
    (handAcceptance s n d c duty).pending = s.pending ∧ (handAcceptance s n d c duty).lines = s.lines ∧
    (handAcceptance s n d c duty).queue = s.queue ∧ (handAcceptance s n d c duty).override = s.override ∧
    (handAcceptance s n d c duty).issue = s.issue ∧ (handAcceptance s n d c duty).minibar = s.minibar ∧
    (handAcceptance s n d c duty).store = s.store ∧ (handAcceptance s n d c duty).port = s.port ∧
    (handAcceptance s n d c duty).loader = s.loader ∧ (handAcceptance s n d c duty).pruner = s.pruner ∧
    (handAcceptance s n d c duty).journal = s.journal ∧ (handAcceptance s n d c duty).trunk = s.trunk ∧
    (handAcceptance s n d c duty).startup = s.startup ∧ (handAcceptance s n d c duty).pins = s.pins ∧
    (handAcceptance s n d c duty).time.tick = s.time.tick ∧
    (handAcceptance s n d c duty).time.clock = s.time.clock ∧
    (handAcceptance s n d c duty).time.expiring = s.time.expiring ∧
    (handAcceptance s n d c duty).time.minuteEvents = s.time.minuteEvents ∧
    (handAcceptance s n d c duty).tracker.writes = s.tracker.writes := by
  unfold handAcceptance; (repeat' split) <;> simp

@[simp] theorem commandAccepted_frame (s : State) (l : LineNo) (e : Exchange) (a : Addr) (c : Command) (duty : Bool) (fate : Fate) :
    (commandAccepted s l e a c duty fate).pending = s.pending ∧
    (commandAccepted s l e a c duty fate).queue = s.queue ∧
    (commandAccepted s l e a c duty fate).override = s.override ∧
    (commandAccepted s l e a c duty fate).issue = s.issue ∧
    (commandAccepted s l e a c duty fate).minibar = s.minibar ∧
    (commandAccepted s l e a c duty fate).store = s.store ∧ (commandAccepted s l e a c duty fate).port = s.port ∧
    (commandAccepted s l e a c duty fate).loader = s.loader ∧
    (commandAccepted s l e a c duty fate).pruner = s.pruner ∧
    (commandAccepted s l e a c duty fate).trunk = s.trunk ∧
    (commandAccepted s l e a c duty fate).startup = s.startup ∧
    (commandAccepted s l e a c duty fate).pins = s.pins ∧
    (commandAccepted s l e a c duty fate).time.tick = s.time.tick ∧
    (commandAccepted s l e a c duty fate).time.clock = s.time.clock ∧
    (commandAccepted s l e a c duty fate).time.expiring = s.time.expiring ∧
    (commandAccepted s l e a c duty fate).time.minuteEvents = s.time.minuteEvents ∧
    (commandAccepted s l e a c duty fate).tracker.writes = s.tracker.writes ∧
    (commandAccepted s l e a c duty fate).journal.push = s.journal.push ∧
    (commandAccepted s l e a c duty fate).journal.batch = s.journal.batch ∧
    (commandAccepted s l e a c duty fate).journal.frozen = s.journal.frozen := by
  unfold commandAccepted; dsimp only; (repeat' split) <;> simp

@[simp] theorem abandon_frame (s : State) (l : LineNo) (e : Exchange) :
    (abandon s l e).pending = s.pending ∧ (abandon s l e).queue = s.queue ∧ (abandon s l e).tracker = s.tracker ∧
    (abandon s l e).override = s.override ∧ (abandon s l e).minibar = s.minibar ∧ (abandon s l e).store = s.store ∧
    (abandon s l e).port = s.port ∧ (abandon s l e).loader = s.loader ∧ (abandon s l e).pruner = s.pruner ∧
    (abandon s l e).startup = s.startup ∧ (abandon s l e).pins = s.pins ∧ (abandon s l e).time.tick = s.time.tick ∧
    (abandon s l e).time.clock = s.time.clock ∧ (abandon s l e).time.expiring = s.time.expiring ∧
    (abandon s l e).time.minuteEvents = s.time.minuteEvents ∧ (abandon s l e).journal.push = s.journal.push ∧
    (abandon s l e).journal.batch = s.journal.batch ∧ (abandon s l e).journal.frozen = s.journal.frozen ∧
    (abandon s l e).trunk.chain = s.trunk.chain ∧ (abandon s l e).trunk.relayDown = s.trunk.relayDown ∧
    (abandon s l e).trunk.relayUp = s.trunk.relayUp ∧ (abandon s l e).trunk.requests = s.trunk.requests ∧
    (abandon s l e).trunk.inHand = s.trunk.inHand ∧ (abandon s l e).trunk.outQueue = s.trunk.outQueue ∧
    (abandon s l e).trunk.reserved = s.trunk.reserved ∧ (abandon s l e).trunk.downAbsent = s.trunk.downAbsent ∧
    (abandon s l e).trunk.lastError = s.trunk.lastError ∧ (abandon s l e).trunk.upTx = s.trunk.upTx ∧
    (abandon s l e).trunk.downTx = s.trunk.downTx := by
  unfold abandon; split <;> simp

@[simp] theorem toHeld_frame (s : State) (l : LineNo) :
    (toHeld s l).pending = s.pending ∧ (toHeld s l).override = s.override ∧ (toHeld s l).store = s.store ∧
    (toHeld s l).port = s.port ∧ (toHeld s l).loader = s.loader ∧ (toHeld s l).pruner = s.pruner ∧
    (toHeld s l).startup = s.startup ∧ (toHeld s l).pins = s.pins ∧ (toHeld s l).time.tick = s.time.tick ∧
    (toHeld s l).time.clock = s.time.clock ∧ (toHeld s l).time.expiring = s.time.expiring ∧
    (toHeld s l).time.minuteEvents = s.time.minuteEvents ∧ (toHeld s l).tracker.writes = s.tracker.writes ∧
    (toHeld s l).journal.push = s.journal.push ∧ (toHeld s l).journal.batch = s.journal.batch ∧
    (toHeld s l).journal.frozen = s.journal.frozen ∧ (toHeld s l).trunk.chain = s.trunk.chain ∧
    (toHeld s l).trunk.relayDown = s.trunk.relayDown ∧ (toHeld s l).trunk.relayUp = s.trunk.relayUp ∧
    (toHeld s l).trunk.requests = s.trunk.requests ∧ (toHeld s l).trunk.inHand = s.trunk.inHand ∧
    (toHeld s l).trunk.downAbsent = s.trunk.downAbsent ∧ (toHeld s l).trunk.lastError = s.trunk.lastError ∧
    (toHeld s l).trunk.upTx = s.trunk.upTx ∧ (toHeld s l).trunk.downTx = s.trunk.downTx := by
  simp [toHeld]

@[simp] theorem supersede_frame (s : State) (p : Presentation) (c : CardClass) :
    (supersede s p c).pending = s.pending ∧ (supersede s p c).time = s.time ∧ (supersede s p c).lines = s.lines ∧
    (supersede s p c).queue = s.queue ∧ (supersede s p c).tracker = s.tracker ∧
    (supersede s p c).override = s.override ∧ (supersede s p c).issue = s.issue ∧
    (supersede s p c).minibar = s.minibar ∧ (supersede s p c).port = s.port ∧ (supersede s p c).loader = s.loader ∧
    (supersede s p c).pruner = s.pruner ∧ (supersede s p c).trunk = s.trunk ∧
    (supersede s p c).startup = s.startup ∧ (supersede s p c).pins = s.pins ∧
    (supersede s p c).store.config = s.store.config ∧ (supersede s p c).store.doors = s.store.doors ∧
    (supersede s p c).store.rooms = s.store.rooms ∧ (supersede s p c).store.zones = s.store.zones ∧
    (supersede s p c).store.profiles = s.store.profiles ∧ (supersede s p c).store.classes = s.store.classes ∧
    (supersede s p c).store.prices = s.store.prices ∧ (supersede s p c).store.deny = s.store.deny ∧
    (supersede s p c).store.denyCount = s.store.denyCount ∧ (supersede s p c).journal.push = s.journal.push ∧
    (supersede s p c).journal.batch = s.journal.batch ∧ (supersede s p c).journal.frozen = s.journal.frozen := by
  unfold supersede; dsimp only; (repeat' split) <;> simp

@[simp] theorem armRelatch_frame (s : State) (n : Node) :
    (armRelatch s n).pending = s.pending ∧ (armRelatch s n).lines = s.lines ∧ (armRelatch s n).queue = s.queue ∧
    (armRelatch s n).tracker = s.tracker ∧ (armRelatch s n).override = s.override ∧
    (armRelatch s n).issue = s.issue ∧ (armRelatch s n).minibar = s.minibar ∧ (armRelatch s n).store = s.store ∧
    (armRelatch s n).port = s.port ∧ (armRelatch s n).loader = s.loader ∧ (armRelatch s n).pruner = s.pruner ∧
    (armRelatch s n).journal = s.journal ∧ (armRelatch s n).trunk = s.trunk ∧ (armRelatch s n).startup = s.startup ∧
    (armRelatch s n).pins = s.pins ∧ (armRelatch s n).time.tick = s.time.tick ∧
    (armRelatch s n).time.clock = s.time.clock ∧ (armRelatch s n).time.expiring = s.time.expiring ∧
    (armRelatch s n).time.minuteEvents = s.time.minuteEvents := by
  simp [armRelatch]

@[simp] theorem setMinibarState_frame (s : State) (i : Slot) (st : MinibarState) :
    (setMinibarState s i st).pending = s.pending ∧ (setMinibarState s i st).time = s.time ∧
    (setMinibarState s i st).lines = s.lines ∧ (setMinibarState s i st).queue = s.queue ∧
    (setMinibarState s i st).tracker = s.tracker ∧ (setMinibarState s i st).override = s.override ∧
    (setMinibarState s i st).issue = s.issue ∧ (setMinibarState s i st).minibar = s.minibar ∧
    (setMinibarState s i st).port = s.port ∧ (setMinibarState s i st).loader = s.loader ∧
    (setMinibarState s i st).pruner = s.pruner ∧ (setMinibarState s i st).journal = s.journal ∧
    (setMinibarState s i st).trunk = s.trunk ∧ (setMinibarState s i st).startup = s.startup ∧
    (setMinibarState s i st).pins = s.pins ∧ (setMinibarState s i st).store.config = s.store.config ∧
    (setMinibarState s i st).store.doors = s.store.doors ∧ (setMinibarState s i st).store.rooms = s.store.rooms ∧
    (setMinibarState s i st).store.zones = s.store.zones ∧
    (setMinibarState s i st).store.profiles = s.store.profiles ∧
    (setMinibarState s i st).store.classes = s.store.classes ∧
    (setMinibarState s i st).store.prices = s.store.prices ∧ (setMinibarState s i st).store.deny = s.store.deny ∧
    (setMinibarState s i st).store.denyCount = s.store.denyCount := by
  unfold setMinibarState; split <;> simp

@[simp] theorem minibarGrant_frame (s : State) (n : Node) (m : MinibarGrant) :
    (minibarGrant s n m).pending = s.pending ∧ (minibarGrant s n m).lines = s.lines ∧
    (minibarGrant s n m).queue = s.queue ∧ (minibarGrant s n m).tracker = s.tracker ∧
    (minibarGrant s n m).override = s.override ∧ (minibarGrant s n m).issue = s.issue ∧
    (minibarGrant s n m).minibar = s.minibar ∧ (minibarGrant s n m).port = s.port ∧
    (minibarGrant s n m).loader = s.loader ∧ (minibarGrant s n m).pruner = s.pruner ∧
    (minibarGrant s n m).trunk = s.trunk ∧ (minibarGrant s n m).startup = s.startup ∧
    (minibarGrant s n m).pins = s.pins ∧ (minibarGrant s n m).time.tick = s.time.tick ∧
    (minibarGrant s n m).time.clock = s.time.clock ∧ (minibarGrant s n m).time.expiring = s.time.expiring ∧
    (minibarGrant s n m).time.minuteEvents = s.time.minuteEvents ∧
    (minibarGrant s n m).store.config = s.store.config ∧ (minibarGrant s n m).store.doors = s.store.doors ∧
    (minibarGrant s n m).store.rooms = s.store.rooms ∧ (minibarGrant s n m).store.zones = s.store.zones ∧
    (minibarGrant s n m).store.profiles = s.store.profiles ∧ (minibarGrant s n m).store.classes = s.store.classes ∧
    (minibarGrant s n m).store.prices = s.store.prices ∧ (minibarGrant s n m).store.deny = s.store.deny ∧
    (minibarGrant s n m).store.denyCount = s.store.denyCount ∧ (minibarGrant s n m).journal.push = s.journal.push ∧
    (minibarGrant s n m).journal.batch = s.journal.batch ∧ (minibarGrant s n m).journal.frozen = s.journal.frozen := by
  unfold minibarGrant; (repeat' split) <;> simp

@[simp] theorem verdictEffects_frame (s : State) (p : Presentation) (x : Verdict) :
    (verdictEffects s p x).pending = s.pending ∧ (verdictEffects s p x).lines = s.lines ∧
    (verdictEffects s p x).queue = s.queue ∧ (verdictEffects s p x).tracker = s.tracker ∧
    (verdictEffects s p x).override = s.override ∧ (verdictEffects s p x).issue = s.issue ∧
    (verdictEffects s p x).minibar = s.minibar ∧ (verdictEffects s p x).port = s.port ∧
    (verdictEffects s p x).loader = s.loader ∧ (verdictEffects s p x).pruner = s.pruner ∧
    (verdictEffects s p x).trunk = s.trunk ∧ (verdictEffects s p x).startup = s.startup ∧
    (verdictEffects s p x).pins = s.pins ∧ (verdictEffects s p x).time.tick = s.time.tick ∧
    (verdictEffects s p x).time.clock = s.time.clock ∧ (verdictEffects s p x).time.expiring = s.time.expiring ∧
    (verdictEffects s p x).time.minuteEvents = s.time.minuteEvents ∧
    (verdictEffects s p x).store.config = s.store.config ∧ (verdictEffects s p x).store.doors = s.store.doors ∧
    (verdictEffects s p x).store.rooms = s.store.rooms ∧ (verdictEffects s p x).store.zones = s.store.zones ∧
    (verdictEffects s p x).store.profiles = s.store.profiles ∧
    (verdictEffects s p x).store.classes = s.store.classes ∧ (verdictEffects s p x).store.prices = s.store.prices ∧
    (verdictEffects s p x).store.deny = s.store.deny ∧ (verdictEffects s p x).store.denyCount = s.store.denyCount ∧
    (verdictEffects s p x).journal.push = s.journal.push ∧ (verdictEffects s p x).journal.batch = s.journal.batch ∧
    (verdictEffects s p x).journal.frozen = s.journal.frozen := by
  unfold verdictEffects; (repeat' split) <;> simp

@[simp] theorem queueIfDecide_frame (s : State) (n : Node) (c : Command) :
    (queueIfDecide s n c).pending = s.pending ∧ (queueIfDecide s n c).queue = s.queue ∧
    (queueIfDecide s n c).tracker = s.tracker ∧ (queueIfDecide s n c).override = s.override ∧
    (queueIfDecide s n c).minibar = s.minibar ∧ (queueIfDecide s n c).store = s.store ∧
    (queueIfDecide s n c).port = s.port ∧ (queueIfDecide s n c).loader = s.loader ∧
    (queueIfDecide s n c).pruner = s.pruner ∧ (queueIfDecide s n c).startup = s.startup ∧
    (queueIfDecide s n c).pins = s.pins ∧ (queueIfDecide s n c).time.tick = s.time.tick ∧
    (queueIfDecide s n c).time.clock = s.time.clock ∧ (queueIfDecide s n c).time.expiring = s.time.expiring ∧
    (queueIfDecide s n c).time.minuteEvents = s.time.minuteEvents ∧
    (queueIfDecide s n c).journal.push = s.journal.push ∧ (queueIfDecide s n c).journal.batch = s.journal.batch ∧
    (queueIfDecide s n c).journal.frozen = s.journal.frozen ∧ (queueIfDecide s n c).trunk.chain = s.trunk.chain ∧
    (queueIfDecide s n c).trunk.relayDown = s.trunk.relayDown ∧
    (queueIfDecide s n c).trunk.relayUp = s.trunk.relayUp ∧
    (queueIfDecide s n c).trunk.requests = s.trunk.requests ∧ (queueIfDecide s n c).trunk.inHand = s.trunk.inHand ∧
    (queueIfDecide s n c).trunk.outQueue = s.trunk.outQueue ∧
    (queueIfDecide s n c).trunk.reserved = s.trunk.reserved ∧
    (queueIfDecide s n c).trunk.downAbsent = s.trunk.downAbsent ∧
    (queueIfDecide s n c).trunk.lastError = s.trunk.lastError ∧ (queueIfDecide s n c).trunk.upTx = s.trunk.upTx ∧
    (queueIfDecide s n c).trunk.downTx = s.trunk.downTx := by
  unfold queueIfDecide; split <;> simp

@[simp] theorem completeDecision_frame (s : State) (p : Presentation) :
    (completeDecision s p).pending = s.pending ∧ (completeDecision s p).queue = s.queue ∧
    (completeDecision s p).tracker = s.tracker ∧ (completeDecision s p).override = s.override ∧
    (completeDecision s p).minibar = s.minibar ∧ (completeDecision s p).port = s.port ∧
    (completeDecision s p).loader = s.loader ∧ (completeDecision s p).pruner = s.pruner ∧
    (completeDecision s p).startup = s.startup ∧ (completeDecision s p).pins = s.pins ∧
    (completeDecision s p).time.tick = s.time.tick ∧ (completeDecision s p).time.clock = s.time.clock ∧
    (completeDecision s p).time.expiring = s.time.expiring ∧
    (completeDecision s p).time.minuteEvents = s.time.minuteEvents ∧
    (completeDecision s p).store.config = s.store.config ∧ (completeDecision s p).store.doors = s.store.doors ∧
    (completeDecision s p).store.rooms = s.store.rooms ∧ (completeDecision s p).store.zones = s.store.zones ∧
    (completeDecision s p).store.profiles = s.store.profiles ∧
    (completeDecision s p).store.classes = s.store.classes ∧ (completeDecision s p).store.prices = s.store.prices ∧
    (completeDecision s p).store.deny = s.store.deny ∧ (completeDecision s p).store.denyCount = s.store.denyCount ∧
    (completeDecision s p).journal.push = s.journal.push ∧ (completeDecision s p).journal.batch = s.journal.batch ∧
    (completeDecision s p).journal.frozen = s.journal.frozen ∧ (completeDecision s p).trunk.chain = s.trunk.chain ∧
    (completeDecision s p).trunk.relayDown = s.trunk.relayDown ∧
    (completeDecision s p).trunk.relayUp = s.trunk.relayUp ∧
    (completeDecision s p).trunk.requests = s.trunk.requests ∧
    (completeDecision s p).trunk.inHand = s.trunk.inHand ∧
    (completeDecision s p).trunk.outQueue = s.trunk.outQueue ∧
    (completeDecision s p).trunk.reserved = s.trunk.reserved ∧
    (completeDecision s p).trunk.downAbsent = s.trunk.downAbsent ∧
    (completeDecision s p).trunk.lastError = s.trunk.lastError ∧ (completeDecision s p).trunk.upTx = s.trunk.upTx ∧
    (completeDecision s p).trunk.downTx = s.trunk.downTx := by
  simp [completeDecision]

@[simp] theorem markRoom_frame (s : State) (c : IssueCtx) (k : Fin 2) :
    (markRoom s c k).pending = s.pending ∧ (markRoom s c k).time = s.time ∧ (markRoom s c k).lines = s.lines ∧
    (markRoom s c k).queue = s.queue ∧ (markRoom s c k).tracker = s.tracker ∧
    (markRoom s c k).override = s.override ∧ (markRoom s c k).issue = s.issue ∧
    (markRoom s c k).minibar = s.minibar ∧ (markRoom s c k).port = s.port ∧ (markRoom s c k).loader = s.loader ∧
    (markRoom s c k).pruner = s.pruner ∧ (markRoom s c k).journal = s.journal ∧ (markRoom s c k).trunk = s.trunk ∧
    (markRoom s c k).startup = s.startup ∧ (markRoom s c k).pins = s.pins ∧
    (markRoom s c k).store.config = s.store.config ∧ (markRoom s c k).store.doors = s.store.doors ∧
    (markRoom s c k).store.rooms = s.store.rooms ∧ (markRoom s c k).store.zones = s.store.zones ∧
    (markRoom s c k).store.profiles = s.store.profiles ∧ (markRoom s c k).store.classes = s.store.classes ∧
    (markRoom s c k).store.prices = s.store.prices ∧ (markRoom s c k).store.deny = s.store.deny ∧
    (markRoom s c k).store.denyCount = s.store.denyCount := by
  unfold markRoom; split <;> simp

@[simp] theorem acceptIssue_frame (s : State) (k : Fin 2) (n : Node) (dup : Bool) (tag : Byte) (stay : Stay) :
    (acceptIssue s k n dup tag stay).pending = s.pending ∧ (acceptIssue s k n dup tag stay).queue = s.queue ∧
    (acceptIssue s k n dup tag stay).tracker = s.tracker ∧ (acceptIssue s k n dup tag stay).override = s.override ∧
    (acceptIssue s k n dup tag stay).minibar = s.minibar ∧ (acceptIssue s k n dup tag stay).port = s.port ∧
    (acceptIssue s k n dup tag stay).loader = s.loader ∧ (acceptIssue s k n dup tag stay).pruner = s.pruner ∧
    (acceptIssue s k n dup tag stay).startup = s.startup ∧ (acceptIssue s k n dup tag stay).pins = s.pins ∧
    (acceptIssue s k n dup tag stay).time.tick = s.time.tick ∧
    (acceptIssue s k n dup tag stay).time.clock = s.time.clock ∧
    (acceptIssue s k n dup tag stay).time.expiring = s.time.expiring ∧
    (acceptIssue s k n dup tag stay).time.minuteEvents = s.time.minuteEvents ∧
    (acceptIssue s k n dup tag stay).store.config = s.store.config ∧
    (acceptIssue s k n dup tag stay).store.doors = s.store.doors ∧
    (acceptIssue s k n dup tag stay).store.rooms = s.store.rooms ∧
    (acceptIssue s k n dup tag stay).store.zones = s.store.zones ∧
    (acceptIssue s k n dup tag stay).store.profiles = s.store.profiles ∧
    (acceptIssue s k n dup tag stay).store.classes = s.store.classes ∧
    (acceptIssue s k n dup tag stay).store.prices = s.store.prices ∧
    (acceptIssue s k n dup tag stay).store.deny = s.store.deny ∧
    (acceptIssue s k n dup tag stay).store.denyCount = s.store.denyCount ∧
    (acceptIssue s k n dup tag stay).journal.push = s.journal.push ∧
    (acceptIssue s k n dup tag stay).journal.batch = s.journal.batch ∧
    (acceptIssue s k n dup tag stay).journal.frozen = s.journal.frozen ∧
    (acceptIssue s k n dup tag stay).trunk.chain = s.trunk.chain ∧
    (acceptIssue s k n dup tag stay).trunk.relayDown = s.trunk.relayDown ∧
    (acceptIssue s k n dup tag stay).trunk.relayUp = s.trunk.relayUp ∧
    (acceptIssue s k n dup tag stay).trunk.requests = s.trunk.requests ∧
    (acceptIssue s k n dup tag stay).trunk.downAbsent = s.trunk.downAbsent ∧
    (acceptIssue s k n dup tag stay).trunk.lastError = s.trunk.lastError ∧
    (acceptIssue s k n dup tag stay).trunk.upTx = s.trunk.upTx ∧
    (acceptIssue s k n dup tag stay).trunk.downTx = s.trunk.downTx := by
  simp [acceptIssue]

@[simp] theorem completeIssue_frame (s : State) :
    (completeIssue s).pending = s.pending ∧ (completeIssue s).queue = s.queue ∧
    (completeIssue s).tracker = s.tracker ∧ (completeIssue s).override = s.override ∧
    (completeIssue s).minibar = s.minibar ∧ (completeIssue s).port = s.port ∧ (completeIssue s).loader = s.loader ∧
    (completeIssue s).pruner = s.pruner ∧ (completeIssue s).startup = s.startup ∧ (completeIssue s).pins = s.pins ∧
    (completeIssue s).time.tick = s.time.tick ∧ (completeIssue s).time.clock = s.time.clock ∧
    (completeIssue s).time.expiring = s.time.expiring ∧ (completeIssue s).time.minuteEvents = s.time.minuteEvents ∧
    (completeIssue s).store.config = s.store.config ∧ (completeIssue s).store.doors = s.store.doors ∧
    (completeIssue s).store.rooms = s.store.rooms ∧ (completeIssue s).store.zones = s.store.zones ∧
    (completeIssue s).store.profiles = s.store.profiles ∧ (completeIssue s).store.classes = s.store.classes ∧
    (completeIssue s).store.prices = s.store.prices ∧ (completeIssue s).store.deny = s.store.deny ∧
    (completeIssue s).store.denyCount = s.store.denyCount ∧ (completeIssue s).journal.push = s.journal.push ∧
    (completeIssue s).journal.batch = s.journal.batch ∧ (completeIssue s).journal.frozen = s.journal.frozen ∧
    (completeIssue s).trunk.chain = s.trunk.chain ∧ (completeIssue s).trunk.relayDown = s.trunk.relayDown ∧
    (completeIssue s).trunk.relayUp = s.trunk.relayUp ∧ (completeIssue s).trunk.requests = s.trunk.requests ∧
    (completeIssue s).trunk.downAbsent = s.trunk.downAbsent ∧
    (completeIssue s).trunk.lastError = s.trunk.lastError ∧ (completeIssue s).trunk.upTx = s.trunk.upTx ∧
    (completeIssue s).trunk.downTx = s.trunk.downTx := by
  unfold completeIssue; (repeat' split) <;> simp

@[simp] theorem completeComposition_frame (s : State) (k : Fin 2) :
    (completeComposition s k).pending = s.pending ∧ (completeComposition s k).queue = s.queue ∧
    (completeComposition s k).tracker = s.tracker ∧ (completeComposition s k).override = s.override ∧
    (completeComposition s k).minibar = s.minibar ∧ (completeComposition s k).store = s.store ∧
    (completeComposition s k).port = s.port ∧ (completeComposition s k).loader = s.loader ∧
    (completeComposition s k).pruner = s.pruner ∧ (completeComposition s k).startup = s.startup ∧
    (completeComposition s k).pins = s.pins ∧ (completeComposition s k).time.tick = s.time.tick ∧
    (completeComposition s k).time.clock = s.time.clock ∧
    (completeComposition s k).time.expiring = s.time.expiring ∧
    (completeComposition s k).time.minuteEvents = s.time.minuteEvents ∧
    (completeComposition s k).journal.push = s.journal.push ∧
    (completeComposition s k).journal.batch = s.journal.batch ∧
    (completeComposition s k).journal.frozen = s.journal.frozen ∧
    (completeComposition s k).trunk.chain = s.trunk.chain ∧
    (completeComposition s k).trunk.relayDown = s.trunk.relayDown ∧
    (completeComposition s k).trunk.relayUp = s.trunk.relayUp ∧
    (completeComposition s k).trunk.requests = s.trunk.requests ∧
    (completeComposition s k).trunk.inHand = s.trunk.inHand ∧
    (completeComposition s k).trunk.outQueue = s.trunk.outQueue ∧
    (completeComposition s k).trunk.reserved = s.trunk.reserved ∧
    (completeComposition s k).trunk.downAbsent = s.trunk.downAbsent ∧
    (completeComposition s k).trunk.lastError = s.trunk.lastError ∧
    (completeComposition s k).trunk.upTx = s.trunk.upTx ∧ (completeComposition s k).trunk.downTx = s.trunk.downTx := by
  unfold completeComposition; dsimp only; (repeat' split) <;> simp

@[simp] theorem cancelIssue_frame (s : State) (b : Byte) :
    (cancelIssue s b).pending = s.pending ∧ (cancelIssue s b).queue = s.queue ∧
    (cancelIssue s b).tracker = s.tracker ∧ (cancelIssue s b).override = s.override ∧
    (cancelIssue s b).minibar = s.minibar ∧ (cancelIssue s b).store = s.store ∧ (cancelIssue s b).port = s.port ∧
    (cancelIssue s b).loader = s.loader ∧ (cancelIssue s b).pruner = s.pruner ∧
    (cancelIssue s b).startup = s.startup ∧ (cancelIssue s b).pins = s.pins ∧
    (cancelIssue s b).time.tick = s.time.tick ∧ (cancelIssue s b).time.clock = s.time.clock ∧
    (cancelIssue s b).time.expiring = s.time.expiring ∧ (cancelIssue s b).time.minuteEvents = s.time.minuteEvents ∧
    (cancelIssue s b).journal.push = s.journal.push ∧ (cancelIssue s b).journal.batch = s.journal.batch ∧
    (cancelIssue s b).journal.frozen = s.journal.frozen ∧ (cancelIssue s b).trunk.chain = s.trunk.chain ∧
    (cancelIssue s b).trunk.relayDown = s.trunk.relayDown ∧ (cancelIssue s b).trunk.relayUp = s.trunk.relayUp ∧
    (cancelIssue s b).trunk.requests = s.trunk.requests ∧ (cancelIssue s b).trunk.downAbsent = s.trunk.downAbsent ∧
    (cancelIssue s b).trunk.lastError = s.trunk.lastError ∧ (cancelIssue s b).trunk.upTx = s.trunk.upTx ∧
    (cancelIssue s b).trunk.downTx = s.trunk.downTx := by
  unfold cancelIssue; (repeat' split) <;> simp

@[simp] theorem checkoutCharges_frame (s : State) (i : Slot) :
    (checkoutCharges s i).pending = s.pending ∧ (checkoutCharges s i).time = s.time ∧
    (checkoutCharges s i).lines = s.lines ∧ (checkoutCharges s i).queue = s.queue ∧
    (checkoutCharges s i).tracker = s.tracker ∧ (checkoutCharges s i).override = s.override ∧
    (checkoutCharges s i).issue = s.issue ∧ (checkoutCharges s i).minibar = s.minibar ∧
    (checkoutCharges s i).port = s.port ∧ (checkoutCharges s i).loader = s.loader ∧
    (checkoutCharges s i).pruner = s.pruner ∧ (checkoutCharges s i).trunk = s.trunk ∧
    (checkoutCharges s i).startup = s.startup ∧ (checkoutCharges s i).pins = s.pins ∧
    (checkoutCharges s i).store.config = s.store.config ∧ (checkoutCharges s i).store.doors = s.store.doors ∧
    (checkoutCharges s i).store.rooms = s.store.rooms ∧ (checkoutCharges s i).store.zones = s.store.zones ∧
    (checkoutCharges s i).store.profiles = s.store.profiles ∧
    (checkoutCharges s i).store.classes = s.store.classes ∧ (checkoutCharges s i).store.prices = s.store.prices ∧
    (checkoutCharges s i).store.deny = s.store.deny ∧ (checkoutCharges s i).store.denyCount = s.store.denyCount ∧
    (checkoutCharges s i).journal.push = s.journal.push ∧ (checkoutCharges s i).journal.batch = s.journal.batch ∧
    (checkoutCharges s i).journal.frozen = s.journal.frozen := by
  unfold checkoutCharges; dsimp only; (repeat' split) <;> simp

@[simp] theorem checkoutMinibar_frame (s : State) (i : Slot) :
    (checkoutMinibar s i).pending = s.pending ∧ (checkoutMinibar s i).lines = s.lines ∧
    (checkoutMinibar s i).queue = s.queue ∧ (checkoutMinibar s i).tracker = s.tracker ∧
    (checkoutMinibar s i).override = s.override ∧ (checkoutMinibar s i).issue = s.issue ∧
    (checkoutMinibar s i).minibar = s.minibar ∧ (checkoutMinibar s i).port = s.port ∧
    (checkoutMinibar s i).loader = s.loader ∧ (checkoutMinibar s i).pruner = s.pruner ∧
    (checkoutMinibar s i).journal = s.journal ∧ (checkoutMinibar s i).trunk = s.trunk ∧
    (checkoutMinibar s i).startup = s.startup ∧ (checkoutMinibar s i).pins = s.pins ∧
    (checkoutMinibar s i).time.tick = s.time.tick ∧ (checkoutMinibar s i).time.clock = s.time.clock ∧
    (checkoutMinibar s i).time.expiring = s.time.expiring ∧
    (checkoutMinibar s i).time.minuteEvents = s.time.minuteEvents ∧
    (checkoutMinibar s i).store.config = s.store.config ∧ (checkoutMinibar s i).store.doors = s.store.doors ∧
    (checkoutMinibar s i).store.rooms = s.store.rooms ∧ (checkoutMinibar s i).store.zones = s.store.zones ∧
    (checkoutMinibar s i).store.profiles = s.store.profiles ∧
    (checkoutMinibar s i).store.classes = s.store.classes ∧ (checkoutMinibar s i).store.prices = s.store.prices ∧
    (checkoutMinibar s i).store.deny = s.store.deny ∧ (checkoutMinibar s i).store.denyCount = s.store.denyCount := by
  unfold checkoutMinibar; (repeat' split) <;> simp

@[simp] theorem checkoutSession_frame (s : State) (room : Half) :
    (checkoutSession s room).pending = s.pending ∧ (checkoutSession s room).queue = s.queue ∧
    (checkoutSession s room).tracker = s.tracker ∧ (checkoutSession s room).override = s.override ∧
    (checkoutSession s room).minibar = s.minibar ∧ (checkoutSession s room).store = s.store ∧
    (checkoutSession s room).port = s.port ∧ (checkoutSession s room).loader = s.loader ∧
    (checkoutSession s room).pruner = s.pruner ∧ (checkoutSession s room).startup = s.startup ∧
    (checkoutSession s room).pins = s.pins ∧ (checkoutSession s room).time.tick = s.time.tick ∧
    (checkoutSession s room).time.clock = s.time.clock ∧ (checkoutSession s room).time.expiring = s.time.expiring ∧
    (checkoutSession s room).time.minuteEvents = s.time.minuteEvents ∧
    (checkoutSession s room).journal.push = s.journal.push ∧
    (checkoutSession s room).journal.batch = s.journal.batch ∧
    (checkoutSession s room).journal.frozen = s.journal.frozen ∧
    (checkoutSession s room).trunk.chain = s.trunk.chain ∧
    (checkoutSession s room).trunk.relayDown = s.trunk.relayDown ∧
    (checkoutSession s room).trunk.relayUp = s.trunk.relayUp ∧
    (checkoutSession s room).trunk.requests = s.trunk.requests ∧
    (checkoutSession s room).trunk.inHand = s.trunk.inHand ∧
    (checkoutSession s room).trunk.outQueue = s.trunk.outQueue ∧
    (checkoutSession s room).trunk.reserved = s.trunk.reserved ∧
    (checkoutSession s room).trunk.downAbsent = s.trunk.downAbsent ∧
    (checkoutSession s room).trunk.lastError = s.trunk.lastError ∧
    (checkoutSession s room).trunk.upTx = s.trunk.upTx ∧ (checkoutSession s room).trunk.downTx = s.trunk.downTx := by
  unfold checkoutSession; (repeat' split) <;> simp

@[simp] theorem checkoutRoom_frame (s : State) (room : Half) :
    (checkoutRoom s room).pending = s.pending ∧ (checkoutRoom s room).queue = s.queue ∧
    (checkoutRoom s room).tracker = s.tracker ∧ (checkoutRoom s room).override = s.override ∧
    (checkoutRoom s room).minibar = s.minibar ∧ (checkoutRoom s room).port = s.port ∧
    (checkoutRoom s room).loader = s.loader ∧ (checkoutRoom s room).pruner = s.pruner ∧
    (checkoutRoom s room).startup = s.startup ∧ (checkoutRoom s room).pins = s.pins ∧
    (checkoutRoom s room).time.tick = s.time.tick ∧ (checkoutRoom s room).time.clock = s.time.clock ∧
    (checkoutRoom s room).time.expiring = s.time.expiring ∧
    (checkoutRoom s room).time.minuteEvents = s.time.minuteEvents ∧
    (checkoutRoom s room).store.config = s.store.config ∧ (checkoutRoom s room).store.doors = s.store.doors ∧
    (checkoutRoom s room).store.rooms = s.store.rooms ∧ (checkoutRoom s room).store.zones = s.store.zones ∧
    (checkoutRoom s room).store.profiles = s.store.profiles ∧
    (checkoutRoom s room).store.classes = s.store.classes ∧ (checkoutRoom s room).store.prices = s.store.prices ∧
    (checkoutRoom s room).store.deny = s.store.deny ∧ (checkoutRoom s room).store.denyCount = s.store.denyCount ∧
    (checkoutRoom s room).journal.push = s.journal.push ∧ (checkoutRoom s room).journal.batch = s.journal.batch ∧
    (checkoutRoom s room).journal.frozen = s.journal.frozen ∧ (checkoutRoom s room).trunk.chain = s.trunk.chain ∧
    (checkoutRoom s room).trunk.relayDown = s.trunk.relayDown ∧
    (checkoutRoom s room).trunk.relayUp = s.trunk.relayUp ∧
    (checkoutRoom s room).trunk.requests = s.trunk.requests ∧
    (checkoutRoom s room).trunk.downAbsent = s.trunk.downAbsent ∧
    (checkoutRoom s room).trunk.lastError = s.trunk.lastError ∧ (checkoutRoom s room).trunk.upTx = s.trunk.upTx ∧
    (checkoutRoom s room).trunk.downTx = s.trunk.downTx := by
  unfold checkoutRoom; split <;> simp

@[simp] theorem bumpRoom_frame (s : State) (room : Half) :
    (bumpRoom s room).pending = s.pending ∧ (bumpRoom s room).time = s.time ∧ (bumpRoom s room).lines = s.lines ∧
    (bumpRoom s room).queue = s.queue ∧ (bumpRoom s room).tracker = s.tracker ∧
    (bumpRoom s room).override = s.override ∧ (bumpRoom s room).issue = s.issue ∧
    (bumpRoom s room).minibar = s.minibar ∧ (bumpRoom s room).port = s.port ∧ (bumpRoom s room).loader = s.loader ∧
    (bumpRoom s room).pruner = s.pruner ∧ (bumpRoom s room).startup = s.startup ∧ (bumpRoom s room).pins = s.pins ∧
    (bumpRoom s room).store.config = s.store.config ∧ (bumpRoom s room).store.doors = s.store.doors ∧
    (bumpRoom s room).store.rooms = s.store.rooms ∧ (bumpRoom s room).store.zones = s.store.zones ∧
    (bumpRoom s room).store.profiles = s.store.profiles ∧ (bumpRoom s room).store.classes = s.store.classes ∧
    (bumpRoom s room).store.prices = s.store.prices ∧ (bumpRoom s room).store.deny = s.store.deny ∧
    (bumpRoom s room).store.denyCount = s.store.denyCount ∧ (bumpRoom s room).journal.push = s.journal.push ∧
    (bumpRoom s room).journal.batch = s.journal.batch ∧ (bumpRoom s room).journal.frozen = s.journal.frozen ∧
    (bumpRoom s room).trunk.chain = s.trunk.chain ∧ (bumpRoom s room).trunk.relayDown = s.trunk.relayDown ∧
    (bumpRoom s room).trunk.relayUp = s.trunk.relayUp ∧ (bumpRoom s room).trunk.requests = s.trunk.requests ∧
    (bumpRoom s room).trunk.notices = s.trunk.notices ∧ (bumpRoom s room).trunk.downAbsent = s.trunk.downAbsent ∧
    (bumpRoom s room).trunk.lastError = s.trunk.lastError ∧ (bumpRoom s room).trunk.upTx = s.trunk.upTx ∧
    (bumpRoom s room).trunk.downTx = s.trunk.downTx := by
  unfold bumpRoom; dsimp only; (repeat' split) <;> simp

@[simp] theorem settleRoom_frame (s : State) (room : Half) :
    (settleRoom s room).pending = s.pending ∧ (settleRoom s room).time = s.time ∧
    (settleRoom s room).lines = s.lines ∧ (settleRoom s room).queue = s.queue ∧
    (settleRoom s room).tracker = s.tracker ∧ (settleRoom s room).override = s.override ∧
    (settleRoom s room).issue = s.issue ∧ (settleRoom s room).minibar = s.minibar ∧
    (settleRoom s room).port = s.port ∧ (settleRoom s room).loader = s.loader ∧
    (settleRoom s room).pruner = s.pruner ∧ (settleRoom s room).startup = s.startup ∧
    (settleRoom s room).pins = s.pins ∧ (settleRoom s room).store.config = s.store.config ∧
    (settleRoom s room).store.doors = s.store.doors ∧ (settleRoom s room).store.rooms = s.store.rooms ∧
    (settleRoom s room).store.zones = s.store.zones ∧ (settleRoom s room).store.profiles = s.store.profiles ∧
    (settleRoom s room).store.classes = s.store.classes ∧ (settleRoom s room).store.prices = s.store.prices ∧
    (settleRoom s room).store.deny = s.store.deny ∧ (settleRoom s room).store.denyCount = s.store.denyCount ∧
    (settleRoom s room).journal.push = s.journal.push ∧ (settleRoom s room).journal.batch = s.journal.batch ∧
    (settleRoom s room).journal.frozen = s.journal.frozen ∧ (settleRoom s room).trunk.chain = s.trunk.chain ∧
    (settleRoom s room).trunk.relayDown = s.trunk.relayDown ∧ (settleRoom s room).trunk.relayUp = s.trunk.relayUp ∧
    (settleRoom s room).trunk.requests = s.trunk.requests ∧ (settleRoom s room).trunk.notices = s.trunk.notices ∧
    (settleRoom s room).trunk.downAbsent = s.trunk.downAbsent ∧
    (settleRoom s room).trunk.lastError = s.trunk.lastError ∧ (settleRoom s room).trunk.upTx = s.trunk.upTx ∧
    (settleRoom s room).trunk.downTx = s.trunk.downTx := by
  unfold settleRoom; (repeat' split) <;> simp

@[simp] theorem denyAnswer_frame (s : State) (serial : Serial) (i : DenyIndication) (recorded : Option Minute) (expiry : Minute) :
    (denyAnswer s serial i recorded expiry).pending = s.pending ∧
    (denyAnswer s serial i recorded expiry).time = s.time ∧
    (denyAnswer s serial i recorded expiry).lines = s.lines ∧
    (denyAnswer s serial i recorded expiry).queue = s.queue ∧
    (denyAnswer s serial i recorded expiry).tracker = s.tracker ∧
    (denyAnswer s serial i recorded expiry).override = s.override ∧
    (denyAnswer s serial i recorded expiry).issue = s.issue ∧
    (denyAnswer s serial i recorded expiry).minibar = s.minibar ∧
    (denyAnswer s serial i recorded expiry).store = s.store ∧
    (denyAnswer s serial i recorded expiry).port = s.port ∧
    (denyAnswer s serial i recorded expiry).loader = s.loader ∧
    (denyAnswer s serial i recorded expiry).pruner = s.pruner ∧
    (denyAnswer s serial i recorded expiry).startup = s.startup ∧
    (denyAnswer s serial i recorded expiry).pins = s.pins ∧
    (denyAnswer s serial i recorded expiry).journal.push = s.journal.push ∧
    (denyAnswer s serial i recorded expiry).journal.batch = s.journal.batch ∧
    (denyAnswer s serial i recorded expiry).journal.frozen = s.journal.frozen ∧
    (denyAnswer s serial i recorded expiry).trunk.chain = s.trunk.chain ∧
    (denyAnswer s serial i recorded expiry).trunk.relayDown = s.trunk.relayDown ∧
    (denyAnswer s serial i recorded expiry).trunk.relayUp = s.trunk.relayUp ∧
    (denyAnswer s serial i recorded expiry).trunk.requests = s.trunk.requests ∧
    (denyAnswer s serial i recorded expiry).trunk.notices = s.trunk.notices ∧
    (denyAnswer s serial i recorded expiry).trunk.downAbsent = s.trunk.downAbsent ∧
    (denyAnswer s serial i recorded expiry).trunk.lastError = s.trunk.lastError ∧
    (denyAnswer s serial i recorded expiry).trunk.upTx = s.trunk.upTx ∧
    (denyAnswer s serial i recorded expiry).trunk.downTx = s.trunk.downTx := by
  simp [denyAnswer]

@[simp] theorem denyAddEntry_frame (s : State) (serial : Serial) (expiry : Minute) :
    (denyAddEntry s serial expiry).pending = s.pending ∧ (denyAddEntry s serial expiry).time = s.time ∧
    (denyAddEntry s serial expiry).lines = s.lines ∧ (denyAddEntry s serial expiry).queue = s.queue ∧
    (denyAddEntry s serial expiry).tracker = s.tracker ∧ (denyAddEntry s serial expiry).override = s.override ∧
    (denyAddEntry s serial expiry).issue = s.issue ∧ (denyAddEntry s serial expiry).minibar = s.minibar ∧
    (denyAddEntry s serial expiry).port = s.port ∧ (denyAddEntry s serial expiry).loader = s.loader ∧
    (denyAddEntry s serial expiry).pruner = s.pruner ∧ (denyAddEntry s serial expiry).startup = s.startup ∧
    (denyAddEntry s serial expiry).pins = s.pins ∧ (denyAddEntry s serial expiry).store.config = s.store.config ∧
    (denyAddEntry s serial expiry).store.doors = s.store.doors ∧
    (denyAddEntry s serial expiry).store.rooms = s.store.rooms ∧
    (denyAddEntry s serial expiry).store.zones = s.store.zones ∧
    (denyAddEntry s serial expiry).store.profiles = s.store.profiles ∧
    (denyAddEntry s serial expiry).store.classes = s.store.classes ∧
    (denyAddEntry s serial expiry).store.prices = s.store.prices ∧
    (denyAddEntry s serial expiry).store.dyns = s.store.dyns ∧
    (denyAddEntry s serial expiry).journal.push = s.journal.push ∧
    (denyAddEntry s serial expiry).journal.batch = s.journal.batch ∧
    (denyAddEntry s serial expiry).journal.frozen = s.journal.frozen ∧
    (denyAddEntry s serial expiry).trunk.chain = s.trunk.chain ∧
    (denyAddEntry s serial expiry).trunk.relayDown = s.trunk.relayDown ∧
    (denyAddEntry s serial expiry).trunk.relayUp = s.trunk.relayUp ∧
    (denyAddEntry s serial expiry).trunk.requests = s.trunk.requests ∧
    (denyAddEntry s serial expiry).trunk.notices = s.trunk.notices ∧
    (denyAddEntry s serial expiry).trunk.downAbsent = s.trunk.downAbsent ∧
    (denyAddEntry s serial expiry).trunk.lastError = s.trunk.lastError ∧
    (denyAddEntry s serial expiry).trunk.upTx = s.trunk.upTx ∧
    (denyAddEntry s serial expiry).trunk.downTx = s.trunk.downTx := by
  unfold denyAddEntry; (repeat' split) <;> simp

@[simp] theorem denyRemoveEntry_frame (s : State) (serial : Serial) :
    (denyRemoveEntry s serial).pending = s.pending ∧ (denyRemoveEntry s serial).time = s.time ∧
    (denyRemoveEntry s serial).lines = s.lines ∧ (denyRemoveEntry s serial).queue = s.queue ∧
    (denyRemoveEntry s serial).tracker = s.tracker ∧ (denyRemoveEntry s serial).override = s.override ∧
    (denyRemoveEntry s serial).issue = s.issue ∧ (denyRemoveEntry s serial).minibar = s.minibar ∧
    (denyRemoveEntry s serial).port = s.port ∧ (denyRemoveEntry s serial).loader = s.loader ∧
    (denyRemoveEntry s serial).pruner = s.pruner ∧ (denyRemoveEntry s serial).startup = s.startup ∧
    (denyRemoveEntry s serial).pins = s.pins ∧ (denyRemoveEntry s serial).store.config = s.store.config ∧
    (denyRemoveEntry s serial).store.doors = s.store.doors ∧
    (denyRemoveEntry s serial).store.rooms = s.store.rooms ∧
    (denyRemoveEntry s serial).store.zones = s.store.zones ∧
    (denyRemoveEntry s serial).store.profiles = s.store.profiles ∧
    (denyRemoveEntry s serial).store.classes = s.store.classes ∧
    (denyRemoveEntry s serial).store.prices = s.store.prices ∧
    (denyRemoveEntry s serial).store.dyns = s.store.dyns ∧
    (denyRemoveEntry s serial).journal.push = s.journal.push ∧
    (denyRemoveEntry s serial).journal.batch = s.journal.batch ∧
    (denyRemoveEntry s serial).journal.frozen = s.journal.frozen ∧
    (denyRemoveEntry s serial).trunk.chain = s.trunk.chain ∧
    (denyRemoveEntry s serial).trunk.relayDown = s.trunk.relayDown ∧
    (denyRemoveEntry s serial).trunk.relayUp = s.trunk.relayUp ∧
    (denyRemoveEntry s serial).trunk.requests = s.trunk.requests ∧
    (denyRemoveEntry s serial).trunk.notices = s.trunk.notices ∧
    (denyRemoveEntry s serial).trunk.downAbsent = s.trunk.downAbsent ∧
    (denyRemoveEntry s serial).trunk.lastError = s.trunk.lastError ∧
    (denyRemoveEntry s serial).trunk.upTx = s.trunk.upTx ∧ (denyRemoveEntry s serial).trunk.downTx = s.trunk.downTx := by
  unfold denyRemoveEntry; split <;> simp

@[simp] theorem pruneOnce_frame (s : State) :
    (pruneOnce s).pending = s.pending ∧ (pruneOnce s).time = s.time ∧ (pruneOnce s).lines = s.lines ∧
    (pruneOnce s).queue = s.queue ∧ (pruneOnce s).tracker = s.tracker ∧ (pruneOnce s).override = s.override ∧
    (pruneOnce s).issue = s.issue ∧ (pruneOnce s).minibar = s.minibar ∧ (pruneOnce s).port = s.port ∧
    (pruneOnce s).loader = s.loader ∧ (pruneOnce s).trunk = s.trunk ∧ (pruneOnce s).startup = s.startup ∧
    (pruneOnce s).pins = s.pins ∧ (pruneOnce s).store.config = s.store.config ∧
    (pruneOnce s).store.doors = s.store.doors ∧ (pruneOnce s).store.rooms = s.store.rooms ∧
    (pruneOnce s).store.zones = s.store.zones ∧ (pruneOnce s).store.profiles = s.store.profiles ∧
    (pruneOnce s).store.classes = s.store.classes ∧ (pruneOnce s).store.prices = s.store.prices ∧
    (pruneOnce s).store.dyns = s.store.dyns ∧ (pruneOnce s).journal.push = s.journal.push ∧
    (pruneOnce s).journal.batch = s.journal.batch ∧ (pruneOnce s).journal.frozen = s.journal.frozen := by
  unfold pruneOnce; (repeat' split) <;> simp

@[simp] theorem pushPost_frame (s : State) (e : PostEntry) :
    (pushPost s e).pending = s.pending ∧ (pushPost s e).time = s.time ∧ (pushPost s e).lines = s.lines ∧
    (pushPost s e).queue = s.queue ∧ (pushPost s e).tracker = s.tracker ∧ (pushPost s e).override = s.override ∧
    (pushPost s e).issue = s.issue ∧ (pushPost s e).minibar = s.minibar ∧ (pushPost s e).store = s.store ∧
    (pushPost s e).port = s.port ∧ (pushPost s e).pruner = s.pruner ∧ (pushPost s e).journal = s.journal ∧
    (pushPost s e).trunk = s.trunk ∧ (pushPost s e).startup = s.startup ∧ (pushPost s e).pins = s.pins ∧
    (pushPost s e).loader.window = s.loader.window ∧ (pushPost s e).loader.cursor = s.loader.cursor ∧
    (pushPost s e).loader.load = s.loader.load := by
  simp [pushPost]

@[simp] theorem rewriteNode_frame (s : State) (n : Node) (old new : DoorEntry) :
    (rewriteNode s n old new).pending = s.pending ∧ (rewriteNode s n old new).time = s.time ∧
    (rewriteNode s n old new).queue = s.queue ∧ (rewriteNode s n old new).tracker = s.tracker ∧
    (rewriteNode s n old new).override = s.override ∧ (rewriteNode s n old new).issue = s.issue ∧
    (rewriteNode s n old new).minibar = s.minibar ∧ (rewriteNode s n old new).store = s.store ∧
    (rewriteNode s n old new).port = s.port ∧ (rewriteNode s n old new).loader = s.loader ∧
    (rewriteNode s n old new).pruner = s.pruner ∧ (rewriteNode s n old new).journal = s.journal ∧
    (rewriteNode s n old new).trunk = s.trunk ∧ (rewriteNode s n old new).startup = s.startup ∧
    (rewriteNode s n old new).pins = s.pins := by
  simp [rewriteNode]

@[simp] theorem rewriteTrack_frame (s : State) (n : Node) (old new : DoorEntry) :
    (rewriteTrack s n old new).pending = s.pending ∧ (rewriteTrack s n old new).time = s.time ∧
    (rewriteTrack s n old new).lines = s.lines ∧ (rewriteTrack s n old new).queue = s.queue ∧
    (rewriteTrack s n old new).override = s.override ∧ (rewriteTrack s n old new).issue = s.issue ∧
    (rewriteTrack s n old new).minibar = s.minibar ∧ (rewriteTrack s n old new).store = s.store ∧
    (rewriteTrack s n old new).port = s.port ∧ (rewriteTrack s n old new).loader = s.loader ∧
    (rewriteTrack s n old new).pruner = s.pruner ∧ (rewriteTrack s n old new).journal = s.journal ∧
    (rewriteTrack s n old new).trunk = s.trunk ∧ (rewriteTrack s n old new).startup = s.startup ∧
    (rewriteTrack s n old new).pins = s.pins := by
  unfold rewriteTrack; split <;> simp

@[simp] theorem postDoor_frame (s : State) (i : Slot) (new : DoorEntry) :
    (postDoor s i new).pending = s.pending ∧ (postDoor s i new).queue = s.queue ∧
    (postDoor s i new).override = s.override ∧ (postDoor s i new).store = s.store ∧
    (postDoor s i new).port = s.port ∧ (postDoor s i new).pruner = s.pruner ∧
    (postDoor s i new).startup = s.startup ∧ (postDoor s i new).pins = s.pins ∧
    (postDoor s i new).time.tick = s.time.tick ∧ (postDoor s i new).time.clock = s.time.clock ∧
    (postDoor s i new).time.expiring = s.time.expiring ∧
    (postDoor s i new).time.minuteEvents = s.time.minuteEvents ∧
    (postDoor s i new).loader.window = s.loader.window ∧ (postDoor s i new).loader.cursor = s.loader.cursor ∧
    (postDoor s i new).loader.load = s.loader.load ∧ (postDoor s i new).journal.push = s.journal.push ∧
    (postDoor s i new).journal.batch = s.journal.batch ∧ (postDoor s i new).journal.frozen = s.journal.frozen ∧
    (postDoor s i new).trunk.chain = s.trunk.chain ∧ (postDoor s i new).trunk.relayDown = s.trunk.relayDown ∧
    (postDoor s i new).trunk.relayUp = s.trunk.relayUp ∧ (postDoor s i new).trunk.requests = s.trunk.requests ∧
    (postDoor s i new).trunk.inHand = s.trunk.inHand ∧ (postDoor s i new).trunk.outQueue = s.trunk.outQueue ∧
    (postDoor s i new).trunk.reserved = s.trunk.reserved ∧
    (postDoor s i new).trunk.downAbsent = s.trunk.downAbsent ∧
    (postDoor s i new).trunk.lastError = s.trunk.lastError ∧ (postDoor s i new).trunk.upTx = s.trunk.upTx ∧
    (postDoor s i new).trunk.downTx = s.trunk.downTx := by
  unfold postDoor; dsimp only; (repeat' split) <;> simp

@[simp] theorem minibarRewrite_frame (s : State) (i : Slot) (before after : Option Node) :
    (minibarRewrite s i before after).pending = s.pending ∧ (minibarRewrite s i before after).lines = s.lines ∧
    (minibarRewrite s i before after).queue = s.queue ∧ (minibarRewrite s i before after).tracker = s.tracker ∧
    (minibarRewrite s i before after).override = s.override ∧ (minibarRewrite s i before after).issue = s.issue ∧
    (minibarRewrite s i before after).port = s.port ∧ (minibarRewrite s i before after).loader = s.loader ∧
    (minibarRewrite s i before after).pruner = s.pruner ∧ (minibarRewrite s i before after).journal = s.journal ∧
    (minibarRewrite s i before after).trunk = s.trunk ∧ (minibarRewrite s i before after).startup = s.startup ∧
    (minibarRewrite s i before after).pins = s.pins ∧ (minibarRewrite s i before after).time.tick = s.time.tick ∧
    (minibarRewrite s i before after).time.clock = s.time.clock ∧
    (minibarRewrite s i before after).time.expiring = s.time.expiring ∧
    (minibarRewrite s i before after).time.minuteEvents = s.time.minuteEvents ∧
    (minibarRewrite s i before after).store.config = s.store.config ∧
    (minibarRewrite s i before after).store.doors = s.store.doors ∧
    (minibarRewrite s i before after).store.rooms = s.store.rooms ∧
    (minibarRewrite s i before after).store.zones = s.store.zones ∧
    (minibarRewrite s i before after).store.profiles = s.store.profiles ∧
    (minibarRewrite s i before after).store.classes = s.store.classes ∧
    (minibarRewrite s i before after).store.prices = s.store.prices ∧
    (minibarRewrite s i before after).store.deny = s.store.deny ∧
    (minibarRewrite s i before after).store.denyCount = s.store.denyCount := by
  unfold minibarRewrite; (repeat' split) <;> simp

@[simp] theorem restoreKept_frame (s : State) (i : Slot) (room : Half) (p : RestorePart) :
    (restoreKept s i room p).pending = s.pending ∧ (restoreKept s i room p).queue = s.queue ∧
    (restoreKept s i room p).override = s.override ∧ (restoreKept s i room p).minibar = s.minibar ∧
    (restoreKept s i room p).port = s.port ∧ (restoreKept s i room p).loader = s.loader ∧
    (restoreKept s i room p).pruner = s.pruner ∧ (restoreKept s i room p).startup = s.startup ∧
    (restoreKept s i room p).pins = s.pins ∧ (restoreKept s i room p).time.tick = s.time.tick ∧
    (restoreKept s i room p).time.clock = s.time.clock ∧ (restoreKept s i room p).time.expiring = s.time.expiring ∧
    (restoreKept s i room p).time.minuteEvents = s.time.minuteEvents ∧
    (restoreKept s i room p).tracker.doors = s.tracker.doors ∧
    (restoreKept s i room p).store.config = s.store.config ∧ (restoreKept s i room p).store.doors = s.store.doors ∧
    (restoreKept s i room p).store.rooms = s.store.rooms ∧ (restoreKept s i room p).store.zones = s.store.zones ∧
    (restoreKept s i room p).store.profiles = s.store.profiles ∧
    (restoreKept s i room p).store.classes = s.store.classes ∧
    (restoreKept s i room p).store.prices = s.store.prices ∧ (restoreKept s i room p).store.deny = s.store.deny ∧
    (restoreKept s i room p).store.denyCount = s.store.denyCount ∧
    (restoreKept s i room p).journal.push = s.journal.push ∧
    (restoreKept s i room p).journal.batch = s.journal.batch ∧
    (restoreKept s i room p).journal.frozen = s.journal.frozen ∧
    (restoreKept s i room p).trunk.chain = s.trunk.chain ∧
    (restoreKept s i room p).trunk.relayDown = s.trunk.relayDown ∧
    (restoreKept s i room p).trunk.relayUp = s.trunk.relayUp ∧
    (restoreKept s i room p).trunk.requests = s.trunk.requests ∧
    (restoreKept s i room p).trunk.inHand = s.trunk.inHand ∧
    (restoreKept s i room p).trunk.outQueue = s.trunk.outQueue ∧
    (restoreKept s i room p).trunk.reserved = s.trunk.reserved ∧
    (restoreKept s i room p).trunk.downAbsent = s.trunk.downAbsent ∧
    (restoreKept s i room p).trunk.lastError = s.trunk.lastError ∧
    (restoreKept s i room p).trunk.upTx = s.trunk.upTx ∧ (restoreKept s i room p).trunk.downTx = s.trunk.downTx := by
  unfold restoreKept; dsimp only; split <;> simp

@[simp] theorem keepRoom_frame (s : State) (i : Slot) (old new : RoomStatic) (restore : Option RestorePart) :
    (keepRoom s i old new restore).pending = s.pending ∧ (keepRoom s i old new restore).queue = s.queue ∧
    (keepRoom s i old new restore).override = s.override ∧ (keepRoom s i old new restore).port = s.port ∧
    (keepRoom s i old new restore).pruner = s.pruner ∧ (keepRoom s i old new restore).startup = s.startup ∧
    (keepRoom s i old new restore).pins = s.pins ∧ (keepRoom s i old new restore).time.tick = s.time.tick ∧
    (keepRoom s i old new restore).time.clock = s.time.clock ∧
    (keepRoom s i old new restore).time.expiring = s.time.expiring ∧
    (keepRoom s i old new restore).time.minuteEvents = s.time.minuteEvents ∧
    (keepRoom s i old new restore).tracker.doors = s.tracker.doors ∧
    (keepRoom s i old new restore).store.config = s.store.config ∧
    (keepRoom s i old new restore).store.doors = s.store.doors ∧
    (keepRoom s i old new restore).store.rooms = s.store.rooms ∧
    (keepRoom s i old new restore).store.zones = s.store.zones ∧
    (keepRoom s i old new restore).store.profiles = s.store.profiles ∧
    (keepRoom s i old new restore).store.classes = s.store.classes ∧
    (keepRoom s i old new restore).store.prices = s.store.prices ∧
    (keepRoom s i old new restore).store.deny = s.store.deny ∧
    (keepRoom s i old new restore).store.denyCount = s.store.denyCount ∧
    (keepRoom s i old new restore).loader.window = s.loader.window ∧
    (keepRoom s i old new restore).loader.cursor = s.loader.cursor ∧
    (keepRoom s i old new restore).loader.load = s.loader.load ∧
    (keepRoom s i old new restore).journal.push = s.journal.push ∧
    (keepRoom s i old new restore).journal.batch = s.journal.batch ∧
    (keepRoom s i old new restore).journal.frozen = s.journal.frozen ∧
    (keepRoom s i old new restore).trunk.chain = s.trunk.chain ∧
    (keepRoom s i old new restore).trunk.relayDown = s.trunk.relayDown ∧
    (keepRoom s i old new restore).trunk.relayUp = s.trunk.relayUp ∧
    (keepRoom s i old new restore).trunk.requests = s.trunk.requests ∧
    (keepRoom s i old new restore).trunk.inHand = s.trunk.inHand ∧
    (keepRoom s i old new restore).trunk.outQueue = s.trunk.outQueue ∧
    (keepRoom s i old new restore).trunk.reserved = s.trunk.reserved ∧
    (keepRoom s i old new restore).trunk.downAbsent = s.trunk.downAbsent ∧
    (keepRoom s i old new restore).trunk.lastError = s.trunk.lastError ∧
    (keepRoom s i old new restore).trunk.upTx = s.trunk.upTx ∧
    (keepRoom s i old new restore).trunk.downTx = s.trunk.downTx := by
  unfold keepRoom; split <;> simp

@[simp] theorem dropMinibarNode_frame (s : State) (old : Option Node) :
    (dropMinibarNode s old).pending = s.pending ∧ (dropMinibarNode s old).lines = s.lines ∧
    (dropMinibarNode s old).queue = s.queue ∧ (dropMinibarNode s old).tracker = s.tracker ∧
    (dropMinibarNode s old).override = s.override ∧ (dropMinibarNode s old).issue = s.issue ∧
    (dropMinibarNode s old).minibar = s.minibar ∧ (dropMinibarNode s old).store = s.store ∧
    (dropMinibarNode s old).port = s.port ∧ (dropMinibarNode s old).loader = s.loader ∧
    (dropMinibarNode s old).pruner = s.pruner ∧ (dropMinibarNode s old).journal = s.journal ∧
    (dropMinibarNode s old).trunk = s.trunk ∧ (dropMinibarNode s old).startup = s.startup ∧
    (dropMinibarNode s old).pins = s.pins ∧ (dropMinibarNode s old).time.tick = s.time.tick ∧
    (dropMinibarNode s old).time.clock = s.time.clock ∧ (dropMinibarNode s old).time.expiring = s.time.expiring ∧
    (dropMinibarNode s old).time.minuteEvents = s.time.minuteEvents := by
  unfold dropMinibarNode; split <;> simp

@[simp] theorem replaceRoom_frame (s : State) (i : Slot) (old new : RoomStatic) (restore : Option RestorePart) :
    (replaceRoom s i old new restore).pending = s.pending ∧ (replaceRoom s i old new restore).queue = s.queue ∧
    (replaceRoom s i old new restore).override = s.override ∧
    (replaceRoom s i old new restore).minibar = s.minibar ∧ (replaceRoom s i old new restore).port = s.port ∧
    (replaceRoom s i old new restore).pruner = s.pruner ∧ (replaceRoom s i old new restore).startup = s.startup ∧
    (replaceRoom s i old new restore).pins = s.pins ∧ (replaceRoom s i old new restore).time.tick = s.time.tick ∧
    (replaceRoom s i old new restore).time.clock = s.time.clock ∧
    (replaceRoom s i old new restore).time.expiring = s.time.expiring ∧
    (replaceRoom s i old new restore).time.minuteEvents = s.time.minuteEvents ∧
    (replaceRoom s i old new restore).tracker.doors = s.tracker.doors ∧
    (replaceRoom s i old new restore).store.config = s.store.config ∧
    (replaceRoom s i old new restore).store.doors = s.store.doors ∧
    (replaceRoom s i old new restore).store.rooms = s.store.rooms ∧
    (replaceRoom s i old new restore).store.zones = s.store.zones ∧
    (replaceRoom s i old new restore).store.profiles = s.store.profiles ∧
    (replaceRoom s i old new restore).store.classes = s.store.classes ∧
    (replaceRoom s i old new restore).store.prices = s.store.prices ∧
    (replaceRoom s i old new restore).store.deny = s.store.deny ∧
    (replaceRoom s i old new restore).store.denyCount = s.store.denyCount ∧
    (replaceRoom s i old new restore).loader.window = s.loader.window ∧
    (replaceRoom s i old new restore).loader.cursor = s.loader.cursor ∧
    (replaceRoom s i old new restore).loader.load = s.loader.load ∧
    (replaceRoom s i old new restore).journal.push = s.journal.push ∧
    (replaceRoom s i old new restore).journal.batch = s.journal.batch ∧
    (replaceRoom s i old new restore).journal.frozen = s.journal.frozen ∧
    (replaceRoom s i old new restore).trunk.chain = s.trunk.chain ∧
    (replaceRoom s i old new restore).trunk.relayDown = s.trunk.relayDown ∧
    (replaceRoom s i old new restore).trunk.relayUp = s.trunk.relayUp ∧
    (replaceRoom s i old new restore).trunk.requests = s.trunk.requests ∧
    (replaceRoom s i old new restore).trunk.inHand = s.trunk.inHand ∧
    (replaceRoom s i old new restore).trunk.outQueue = s.trunk.outQueue ∧
    (replaceRoom s i old new restore).trunk.reserved = s.trunk.reserved ∧
    (replaceRoom s i old new restore).trunk.downAbsent = s.trunk.downAbsent ∧
    (replaceRoom s i old new restore).trunk.lastError = s.trunk.lastError ∧
    (replaceRoom s i old new restore).trunk.upTx = s.trunk.upTx ∧
    (replaceRoom s i old new restore).trunk.downTx = s.trunk.downTx := by
  unfold replaceRoom; split <;> simp

@[simp] theorem loadAfter_frame (s : State) (w : LoadWindow) (ld : LoadInHand) :
    (loadAfter s w ld).pending = s.pending ∧ (loadAfter s w ld).time = s.time ∧ (loadAfter s w ld).lines = s.lines ∧
    (loadAfter s w ld).queue = s.queue ∧ (loadAfter s w ld).tracker = s.tracker ∧
    (loadAfter s w ld).override = s.override ∧ (loadAfter s w ld).issue = s.issue ∧
    (loadAfter s w ld).minibar = s.minibar ∧ (loadAfter s w ld).store = s.store ∧ (loadAfter s w ld).port = s.port ∧
    (loadAfter s w ld).pruner = s.pruner ∧ (loadAfter s w ld).journal = s.journal ∧
    (loadAfter s w ld).startup = s.startup ∧ (loadAfter s w ld).pins = s.pins ∧
    (loadAfter s w ld).loader.buffer = s.loader.buffer ∧ (loadAfter s w ld).loader.window = s.loader.window ∧
    (loadAfter s w ld).trunk.chain = s.trunk.chain ∧ (loadAfter s w ld).trunk.relayDown = s.trunk.relayDown ∧
    (loadAfter s w ld).trunk.relayUp = s.trunk.relayUp ∧ (loadAfter s w ld).trunk.requests = s.trunk.requests ∧
    (loadAfter s w ld).trunk.notices = s.trunk.notices ∧ (loadAfter s w ld).trunk.downAbsent = s.trunk.downAbsent ∧
    (loadAfter s w ld).trunk.lastError = s.trunk.lastError ∧ (loadAfter s w ld).trunk.upTx = s.trunk.upTx ∧
    (loadAfter s w ld).trunk.downTx = s.trunk.downTx := by
  unfold loadAfter; split <;> simp

@[simp] theorem drainOldest_frame (s : State) :
    (drainOldest s).pending = s.pending ∧ (drainOldest s).time = s.time ∧ (drainOldest s).lines = s.lines ∧
    (drainOldest s).queue = s.queue ∧ (drainOldest s).tracker = s.tracker ∧ (drainOldest s).override = s.override ∧
    (drainOldest s).issue = s.issue ∧ (drainOldest s).minibar = s.minibar ∧ (drainOldest s).port = s.port ∧
    (drainOldest s).pruner = s.pruner ∧ (drainOldest s).journal = s.journal ∧ (drainOldest s).trunk = s.trunk ∧
    (drainOldest s).startup = s.startup ∧ (drainOldest s).pins = s.pins ∧
    (drainOldest s).loader.window = s.loader.window ∧ (drainOldest s).loader.cursor = s.loader.cursor ∧
    (drainOldest s).loader.load = s.loader.load := by
  unfold drainOldest; split <;> simp

@[simp] theorem setWindow_frame (s : State) (table : Byte) (first last : Half) (wrap : Byte) :
    (setWindow s table first last wrap).pending = s.pending ∧ (setWindow s table first last wrap).time = s.time ∧
    (setWindow s table first last wrap).lines = s.lines ∧ (setWindow s table first last wrap).queue = s.queue ∧
    (setWindow s table first last wrap).tracker = s.tracker ∧
    (setWindow s table first last wrap).override = s.override ∧
    (setWindow s table first last wrap).issue = s.issue ∧ (setWindow s table first last wrap).minibar = s.minibar ∧
    (setWindow s table first last wrap).store = s.store ∧ (setWindow s table first last wrap).port = s.port ∧
    (setWindow s table first last wrap).pruner = s.pruner ∧
    (setWindow s table first last wrap).journal = s.journal ∧
    (setWindow s table first last wrap).startup = s.startup ∧ (setWindow s table first last wrap).pins = s.pins ∧
    (setWindow s table first last wrap).loader.buffer = s.loader.buffer ∧
    (setWindow s table first last wrap).loader.load = s.loader.load ∧
    (setWindow s table first last wrap).trunk.chain = s.trunk.chain ∧
    (setWindow s table first last wrap).trunk.relayDown = s.trunk.relayDown ∧
    (setWindow s table first last wrap).trunk.relayUp = s.trunk.relayUp ∧
    (setWindow s table first last wrap).trunk.requests = s.trunk.requests ∧
    (setWindow s table first last wrap).trunk.notices = s.trunk.notices ∧
    (setWindow s table first last wrap).trunk.downAbsent = s.trunk.downAbsent ∧
    (setWindow s table first last wrap).trunk.lastError = s.trunk.lastError ∧
    (setWindow s table first last wrap).trunk.upTx = s.trunk.upTx ∧
    (setWindow s table first last wrap).trunk.downTx = s.trunk.downTx := by
  unfold setWindow; (repeat' split) <;> simp

@[simp] theorem beginLoad_frame (s : State) (body : List Byte) :
    (beginLoad s body).pending = s.pending ∧ (beginLoad s body).time = s.time ∧ (beginLoad s body).lines = s.lines ∧
    (beginLoad s body).queue = s.queue ∧ (beginLoad s body).tracker = s.tracker ∧
    (beginLoad s body).override = s.override ∧ (beginLoad s body).issue = s.issue ∧
    (beginLoad s body).minibar = s.minibar ∧ (beginLoad s body).store = s.store ∧ (beginLoad s body).port = s.port ∧
    (beginLoad s body).pruner = s.pruner ∧ (beginLoad s body).journal = s.journal ∧
    (beginLoad s body).startup = s.startup ∧ (beginLoad s body).pins = s.pins ∧
    (beginLoad s body).loader.buffer = s.loader.buffer ∧ (beginLoad s body).loader.window = s.loader.window ∧
    (beginLoad s body).loader.cursor = s.loader.cursor ∧ (beginLoad s body).trunk.chain = s.trunk.chain ∧
    (beginLoad s body).trunk.relayDown = s.trunk.relayDown ∧ (beginLoad s body).trunk.relayUp = s.trunk.relayUp ∧
    (beginLoad s body).trunk.requests = s.trunk.requests ∧ (beginLoad s body).trunk.notices = s.trunk.notices ∧
    (beginLoad s body).trunk.downAbsent = s.trunk.downAbsent ∧
    (beginLoad s body).trunk.lastError = s.trunk.lastError ∧ (beginLoad s body).trunk.upTx = s.trunk.upTx ∧
    (beginLoad s body).trunk.downTx = s.trunk.downTx := by
  unfold beginLoad; (repeat' split) <;> simp

@[simp] theorem readEntries_frame (s : State) (table : Byte) (first : Half) (count : Byte) :
    (readEntries s table first count).pending = s.pending ∧ (readEntries s table first count).time = s.time ∧
    (readEntries s table first count).lines = s.lines ∧ (readEntries s table first count).queue = s.queue ∧
    (readEntries s table first count).tracker = s.tracker ∧
    (readEntries s table first count).override = s.override ∧ (readEntries s table first count).issue = s.issue ∧
    (readEntries s table first count).minibar = s.minibar ∧ (readEntries s table first count).store = s.store ∧
    (readEntries s table first count).port = s.port ∧ (readEntries s table first count).loader = s.loader ∧
    (readEntries s table first count).pruner = s.pruner ∧ (readEntries s table first count).journal = s.journal ∧
    (readEntries s table first count).startup = s.startup ∧ (readEntries s table first count).pins = s.pins ∧
    (readEntries s table first count).trunk.chain = s.trunk.chain ∧
    (readEntries s table first count).trunk.relayDown = s.trunk.relayDown ∧
    (readEntries s table first count).trunk.relayUp = s.trunk.relayUp ∧
    (readEntries s table first count).trunk.requests = s.trunk.requests ∧
    (readEntries s table first count).trunk.notices = s.trunk.notices ∧
    (readEntries s table first count).trunk.downAbsent = s.trunk.downAbsent ∧
    (readEntries s table first count).trunk.lastError = s.trunk.lastError ∧
    (readEntries s table first count).trunk.upTx = s.trunk.upTx ∧
    (readEntries s table first count).trunk.downTx = s.trunk.downTx := by
  unfold readEntries; split <;> simp

@[simp] theorem answerStatus_frame (s : State) :
    (answerStatus s).pending = s.pending ∧ (answerStatus s).time = s.time ∧ (answerStatus s).lines = s.lines ∧
    (answerStatus s).queue = s.queue ∧ (answerStatus s).tracker = s.tracker ∧
    (answerStatus s).override = s.override ∧ (answerStatus s).issue = s.issue ∧
    (answerStatus s).minibar = s.minibar ∧ (answerStatus s).store = s.store ∧ (answerStatus s).port = s.port ∧
    (answerStatus s).loader = s.loader ∧ (answerStatus s).pruner = s.pruner ∧ (answerStatus s).journal = s.journal ∧
    (answerStatus s).startup = s.startup ∧ (answerStatus s).pins = s.pins ∧
    (answerStatus s).trunk.chain = s.trunk.chain ∧ (answerStatus s).trunk.relayDown = s.trunk.relayDown ∧
    (answerStatus s).trunk.relayUp = s.trunk.relayUp ∧ (answerStatus s).trunk.requests = s.trunk.requests ∧
    (answerStatus s).trunk.notices = s.trunk.notices ∧ (answerStatus s).trunk.downAbsent = s.trunk.downAbsent ∧
    (answerStatus s).trunk.upTx = s.trunk.upTx ∧ (answerStatus s).trunk.downTx = s.trunk.downTx := by
  simp [answerStatus]

@[simp] theorem countTick_frame (s : State) :
    (countTick s).pending = s.pending ∧ (countTick s).lines = s.lines ∧ (countTick s).queue = s.queue ∧
    (countTick s).tracker = s.tracker ∧ (countTick s).override = s.override ∧ (countTick s).issue = s.issue ∧
    (countTick s).minibar = s.minibar ∧ (countTick s).store = s.store ∧ (countTick s).port = s.port ∧
    (countTick s).loader = s.loader ∧ (countTick s).pruner = s.pruner ∧ (countTick s).journal = s.journal ∧
    (countTick s).trunk = s.trunk ∧ (countTick s).startup = s.startup ∧ (countTick s).pins = s.pins ∧
    (countTick s).time.deadlines = s.time.deadlines ∧ (countTick s).time.expiring = s.time.expiring := by
  simp [countTick]

@[simp] theorem takeSupplyFail_frame (s : State) :
    (takeSupplyFail s).pending = s.pending ∧ (takeSupplyFail s).time = s.time ∧ (takeSupplyFail s).lines = s.lines ∧
    (takeSupplyFail s).queue = s.queue ∧ (takeSupplyFail s).tracker = s.tracker ∧
    (takeSupplyFail s).override = s.override ∧ (takeSupplyFail s).issue = s.issue ∧
    (takeSupplyFail s).minibar = s.minibar ∧ (takeSupplyFail s).store = s.store ∧ (takeSupplyFail s).port = s.port ∧
    (takeSupplyFail s).pruner = s.pruner ∧ (takeSupplyFail s).journal = s.journal ∧
    (takeSupplyFail s).pins = s.pins ∧ (takeSupplyFail s).loader.buffer = s.loader.buffer ∧
    (takeSupplyFail s).loader.window = s.loader.window ∧ (takeSupplyFail s).loader.cursor = s.loader.cursor ∧
    (takeSupplyFail s).trunk.chain = s.trunk.chain ∧ (takeSupplyFail s).trunk.relayDown = s.trunk.relayDown ∧
    (takeSupplyFail s).trunk.relayUp = s.trunk.relayUp ∧ (takeSupplyFail s).trunk.requests = s.trunk.requests ∧
    (takeSupplyFail s).trunk.outQueue = s.trunk.outQueue ∧ (takeSupplyFail s).trunk.reserved = s.trunk.reserved ∧
    (takeSupplyFail s).trunk.notices = s.trunk.notices ∧ (takeSupplyFail s).trunk.downAbsent = s.trunk.downAbsent ∧
    (takeSupplyFail s).trunk.lastError = s.trunk.lastError ∧ (takeSupplyFail s).trunk.upTx = s.trunk.upTx ∧
    (takeSupplyFail s).trunk.downTx = s.trunk.downTx ∧ (takeSupplyFail s).startup.phase = s.startup.phase ∧
    (takeSupplyFail s).startup.cause = s.startup.cause ∧ (takeSupplyFail s).startup.keep = s.startup.keep ∧
    (takeSupplyFail s).startup.marker = s.startup.marker ∧
    (takeSupplyFail s).startup.stopWork = s.startup.stopWork ∧
    (takeSupplyFail s).startup.stopStep = s.startup.stopStep ∧
    (takeSupplyFail s).startup.restart = s.startup.restart := by
  unfold takeSupplyFail; split <;> simp

@[simp] theorem sampleSupply_frame (supplyFail : Bool) (s : State) :
    (sampleSupply supplyFail s).pending = s.pending ∧ (sampleSupply supplyFail s).time = s.time ∧
    (sampleSupply supplyFail s).lines = s.lines ∧ (sampleSupply supplyFail s).queue = s.queue ∧
    (sampleSupply supplyFail s).tracker = s.tracker ∧ (sampleSupply supplyFail s).override = s.override ∧
    (sampleSupply supplyFail s).issue = s.issue ∧ (sampleSupply supplyFail s).minibar = s.minibar ∧
    (sampleSupply supplyFail s).store = s.store ∧ (sampleSupply supplyFail s).port = s.port ∧
    (sampleSupply supplyFail s).pruner = s.pruner ∧ (sampleSupply supplyFail s).journal = s.journal ∧
    (sampleSupply supplyFail s).pins = s.pins ∧ (sampleSupply supplyFail s).loader.buffer = s.loader.buffer ∧
    (sampleSupply supplyFail s).loader.window = s.loader.window ∧
    (sampleSupply supplyFail s).loader.cursor = s.loader.cursor ∧
    (sampleSupply supplyFail s).trunk.chain = s.trunk.chain ∧
    (sampleSupply supplyFail s).trunk.relayDown = s.trunk.relayDown ∧
    (sampleSupply supplyFail s).trunk.relayUp = s.trunk.relayUp ∧
    (sampleSupply supplyFail s).trunk.requests = s.trunk.requests ∧
    (sampleSupply supplyFail s).trunk.outQueue = s.trunk.outQueue ∧
    (sampleSupply supplyFail s).trunk.reserved = s.trunk.reserved ∧
    (sampleSupply supplyFail s).trunk.notices = s.trunk.notices ∧
    (sampleSupply supplyFail s).trunk.downAbsent = s.trunk.downAbsent ∧
    (sampleSupply supplyFail s).trunk.lastError = s.trunk.lastError ∧
    (sampleSupply supplyFail s).trunk.upTx = s.trunk.upTx ∧
    (sampleSupply supplyFail s).trunk.downTx = s.trunk.downTx ∧
    (sampleSupply supplyFail s).startup.phase = s.startup.phase ∧
    (sampleSupply supplyFail s).startup.cause = s.startup.cause ∧
    (sampleSupply supplyFail s).startup.keep = s.startup.keep ∧
    (sampleSupply supplyFail s).startup.marker = s.startup.marker ∧
    (sampleSupply supplyFail s).startup.stopWork = s.startup.stopWork ∧
    (sampleSupply supplyFail s).startup.stopStep = s.startup.stopStep ∧
    (sampleSupply supplyFail s).startup.restart = s.startup.restart := by
  unfold sampleSupply; split <;> simp

@[simp] theorem expireDue_frame (s : State) :
    (expireDue s).pending = s.pending ∧ (expireDue s).lines = s.lines ∧ (expireDue s).queue = s.queue ∧
    (expireDue s).tracker = s.tracker ∧ (expireDue s).override = s.override ∧ (expireDue s).issue = s.issue ∧
    (expireDue s).minibar = s.minibar ∧ (expireDue s).store = s.store ∧ (expireDue s).port = s.port ∧
    (expireDue s).loader = s.loader ∧ (expireDue s).pruner = s.pruner ∧ (expireDue s).journal = s.journal ∧
    (expireDue s).trunk = s.trunk ∧ (expireDue s).startup = s.startup ∧ (expireDue s).pins = s.pins ∧
    (expireDue s).time.tick = s.time.tick ∧ (expireDue s).time.clock = s.time.clock ∧
    (expireDue s).time.minuteEvents = s.time.minuteEvents := by
  unfold expireDue; split <;> simp

@[simp] theorem sampleFire_frame (fire : Bool) (s : State) :
    (sampleFire fire s).pending = s.pending ∧ (sampleFire fire s).time = s.time ∧
    (sampleFire fire s).lines = s.lines ∧ (sampleFire fire s).queue = s.queue ∧
    (sampleFire fire s).tracker = s.tracker ∧ (sampleFire fire s).issue = s.issue ∧
    (sampleFire fire s).minibar = s.minibar ∧ (sampleFire fire s).store = s.store ∧
    (sampleFire fire s).port = s.port ∧ (sampleFire fire s).loader = s.loader ∧
    (sampleFire fire s).pruner = s.pruner ∧ (sampleFire fire s).journal = s.journal ∧
    (sampleFire fire s).trunk = s.trunk ∧ (sampleFire fire s).startup = s.startup ∧
    (sampleFire fire s).pins = s.pins ∧ (sampleFire fire s).override.requested = s.override.requested ∧
    (sampleFire fire s).override.pinAsserted = s.override.pinAsserted ∧
    (sampleFire fire s).override.effective = s.override.effective := by
  unfold sampleFire; split <;> simp

@[simp] theorem rebuildDeny_frame (s : State) :
    (rebuildDeny s).pending = s.pending ∧ (rebuildDeny s).time = s.time ∧ (rebuildDeny s).lines = s.lines ∧
    (rebuildDeny s).queue = s.queue ∧ (rebuildDeny s).tracker = s.tracker ∧ (rebuildDeny s).override = s.override ∧
    (rebuildDeny s).issue = s.issue ∧ (rebuildDeny s).minibar = s.minibar ∧ (rebuildDeny s).port = s.port ∧
    (rebuildDeny s).loader = s.loader ∧ (rebuildDeny s).journal = s.journal ∧ (rebuildDeny s).trunk = s.trunk ∧
    (rebuildDeny s).startup = s.startup ∧ (rebuildDeny s).pins = s.pins ∧
    (rebuildDeny s).store.config = s.store.config ∧ (rebuildDeny s).store.doors = s.store.doors ∧
    (rebuildDeny s).store.rooms = s.store.rooms ∧ (rebuildDeny s).store.zones = s.store.zones ∧
    (rebuildDeny s).store.profiles = s.store.profiles ∧ (rebuildDeny s).store.classes = s.store.classes ∧
    (rebuildDeny s).store.prices = s.store.prices ∧ (rebuildDeny s).store.dyns = s.store.dyns ∧
    (rebuildDeny s).store.deny = s.store.deny := by
  unfold rebuildDeny; dsimp only; split <;> simp

@[simp] theorem recordRestart_frame (s : State) :
    (recordRestart s).pending = s.pending ∧ (recordRestart s).time = s.time ∧ (recordRestart s).lines = s.lines ∧
    (recordRestart s).queue = s.queue ∧ (recordRestart s).tracker = s.tracker ∧
    (recordRestart s).override = s.override ∧ (recordRestart s).issue = s.issue ∧
    (recordRestart s).minibar = s.minibar ∧ (recordRestart s).store = s.store ∧ (recordRestart s).port = s.port ∧
    (recordRestart s).loader = s.loader ∧ (recordRestart s).pruner = s.pruner ∧ (recordRestart s).trunk = s.trunk ∧
    (recordRestart s).startup = s.startup ∧ (recordRestart s).pins = s.pins ∧
    (recordRestart s).journal.push = s.journal.push ∧ (recordRestart s).journal.batch = s.journal.batch ∧
    (recordRestart s).journal.frozen = s.journal.frozen := by
  unfold recordRestart; split <;> simp

@[simp] theorem keepWork_frame (s : State) :
    (keepWork s).pending = s.pending ∧ (keepWork s).time = s.time ∧ (keepWork s).lines = s.lines ∧
    (keepWork s).queue = s.queue ∧ (keepWork s).tracker = s.tracker ∧ (keepWork s).override = s.override ∧
    (keepWork s).issue = s.issue ∧ (keepWork s).store = s.store ∧ (keepWork s).port = s.port ∧
    (keepWork s).loader = s.loader ∧ (keepWork s).pruner = s.pruner ∧ (keepWork s).journal = s.journal ∧
    (keepWork s).trunk = s.trunk ∧ (keepWork s).pins = s.pins ∧ (keepWork s).startup.phase = s.startup.phase ∧
    (keepWork s).startup.cause = s.startup.cause ∧ (keepWork s).startup.keep = s.startup.keep ∧
    (keepWork s).startup.stopWork = s.startup.stopWork ∧ (keepWork s).startup.stopStep = s.startup.stopStep ∧
    (keepWork s).startup.failTaken = s.startup.failTaken ∧ (keepWork s).startup.restart = s.startup.restart := by
  unfold keepWork; split <;> simp

@[simp] theorem setPhase_frame (s : State) (p : Phase) :
    (setPhase s p).pending = s.pending ∧ (setPhase s p).time = s.time ∧ (setPhase s p).lines = s.lines ∧
    (setPhase s p).queue = s.queue ∧ (setPhase s p).tracker = s.tracker ∧ (setPhase s p).override = s.override ∧
    (setPhase s p).issue = s.issue ∧ (setPhase s p).minibar = s.minibar ∧ (setPhase s p).store = s.store ∧
    (setPhase s p).port = s.port ∧ (setPhase s p).loader = s.loader ∧ (setPhase s p).pruner = s.pruner ∧
    (setPhase s p).journal = s.journal ∧ (setPhase s p).trunk = s.trunk ∧ (setPhase s p).pins = s.pins ∧
    (setPhase s p).startup.cause = s.startup.cause ∧ (setPhase s p).startup.keep = s.startup.keep ∧
    (setPhase s p).startup.marker = s.startup.marker ∧ (setPhase s p).startup.stopWork = s.startup.stopWork ∧
    (setPhase s p).startup.stopStep = s.startup.stopStep ∧ (setPhase s p).startup.failTaken = s.startup.failTaken ∧
    (setPhase s p).startup.restart = s.startup.restart := by
  simp [setPhase]

@[simp] theorem enterChecking_frame (s : State) :
    (enterChecking s).pending = s.pending ∧ (enterChecking s).queue = s.queue ∧
    (enterChecking s).tracker = s.tracker ∧ (enterChecking s).port = s.port ∧ (enterChecking s).loader = s.loader ∧
    (enterChecking s).pins = s.pins ∧ (enterChecking s).time.tick = s.time.tick ∧
    (enterChecking s).time.clock = s.time.clock ∧ (enterChecking s).time.expiring = s.time.expiring ∧
    (enterChecking s).time.minuteEvents = s.time.minuteEvents ∧
    (enterChecking s).override.requested = s.override.requested ∧
    (enterChecking s).override.pinAsserted = s.override.pinAsserted ∧
    (enterChecking s).store.config = s.store.config ∧ (enterChecking s).store.doors = s.store.doors ∧
    (enterChecking s).store.rooms = s.store.rooms ∧ (enterChecking s).store.zones = s.store.zones ∧
    (enterChecking s).store.profiles = s.store.profiles ∧ (enterChecking s).store.classes = s.store.classes ∧
    (enterChecking s).store.prices = s.store.prices ∧ (enterChecking s).store.dyns = s.store.dyns ∧
    (enterChecking s).store.deny = s.store.deny ∧ (enterChecking s).journal.push = s.journal.push ∧
    (enterChecking s).journal.batch = s.journal.batch ∧ (enterChecking s).journal.frozen = s.journal.frozen ∧
    (enterChecking s).trunk.chain = s.trunk.chain ∧ (enterChecking s).trunk.relayDown = s.trunk.relayDown ∧
    (enterChecking s).trunk.relayUp = s.trunk.relayUp ∧ (enterChecking s).trunk.requests = s.trunk.requests ∧
    (enterChecking s).trunk.inHand = s.trunk.inHand ∧ (enterChecking s).trunk.downAbsent = s.trunk.downAbsent ∧
    (enterChecking s).trunk.lastError = s.trunk.lastError ∧ (enterChecking s).trunk.upTx = s.trunk.upTx ∧
    (enterChecking s).trunk.downTx = s.trunk.downTx ∧ (enterChecking s).startup.cause = s.startup.cause ∧
    (enterChecking s).startup.keep = s.startup.keep ∧ (enterChecking s).startup.stopWork = s.startup.stopWork ∧
    (enterChecking s).startup.stopStep = s.startup.stopStep ∧
    (enterChecking s).startup.failTaken = s.startup.failTaken ∧
    (enterChecking s).startup.restart = s.startup.restart := by
  unfold enterChecking; dsimp only; split <;> simp

@[simp] theorem leaveResetting_frame (s : State) :
    (leaveResetting s).pending = s.pending ∧ (leaveResetting s).queue = s.queue ∧
    (leaveResetting s).tracker = s.tracker ∧ (leaveResetting s).port = s.port ∧
    (leaveResetting s).loader = s.loader ∧ (leaveResetting s).pins = s.pins ∧
    (leaveResetting s).time.tick = s.time.tick ∧ (leaveResetting s).time.clock = s.time.clock ∧
    (leaveResetting s).time.expiring = s.time.expiring ∧
    (leaveResetting s).time.minuteEvents = s.time.minuteEvents ∧
    (leaveResetting s).override.requested = s.override.requested ∧
    (leaveResetting s).override.pinAsserted = s.override.pinAsserted ∧
    (leaveResetting s).store.config = s.store.config ∧ (leaveResetting s).store.doors = s.store.doors ∧
    (leaveResetting s).store.rooms = s.store.rooms ∧ (leaveResetting s).store.zones = s.store.zones ∧
    (leaveResetting s).store.profiles = s.store.profiles ∧ (leaveResetting s).store.classes = s.store.classes ∧
    (leaveResetting s).store.prices = s.store.prices ∧ (leaveResetting s).store.dyns = s.store.dyns ∧
    (leaveResetting s).store.deny = s.store.deny ∧ (leaveResetting s).journal.push = s.journal.push ∧
    (leaveResetting s).journal.batch = s.journal.batch ∧ (leaveResetting s).journal.frozen = s.journal.frozen ∧
    (leaveResetting s).trunk.chain = s.trunk.chain ∧ (leaveResetting s).trunk.relayDown = s.trunk.relayDown ∧
    (leaveResetting s).trunk.relayUp = s.trunk.relayUp ∧ (leaveResetting s).trunk.requests = s.trunk.requests ∧
    (leaveResetting s).trunk.inHand = s.trunk.inHand ∧ (leaveResetting s).trunk.downAbsent = s.trunk.downAbsent ∧
    (leaveResetting s).trunk.lastError = s.trunk.lastError ∧ (leaveResetting s).trunk.upTx = s.trunk.upTx ∧
    (leaveResetting s).trunk.downTx = s.trunk.downTx ∧ (leaveResetting s).startup.cause = s.startup.cause ∧
    (leaveResetting s).startup.keep = s.startup.keep ∧ (leaveResetting s).startup.stopWork = s.startup.stopWork ∧
    (leaveResetting s).startup.stopStep = s.startup.stopStep ∧
    (leaveResetting s).startup.failTaken = s.startup.failTaken ∧
    (leaveResetting s).startup.restart = s.startup.restart := by
  unfold leaveResetting; split <;> simp

@[simp] theorem tickStep_frame (fire supplyFail : Bool) (s : State) :
    (tickStep fire supplyFail s).pending = s.pending ∧ (tickStep fire supplyFail s).queue = s.queue ∧
    (tickStep fire supplyFail s).tracker = s.tracker ∧ (tickStep fire supplyFail s).port = s.port ∧
    (tickStep fire supplyFail s).pins = s.pins ∧
    (tickStep fire supplyFail s).override.requested = s.override.requested ∧
    (tickStep fire supplyFail s).override.pinAsserted = s.override.pinAsserted ∧
    (tickStep fire supplyFail s).store.config = s.store.config ∧
    (tickStep fire supplyFail s).store.doors = s.store.doors ∧
    (tickStep fire supplyFail s).store.rooms = s.store.rooms ∧
    (tickStep fire supplyFail s).store.zones = s.store.zones ∧
    (tickStep fire supplyFail s).store.profiles = s.store.profiles ∧
    (tickStep fire supplyFail s).store.classes = s.store.classes ∧
    (tickStep fire supplyFail s).store.prices = s.store.prices ∧
    (tickStep fire supplyFail s).store.dyns = s.store.dyns ∧
    (tickStep fire supplyFail s).store.deny = s.store.deny ∧
    (tickStep fire supplyFail s).loader.buffer = s.loader.buffer ∧
    (tickStep fire supplyFail s).loader.window = s.loader.window ∧
    (tickStep fire supplyFail s).loader.cursor = s.loader.cursor ∧
    (tickStep fire supplyFail s).journal.push = s.journal.push ∧
    (tickStep fire supplyFail s).journal.batch = s.journal.batch ∧
    (tickStep fire supplyFail s).journal.frozen = s.journal.frozen ∧
    (tickStep fire supplyFail s).trunk.chain = s.trunk.chain ∧
    (tickStep fire supplyFail s).trunk.relayDown = s.trunk.relayDown ∧
    (tickStep fire supplyFail s).trunk.relayUp = s.trunk.relayUp ∧
    (tickStep fire supplyFail s).trunk.requests = s.trunk.requests ∧
    (tickStep fire supplyFail s).trunk.downAbsent = s.trunk.downAbsent ∧
    (tickStep fire supplyFail s).trunk.lastError = s.trunk.lastError ∧
    (tickStep fire supplyFail s).trunk.upTx = s.trunk.upTx ∧
    (tickStep fire supplyFail s).trunk.downTx = s.trunk.downTx ∧
    (tickStep fire supplyFail s).startup.cause = s.startup.cause ∧
    (tickStep fire supplyFail s).startup.keep = s.startup.keep ∧
    (tickStep fire supplyFail s).startup.stopWork = s.startup.stopWork ∧
    (tickStep fire supplyFail s).startup.stopStep = s.startup.stopStep ∧
    (tickStep fire supplyFail s).startup.restart = s.startup.restart := by
  simp [tickStep]

@[simp] theorem setClock_frame (s : State) (m : Minute) (second : Byte) :
    (setClock s m second).pending = s.pending ∧ (setClock s m second).lines = s.lines ∧
    (setClock s m second).queue = s.queue ∧ (setClock s m second).tracker = s.tracker ∧
    (setClock s m second).override = s.override ∧ (setClock s m second).issue = s.issue ∧
    (setClock s m second).minibar = s.minibar ∧ (setClock s m second).store = s.store ∧
    (setClock s m second).port = s.port ∧ (setClock s m second).loader = s.loader ∧
    (setClock s m second).pruner = s.pruner ∧ (setClock s m second).startup = s.startup ∧
    (setClock s m second).pins = s.pins ∧ (setClock s m second).time.tick = s.time.tick ∧
    (setClock s m second).time.deadlines = s.time.deadlines ∧
    (setClock s m second).time.expiring = s.time.expiring ∧
    (setClock s m second).time.minuteEvents = s.time.minuteEvents ∧
    (setClock s m second).journal.push = s.journal.push ∧ (setClock s m second).journal.batch = s.journal.batch ∧
    (setClock s m second).journal.frozen = s.journal.frozen ∧ (setClock s m second).trunk.chain = s.trunk.chain ∧
    (setClock s m second).trunk.relayDown = s.trunk.relayDown ∧
    (setClock s m second).trunk.relayUp = s.trunk.relayUp ∧
    (setClock s m second).trunk.requests = s.trunk.requests ∧
    (setClock s m second).trunk.notices = s.trunk.notices ∧
    (setClock s m second).trunk.downAbsent = s.trunk.downAbsent ∧
    (setClock s m second).trunk.lastError = s.trunk.lastError ∧ (setClock s m second).trunk.upTx = s.trunk.upTx ∧
    (setClock s m second).trunk.downTx = s.trunk.downTx := by
  simp [setClock]

@[simp] theorem relockExpired_frame (s : State) (n : Node) :
    (relockExpired s n).pending = s.pending ∧ (relockExpired s n).time = s.time ∧
    (relockExpired s n).lines = s.lines ∧ (relockExpired s n).queue = s.queue ∧
    (relockExpired s n).override = s.override ∧ (relockExpired s n).issue = s.issue ∧
    (relockExpired s n).minibar = s.minibar ∧ (relockExpired s n).store = s.store ∧
    (relockExpired s n).port = s.port ∧ (relockExpired s n).loader = s.loader ∧
    (relockExpired s n).pruner = s.pruner ∧ (relockExpired s n).journal = s.journal ∧
    (relockExpired s n).trunk = s.trunk ∧ (relockExpired s n).startup = s.startup ∧
    (relockExpired s n).pins = s.pins ∧ (relockExpired s n).tracker.writes = s.tracker.writes := by
  unfold relockExpired; split <;> simp

@[simp] theorem heldExpired_frame (s : State) (n : Node) :
    (heldExpired s n).pending = s.pending ∧ (heldExpired s n).time = s.time ∧ (heldExpired s n).lines = s.lines ∧
    (heldExpired s n).queue = s.queue ∧ (heldExpired s n).override = s.override ∧
    (heldExpired s n).issue = s.issue ∧ (heldExpired s n).minibar = s.minibar ∧ (heldExpired s n).store = s.store ∧
    (heldExpired s n).port = s.port ∧ (heldExpired s n).loader = s.loader ∧ (heldExpired s n).pruner = s.pruner ∧
    (heldExpired s n).startup = s.startup ∧ (heldExpired s n).pins = s.pins ∧
    (heldExpired s n).tracker.writes = s.tracker.writes ∧ (heldExpired s n).journal.push = s.journal.push ∧
    (heldExpired s n).journal.batch = s.journal.batch ∧ (heldExpired s n).journal.frozen = s.journal.frozen ∧
    (heldExpired s n).trunk.chain = s.trunk.chain ∧ (heldExpired s n).trunk.relayDown = s.trunk.relayDown ∧
    (heldExpired s n).trunk.relayUp = s.trunk.relayUp ∧ (heldExpired s n).trunk.requests = s.trunk.requests ∧
    (heldExpired s n).trunk.inHand = s.trunk.inHand ∧ (heldExpired s n).trunk.outQueue = s.trunk.outQueue ∧
    (heldExpired s n).trunk.reserved = s.trunk.reserved ∧ (heldExpired s n).trunk.downAbsent = s.trunk.downAbsent ∧
    (heldExpired s n).trunk.lastError = s.trunk.lastError ∧ (heldExpired s n).trunk.upTx = s.trunk.upTx ∧
    (heldExpired s n).trunk.downTx = s.trunk.downTx := by
  unfold heldExpired; split <;> simp

@[simp] theorem answerLevels_frame (s : State) :
    (answerLevels s).pending = s.pending ∧ (answerLevels s).time = s.time ∧ (answerLevels s).lines = s.lines ∧
    (answerLevels s).queue = s.queue ∧ (answerLevels s).tracker = s.tracker ∧
    (answerLevels s).override = s.override ∧ (answerLevels s).issue = s.issue ∧
    (answerLevels s).minibar = s.minibar ∧ (answerLevels s).store = s.store ∧ (answerLevels s).port = s.port ∧
    (answerLevels s).loader = s.loader ∧ (answerLevels s).pruner = s.pruner ∧ (answerLevels s).journal = s.journal ∧
    (answerLevels s).startup = s.startup ∧ (answerLevels s).pins = s.pins ∧
    (answerLevels s).trunk.chain = s.trunk.chain ∧ (answerLevels s).trunk.relayDown = s.trunk.relayDown ∧
    (answerLevels s).trunk.relayUp = s.trunk.relayUp ∧ (answerLevels s).trunk.requests = s.trunk.requests ∧
    (answerLevels s).trunk.notices = s.trunk.notices ∧ (answerLevels s).trunk.downAbsent = s.trunk.downAbsent ∧
    (answerLevels s).trunk.lastError = s.trunk.lastError ∧ (answerLevels s).trunk.upTx = s.trunk.upTx ∧
    (answerLevels s).trunk.downTx = s.trunk.downTx := by
  simp [answerLevels]

@[simp] theorem setOverride_frame (s : State) (b : Byte) :
    (setOverride s b).pending = s.pending ∧ (setOverride s b).queue = s.queue ∧
    (setOverride s b).tracker = s.tracker ∧ (setOverride s b).minibar = s.minibar ∧
    (setOverride s b).store = s.store ∧ (setOverride s b).port = s.port ∧ (setOverride s b).loader = s.loader ∧
    (setOverride s b).pruner = s.pruner ∧ (setOverride s b).startup = s.startup ∧ (setOverride s b).pins = s.pins ∧
    (setOverride s b).time.tick = s.time.tick ∧ (setOverride s b).time.clock = s.time.clock ∧
    (setOverride s b).time.expiring = s.time.expiring ∧ (setOverride s b).time.minuteEvents = s.time.minuteEvents ∧
    (setOverride s b).override.pinAsserted = s.override.pinAsserted ∧
    (setOverride s b).journal.push = s.journal.push ∧ (setOverride s b).journal.batch = s.journal.batch ∧
    (setOverride s b).journal.frozen = s.journal.frozen ∧ (setOverride s b).trunk.chain = s.trunk.chain ∧
    (setOverride s b).trunk.relayDown = s.trunk.relayDown ∧ (setOverride s b).trunk.relayUp = s.trunk.relayUp ∧
    (setOverride s b).trunk.requests = s.trunk.requests ∧ (setOverride s b).trunk.downAbsent = s.trunk.downAbsent ∧
    (setOverride s b).trunk.lastError = s.trunk.lastError ∧ (setOverride s b).trunk.upTx = s.trunk.upTx ∧
    (setOverride s b).trunk.downTx = s.trunk.downTx := by
  unfold setOverride; dsimp only; (repeat' split) <;> simp

@[simp] theorem setPush_frame (s : State) (b : Byte) :
    (setPush s b).pending = s.pending ∧ (setPush s b).time = s.time ∧ (setPush s b).lines = s.lines ∧
    (setPush s b).queue = s.queue ∧ (setPush s b).tracker = s.tracker ∧ (setPush s b).override = s.override ∧
    (setPush s b).issue = s.issue ∧ (setPush s b).minibar = s.minibar ∧ (setPush s b).store = s.store ∧
    (setPush s b).port = s.port ∧ (setPush s b).loader = s.loader ∧ (setPush s b).pruner = s.pruner ∧
    (setPush s b).startup = s.startup ∧ (setPush s b).pins = s.pins ∧
    (setPush s b).journal.records = s.journal.records ∧ (setPush s b).journal.batch = s.journal.batch ∧
    (setPush s b).journal.frozen = s.journal.frozen ∧ (setPush s b).trunk.chain = s.trunk.chain ∧
    (setPush s b).trunk.relayDown = s.trunk.relayDown ∧ (setPush s b).trunk.relayUp = s.trunk.relayUp ∧
    (setPush s b).trunk.requests = s.trunk.requests ∧ (setPush s b).trunk.notices = s.trunk.notices ∧
    (setPush s b).trunk.downAbsent = s.trunk.downAbsent ∧ (setPush s b).trunk.lastError = s.trunk.lastError ∧
    (setPush s b).trunk.upTx = s.trunk.upTx ∧ (setPush s b).trunk.downTx = s.trunk.downTx := by
  unfold setPush; split <;> simp

@[simp] theorem setExchange_frame (s : State) (l : LineNo) (e : Exchange) :
    (setExchange s l e).pending = s.pending ∧ (setExchange s l e).time = s.time ∧
    (setExchange s l e).queue = s.queue ∧ (setExchange s l e).tracker = s.tracker ∧
    (setExchange s l e).override = s.override ∧ (setExchange s l e).issue = s.issue ∧
    (setExchange s l e).minibar = s.minibar ∧ (setExchange s l e).store = s.store ∧
    (setExchange s l e).port = s.port ∧ (setExchange s l e).loader = s.loader ∧
    (setExchange s l e).pruner = s.pruner ∧ (setExchange s l e).journal = s.journal ∧
    (setExchange s l e).trunk = s.trunk ∧ (setExchange s l e).startup = s.startup ∧
    (setExchange s l e).pins = s.pins := by
  simp [setExchange]

@[simp] theorem setStuck_frame (s : State) (l : LineNo) (v : Bool) :
    (setStuck s l v).pending = s.pending ∧ (setStuck s l v).time = s.time ∧ (setStuck s l v).queue = s.queue ∧
    (setStuck s l v).tracker = s.tracker ∧ (setStuck s l v).override = s.override ∧
    (setStuck s l v).issue = s.issue ∧ (setStuck s l v).minibar = s.minibar ∧ (setStuck s l v).store = s.store ∧
    (setStuck s l v).port = s.port ∧ (setStuck s l v).loader = s.loader ∧ (setStuck s l v).pruner = s.pruner ∧
    (setStuck s l v).journal = s.journal ∧ (setStuck s l v).trunk = s.trunk ∧ (setStuck s l v).startup = s.startup ∧
    (setStuck s l v).pins = s.pins := by
  simp [setStuck]

@[simp] theorem enterHolding_frame (s : State) (l : LineNo) (fromTransparent : Bool) (tag : Byte) :
    (enterHolding s l fromTransparent tag).pending = s.pending ∧
    (enterHolding s l fromTransparent tag).override = s.override ∧
    (enterHolding s l fromTransparent tag).store = s.store ∧ (enterHolding s l fromTransparent tag).port = s.port ∧
    (enterHolding s l fromTransparent tag).loader = s.loader ∧
    (enterHolding s l fromTransparent tag).pruner = s.pruner ∧
    (enterHolding s l fromTransparent tag).startup = s.startup ∧
    (enterHolding s l fromTransparent tag).pins = s.pins ∧
    (enterHolding s l fromTransparent tag).time.tick = s.time.tick ∧
    (enterHolding s l fromTransparent tag).time.clock = s.time.clock ∧
    (enterHolding s l fromTransparent tag).time.expiring = s.time.expiring ∧
    (enterHolding s l fromTransparent tag).time.minuteEvents = s.time.minuteEvents ∧
    (enterHolding s l fromTransparent tag).tracker.writes = s.tracker.writes ∧
    (enterHolding s l fromTransparent tag).journal.push = s.journal.push ∧
    (enterHolding s l fromTransparent tag).journal.batch = s.journal.batch ∧
    (enterHolding s l fromTransparent tag).journal.frozen = s.journal.frozen ∧
    (enterHolding s l fromTransparent tag).trunk.chain = s.trunk.chain ∧
    (enterHolding s l fromTransparent tag).trunk.relayDown = s.trunk.relayDown ∧
    (enterHolding s l fromTransparent tag).trunk.relayUp = s.trunk.relayUp ∧
    (enterHolding s l fromTransparent tag).trunk.requests = s.trunk.requests ∧
    (enterHolding s l fromTransparent tag).trunk.downAbsent = s.trunk.downAbsent ∧
    (enterHolding s l fromTransparent tag).trunk.lastError = s.trunk.lastError ∧
    (enterHolding s l fromTransparent tag).trunk.upTx = s.trunk.upTx ∧
    (enterHolding s l fromTransparent tag).trunk.downTx = s.trunk.downTx := by
  unfold enterHolding; dsimp only; split <;> simp

@[simp] theorem modeAtOnce_frame (s : State) (l : LineNo) (m : LineMode) :
    (modeAtOnce s l m).pending = s.pending ∧ (modeAtOnce s l m).time = s.time ∧ (modeAtOnce s l m).queue = s.queue ∧
    (modeAtOnce s l m).tracker = s.tracker ∧ (modeAtOnce s l m).override = s.override ∧
    (modeAtOnce s l m).issue = s.issue ∧ (modeAtOnce s l m).minibar = s.minibar ∧
    (modeAtOnce s l m).store = s.store ∧ (modeAtOnce s l m).port = s.port ∧ (modeAtOnce s l m).loader = s.loader ∧
    (modeAtOnce s l m).pruner = s.pruner ∧ (modeAtOnce s l m).startup = s.startup ∧
    (modeAtOnce s l m).pins = s.pins ∧ (modeAtOnce s l m).journal.push = s.journal.push ∧
    (modeAtOnce s l m).journal.batch = s.journal.batch ∧ (modeAtOnce s l m).journal.frozen = s.journal.frozen ∧
    (modeAtOnce s l m).trunk.chain = s.trunk.chain ∧ (modeAtOnce s l m).trunk.relayDown = s.trunk.relayDown ∧
    (modeAtOnce s l m).trunk.relayUp = s.trunk.relayUp ∧ (modeAtOnce s l m).trunk.requests = s.trunk.requests ∧
    (modeAtOnce s l m).trunk.notices = s.trunk.notices ∧ (modeAtOnce s l m).trunk.downAbsent = s.trunk.downAbsent ∧
    (modeAtOnce s l m).trunk.lastError = s.trunk.lastError ∧ (modeAtOnce s l m).trunk.upTx = s.trunk.upTx ∧
    (modeAtOnce s l m).trunk.downTx = s.trunk.downTx := by
  simp [modeAtOnce]

@[simp] theorem takeFromDecide_frame (s : State) (l : LineNo) (tag : Byte) (x : RequestedMode) :
    (takeFromDecide s l tag x).pending = s.pending ∧ (takeFromDecide s l tag x).override = s.override ∧
    (takeFromDecide s l tag x).store = s.store ∧ (takeFromDecide s l tag x).port = s.port ∧
    (takeFromDecide s l tag x).loader = s.loader ∧ (takeFromDecide s l tag x).pruner = s.pruner ∧
    (takeFromDecide s l tag x).startup = s.startup ∧ (takeFromDecide s l tag x).pins = s.pins ∧
    (takeFromDecide s l tag x).time.tick = s.time.tick ∧ (takeFromDecide s l tag x).time.clock = s.time.clock ∧
    (takeFromDecide s l tag x).time.expiring = s.time.expiring ∧
    (takeFromDecide s l tag x).time.minuteEvents = s.time.minuteEvents ∧
    (takeFromDecide s l tag x).tracker.writes = s.tracker.writes ∧
    (takeFromDecide s l tag x).journal.push = s.journal.push ∧
    (takeFromDecide s l tag x).journal.batch = s.journal.batch ∧
    (takeFromDecide s l tag x).journal.frozen = s.journal.frozen ∧
    (takeFromDecide s l tag x).trunk.chain = s.trunk.chain ∧
    (takeFromDecide s l tag x).trunk.relayDown = s.trunk.relayDown ∧
    (takeFromDecide s l tag x).trunk.relayUp = s.trunk.relayUp ∧
    (takeFromDecide s l tag x).trunk.requests = s.trunk.requests ∧
    (takeFromDecide s l tag x).trunk.downAbsent = s.trunk.downAbsent ∧
    (takeFromDecide s l tag x).trunk.lastError = s.trunk.lastError ∧
    (takeFromDecide s l tag x).trunk.upTx = s.trunk.upTx ∧ (takeFromDecide s l tag x).trunk.downTx = s.trunk.downTx := by
  unfold takeFromDecide; split <;> simp

@[simp] theorem takeFromTransparent_frame (s : State) (l : LineNo) (tag : Byte) (x : RequestedMode) :
    (takeFromTransparent s l tag x).pending = s.pending ∧ (takeFromTransparent s l tag x).override = s.override ∧
    (takeFromTransparent s l tag x).store = s.store ∧ (takeFromTransparent s l tag x).port = s.port ∧
    (takeFromTransparent s l tag x).loader = s.loader ∧ (takeFromTransparent s l tag x).pruner = s.pruner ∧
    (takeFromTransparent s l tag x).startup = s.startup ∧ (takeFromTransparent s l tag x).pins = s.pins ∧
    (takeFromTransparent s l tag x).time.tick = s.time.tick ∧
    (takeFromTransparent s l tag x).time.clock = s.time.clock ∧
    (takeFromTransparent s l tag x).time.expiring = s.time.expiring ∧
    (takeFromTransparent s l tag x).time.minuteEvents = s.time.minuteEvents ∧
    (takeFromTransparent s l tag x).tracker.writes = s.tracker.writes ∧
    (takeFromTransparent s l tag x).journal.push = s.journal.push ∧
    (takeFromTransparent s l tag x).journal.batch = s.journal.batch ∧
    (takeFromTransparent s l tag x).journal.frozen = s.journal.frozen ∧
    (takeFromTransparent s l tag x).trunk.chain = s.trunk.chain ∧
    (takeFromTransparent s l tag x).trunk.relayDown = s.trunk.relayDown ∧
    (takeFromTransparent s l tag x).trunk.relayUp = s.trunk.relayUp ∧
    (takeFromTransparent s l tag x).trunk.requests = s.trunk.requests ∧
    (takeFromTransparent s l tag x).trunk.downAbsent = s.trunk.downAbsent ∧
    (takeFromTransparent s l tag x).trunk.lastError = s.trunk.lastError ∧
    (takeFromTransparent s l tag x).trunk.upTx = s.trunk.upTx ∧
    (takeFromTransparent s l tag x).trunk.downTx = s.trunk.downTx := by
  unfold takeFromTransparent; split <;> simp

@[simp] theorem takeFromHeld_frame (s : State) (l : LineNo) (x : RequestedMode) :
    (takeFromHeld s l x).pending = s.pending ∧ (takeFromHeld s l x).time = s.time ∧
    (takeFromHeld s l x).queue = s.queue ∧ (takeFromHeld s l x).tracker = s.tracker ∧
    (takeFromHeld s l x).override = s.override ∧ (takeFromHeld s l x).issue = s.issue ∧
    (takeFromHeld s l x).minibar = s.minibar ∧ (takeFromHeld s l x).store = s.store ∧
    (takeFromHeld s l x).port = s.port ∧ (takeFromHeld s l x).loader = s.loader ∧
    (takeFromHeld s l x).pruner = s.pruner ∧ (takeFromHeld s l x).startup = s.startup ∧
    (takeFromHeld s l x).pins = s.pins ∧ (takeFromHeld s l x).journal.push = s.journal.push ∧
    (takeFromHeld s l x).journal.batch = s.journal.batch ∧ (takeFromHeld s l x).journal.frozen = s.journal.frozen ∧
    (takeFromHeld s l x).trunk.chain = s.trunk.chain ∧ (takeFromHeld s l x).trunk.relayDown = s.trunk.relayDown ∧
    (takeFromHeld s l x).trunk.relayUp = s.trunk.relayUp ∧ (takeFromHeld s l x).trunk.requests = s.trunk.requests ∧
    (takeFromHeld s l x).trunk.notices = s.trunk.notices ∧
    (takeFromHeld s l x).trunk.downAbsent = s.trunk.downAbsent ∧
    (takeFromHeld s l x).trunk.lastError = s.trunk.lastError ∧ (takeFromHeld s l x).trunk.upTx = s.trunk.upTx ∧
    (takeFromHeld s l x).trunk.downTx = s.trunk.downTx := by
  unfold takeFromHeld; split <;> simp

@[simp] theorem takeMode_frame (s : State) (l : LineNo) (m : RequestedMode) (tag : Byte) :
    (takeMode s l m tag).pending = s.pending ∧ (takeMode s l m tag).override = s.override ∧
    (takeMode s l m tag).store = s.store ∧ (takeMode s l m tag).port = s.port ∧
    (takeMode s l m tag).loader = s.loader ∧ (takeMode s l m tag).pruner = s.pruner ∧
    (takeMode s l m tag).startup = s.startup ∧ (takeMode s l m tag).pins = s.pins ∧
    (takeMode s l m tag).time.tick = s.time.tick ∧ (takeMode s l m tag).time.clock = s.time.clock ∧
    (takeMode s l m tag).time.expiring = s.time.expiring ∧
    (takeMode s l m tag).time.minuteEvents = s.time.minuteEvents ∧
    (takeMode s l m tag).tracker.writes = s.tracker.writes ∧ (takeMode s l m tag).journal.push = s.journal.push ∧
    (takeMode s l m tag).journal.batch = s.journal.batch ∧ (takeMode s l m tag).journal.frozen = s.journal.frozen ∧
    (takeMode s l m tag).trunk.chain = s.trunk.chain ∧ (takeMode s l m tag).trunk.relayDown = s.trunk.relayDown ∧
    (takeMode s l m tag).trunk.relayUp = s.trunk.relayUp ∧ (takeMode s l m tag).trunk.requests = s.trunk.requests ∧
    (takeMode s l m tag).trunk.downAbsent = s.trunk.downAbsent ∧
    (takeMode s l m tag).trunk.lastError = s.trunk.lastError ∧ (takeMode s l m tag).trunk.upTx = s.trunk.upTx ∧
    (takeMode s l m tag).trunk.downTx = s.trunk.downTx := by
  unfold takeMode; split <;> simp

@[simp] theorem lineMode_frame (s : State) (line mode tag : Byte) :
    (lineMode s line mode tag).pending = s.pending ∧ (lineMode s line mode tag).override = s.override ∧
    (lineMode s line mode tag).store = s.store ∧ (lineMode s line mode tag).port = s.port ∧
    (lineMode s line mode tag).loader = s.loader ∧ (lineMode s line mode tag).pruner = s.pruner ∧
    (lineMode s line mode tag).startup = s.startup ∧ (lineMode s line mode tag).pins = s.pins ∧
    (lineMode s line mode tag).time.tick = s.time.tick ∧ (lineMode s line mode tag).time.clock = s.time.clock ∧
    (lineMode s line mode tag).time.expiring = s.time.expiring ∧
    (lineMode s line mode tag).time.minuteEvents = s.time.minuteEvents ∧
    (lineMode s line mode tag).tracker.writes = s.tracker.writes ∧
    (lineMode s line mode tag).journal.push = s.journal.push ∧
    (lineMode s line mode tag).journal.batch = s.journal.batch ∧
    (lineMode s line mode tag).journal.frozen = s.journal.frozen ∧
    (lineMode s line mode tag).trunk.chain = s.trunk.chain ∧
    (lineMode s line mode tag).trunk.relayDown = s.trunk.relayDown ∧
    (lineMode s line mode tag).trunk.relayUp = s.trunk.relayUp ∧
    (lineMode s line mode tag).trunk.requests = s.trunk.requests ∧
    (lineMode s line mode tag).trunk.downAbsent = s.trunk.downAbsent ∧
    (lineMode s line mode tag).trunk.lastError = s.trunk.lastError ∧
    (lineMode s line mode tag).trunk.upTx = s.trunk.upTx ∧ (lineMode s line mode tag).trunk.downTx = s.trunk.downTx := by
  unfold lineMode; (repeat' split) <;> simp

@[simp] theorem recordError_frame (s : State) (e : ReceiveError) :
    (recordError s e).pending = s.pending ∧ (recordError s e).time = s.time ∧ (recordError s e).lines = s.lines ∧
    (recordError s e).queue = s.queue ∧ (recordError s e).tracker = s.tracker ∧
    (recordError s e).override = s.override ∧ (recordError s e).issue = s.issue ∧
    (recordError s e).minibar = s.minibar ∧ (recordError s e).store = s.store ∧ (recordError s e).port = s.port ∧
    (recordError s e).loader = s.loader ∧ (recordError s e).pruner = s.pruner ∧
    (recordError s e).journal = s.journal ∧ (recordError s e).startup = s.startup ∧
    (recordError s e).pins = s.pins ∧ (recordError s e).trunk.chain = s.trunk.chain ∧
    (recordError s e).trunk.relayDown = s.trunk.relayDown ∧ (recordError s e).trunk.relayUp = s.trunk.relayUp ∧
    (recordError s e).trunk.requests = s.trunk.requests ∧ (recordError s e).trunk.inHand = s.trunk.inHand ∧
    (recordError s e).trunk.outQueue = s.trunk.outQueue ∧ (recordError s e).trunk.reserved = s.trunk.reserved ∧
    (recordError s e).trunk.notices = s.trunk.notices ∧ (recordError s e).trunk.downAbsent = s.trunk.downAbsent ∧
    (recordError s e).trunk.upTx = s.trunk.upTx ∧ (recordError s e).trunk.downTx = s.trunk.downTx := by
  simp [recordError]

@[simp] theorem routeDown_frame (s : State) (f : Frame) :
    (routeDown s f).pending = s.pending ∧ (routeDown s f).time = s.time ∧ (routeDown s f).lines = s.lines ∧
    (routeDown s f).queue = s.queue ∧ (routeDown s f).tracker = s.tracker ∧ (routeDown s f).override = s.override ∧
    (routeDown s f).issue = s.issue ∧ (routeDown s f).minibar = s.minibar ∧ (routeDown s f).store = s.store ∧
    (routeDown s f).port = s.port ∧ (routeDown s f).loader = s.loader ∧ (routeDown s f).pruner = s.pruner ∧
    (routeDown s f).journal = s.journal ∧ (routeDown s f).startup = s.startup ∧ (routeDown s f).pins = s.pins ∧
    (routeDown s f).trunk.chain = s.trunk.chain ∧ (routeDown s f).trunk.relayUp = s.trunk.relayUp ∧
    (routeDown s f).trunk.inHand = s.trunk.inHand ∧ (routeDown s f).trunk.outQueue = s.trunk.outQueue ∧
    (routeDown s f).trunk.reserved = s.trunk.reserved ∧ (routeDown s f).trunk.notices = s.trunk.notices ∧
    (routeDown s f).trunk.downAbsent = s.trunk.downAbsent ∧ (routeDown s f).trunk.lastError = s.trunk.lastError ∧
    (routeDown s f).trunk.upTx = s.trunk.upTx ∧ (routeDown s f).trunk.downTx = s.trunk.downTx := by
  unfold routeDown; split <;> simp

@[simp] theorem routeUp_frame (s : State) (f : Frame) :
    (routeUp s f).pending = s.pending ∧ (routeUp s f).time = s.time ∧ (routeUp s f).lines = s.lines ∧
    (routeUp s f).queue = s.queue ∧ (routeUp s f).tracker = s.tracker ∧ (routeUp s f).override = s.override ∧
    (routeUp s f).issue = s.issue ∧ (routeUp s f).minibar = s.minibar ∧ (routeUp s f).store = s.store ∧
    (routeUp s f).port = s.port ∧ (routeUp s f).loader = s.loader ∧ (routeUp s f).pruner = s.pruner ∧
    (routeUp s f).journal = s.journal ∧ (routeUp s f).startup = s.startup ∧ (routeUp s f).pins = s.pins ∧
    (routeUp s f).trunk.chain = s.trunk.chain ∧ (routeUp s f).trunk.relayDown = s.trunk.relayDown ∧
    (routeUp s f).trunk.requests = s.trunk.requests ∧ (routeUp s f).trunk.inHand = s.trunk.inHand ∧
    (routeUp s f).trunk.outQueue = s.trunk.outQueue ∧ (routeUp s f).trunk.reserved = s.trunk.reserved ∧
    (routeUp s f).trunk.notices = s.trunk.notices ∧ (routeUp s f).trunk.downAbsent = s.trunk.downAbsent ∧
    (routeUp s f).trunk.lastError = s.trunk.lastError ∧ (routeUp s f).trunk.upTx = s.trunk.upTx ∧
    (routeUp s f).trunk.downTx = s.trunk.downTx := by
  unfold routeUp; split <;> simp

@[simp] theorem handOn_frame (s : State) (r : Request) (tag : Byte) (unicast : Bool) :
    (handOn s r tag unicast).pending = s.pending ∧ (handOn s r tag unicast).time = s.time ∧
    (handOn s r tag unicast).lines = s.lines ∧ (handOn s r tag unicast).queue = s.queue ∧
    (handOn s r tag unicast).tracker = s.tracker ∧ (handOn s r tag unicast).override = s.override ∧
    (handOn s r tag unicast).minibar = s.minibar ∧ (handOn s r tag unicast).store = s.store ∧
    (handOn s r tag unicast).port = s.port ∧ (handOn s r tag unicast).loader = s.loader ∧
    (handOn s r tag unicast).pruner = s.pruner ∧ (handOn s r tag unicast).journal = s.journal ∧
    (handOn s r tag unicast).startup = s.startup ∧ (handOn s r tag unicast).pins = s.pins ∧
    (handOn s r tag unicast).issue.ctxs = s.issue.ctxs ∧ (handOn s r tag unicast).trunk.chain = s.trunk.chain ∧
    (handOn s r tag unicast).trunk.relayDown = s.trunk.relayDown ∧
    (handOn s r tag unicast).trunk.relayUp = s.trunk.relayUp ∧
    (handOn s r tag unicast).trunk.requests = s.trunk.requests ∧
    (handOn s r tag unicast).trunk.outQueue = s.trunk.outQueue ∧
    (handOn s r tag unicast).trunk.reserved = s.trunk.reserved ∧
    (handOn s r tag unicast).trunk.notices = s.trunk.notices ∧
    (handOn s r tag unicast).trunk.downAbsent = s.trunk.downAbsent ∧
    (handOn s r tag unicast).trunk.lastError = s.trunk.lastError ∧
    (handOn s r tag unicast).trunk.upTx = s.trunk.upTx ∧ (handOn s r tag unicast).trunk.downTx = s.trunk.downTx := by
  unfold handOn; split <;> simp

@[simp] theorem takeUnicast_frame (s : State) (f : Frame) :
    (takeUnicast s f).pending = s.pending ∧ (takeUnicast s f).time = s.time ∧ (takeUnicast s f).lines = s.lines ∧
    (takeUnicast s f).queue = s.queue ∧ (takeUnicast s f).tracker = s.tracker ∧
    (takeUnicast s f).override = s.override ∧ (takeUnicast s f).minibar = s.minibar ∧
    (takeUnicast s f).store = s.store ∧ (takeUnicast s f).port = s.port ∧ (takeUnicast s f).loader = s.loader ∧
    (takeUnicast s f).pruner = s.pruner ∧ (takeUnicast s f).journal = s.journal ∧
    (takeUnicast s f).startup = s.startup ∧ (takeUnicast s f).pins = s.pins ∧
    (takeUnicast s f).issue.ctxs = s.issue.ctxs ∧ (takeUnicast s f).trunk.chain = s.trunk.chain ∧
    (takeUnicast s f).trunk.relayDown = s.trunk.relayDown ∧ (takeUnicast s f).trunk.relayUp = s.trunk.relayUp ∧
    (takeUnicast s f).trunk.requests = s.trunk.requests ∧ (takeUnicast s f).trunk.notices = s.trunk.notices ∧
    (takeUnicast s f).trunk.downAbsent = s.trunk.downAbsent ∧
    (takeUnicast s f).trunk.lastError = s.trunk.lastError ∧ (takeUnicast s f).trunk.upTx = s.trunk.upTx ∧
    (takeUnicast s f).trunk.downTx = s.trunk.downTx := by
  unfold takeUnicast; (repeat' split) <;> simp

@[simp] theorem takeBroadcast_frame (s : State) (f : Frame) :
    (takeBroadcast s f).pending = s.pending ∧ (takeBroadcast s f).time = s.time ∧
    (takeBroadcast s f).lines = s.lines ∧ (takeBroadcast s f).queue = s.queue ∧
    (takeBroadcast s f).tracker = s.tracker ∧ (takeBroadcast s f).override = s.override ∧
    (takeBroadcast s f).minibar = s.minibar ∧ (takeBroadcast s f).store = s.store ∧
    (takeBroadcast s f).port = s.port ∧ (takeBroadcast s f).loader = s.loader ∧
    (takeBroadcast s f).pruner = s.pruner ∧ (takeBroadcast s f).journal = s.journal ∧
    (takeBroadcast s f).startup = s.startup ∧ (takeBroadcast s f).pins = s.pins ∧
    (takeBroadcast s f).issue.ctxs = s.issue.ctxs ∧ (takeBroadcast s f).trunk.chain = s.trunk.chain ∧
    (takeBroadcast s f).trunk.relayDown = s.trunk.relayDown ∧ (takeBroadcast s f).trunk.relayUp = s.trunk.relayUp ∧
    (takeBroadcast s f).trunk.requests = s.trunk.requests ∧ (takeBroadcast s f).trunk.outQueue = s.trunk.outQueue ∧
    (takeBroadcast s f).trunk.reserved = s.trunk.reserved ∧ (takeBroadcast s f).trunk.notices = s.trunk.notices ∧
    (takeBroadcast s f).trunk.downAbsent = s.trunk.downAbsent ∧
    (takeBroadcast s f).trunk.lastError = s.trunk.lastError ∧ (takeBroadcast s f).trunk.upTx = s.trunk.upTx ∧
    (takeBroadcast s f).trunk.downTx = s.trunk.downTx := by
  unfold takeBroadcast; (repeat' split) <;> simp

@[simp] theorem takePassDown_frame (s : State) (f : Frame) :
    (takePassDown s f).pending = s.pending ∧ (takePassDown s f).time = s.time ∧ (takePassDown s f).lines = s.lines ∧
    (takePassDown s f).queue = s.queue ∧ (takePassDown s f).tracker = s.tracker ∧
    (takePassDown s f).override = s.override ∧ (takePassDown s f).minibar = s.minibar ∧
    (takePassDown s f).store = s.store ∧ (takePassDown s f).port = s.port ∧ (takePassDown s f).loader = s.loader ∧
    (takePassDown s f).pruner = s.pruner ∧ (takePassDown s f).journal = s.journal ∧
    (takePassDown s f).startup = s.startup ∧ (takePassDown s f).pins = s.pins ∧
    (takePassDown s f).issue.ctxs = s.issue.ctxs ∧ (takePassDown s f).trunk.chain = s.trunk.chain ∧
    (takePassDown s f).trunk.relayDown = s.trunk.relayDown ∧ (takePassDown s f).trunk.relayUp = s.trunk.relayUp ∧
    (takePassDown s f).trunk.requests = s.trunk.requests ∧ (takePassDown s f).trunk.outQueue = s.trunk.outQueue ∧
    (takePassDown s f).trunk.reserved = s.trunk.reserved ∧ (takePassDown s f).trunk.notices = s.trunk.notices ∧
    (takePassDown s f).trunk.downAbsent = s.trunk.downAbsent ∧
    (takePassDown s f).trunk.lastError = s.trunk.lastError ∧ (takePassDown s f).trunk.upTx = s.trunk.upTx ∧
    (takePassDown s f).trunk.downTx = s.trunk.downTx := by
  unfold takePassDown; split <;> simp

@[simp] theorem takeFrame_frame (s : State) (f : Frame) :
    (takeFrame s f).pending = s.pending ∧ (takeFrame s f).time = s.time ∧ (takeFrame s f).lines = s.lines ∧
    (takeFrame s f).queue = s.queue ∧ (takeFrame s f).tracker = s.tracker ∧ (takeFrame s f).override = s.override ∧
    (takeFrame s f).minibar = s.minibar ∧ (takeFrame s f).store = s.store ∧ (takeFrame s f).port = s.port ∧
    (takeFrame s f).loader = s.loader ∧ (takeFrame s f).pruner = s.pruner ∧ (takeFrame s f).journal = s.journal ∧
    (takeFrame s f).startup = s.startup ∧ (takeFrame s f).pins = s.pins ∧
    (takeFrame s f).issue.ctxs = s.issue.ctxs ∧ (takeFrame s f).trunk.chain = s.trunk.chain ∧
    (takeFrame s f).trunk.relayDown = s.trunk.relayDown ∧ (takeFrame s f).trunk.relayUp = s.trunk.relayUp ∧
    (takeFrame s f).trunk.requests = s.trunk.requests ∧ (takeFrame s f).trunk.notices = s.trunk.notices ∧
    (takeFrame s f).trunk.downAbsent = s.trunk.downAbsent ∧ (takeFrame s f).trunk.lastError = s.trunk.lastError ∧
    (takeFrame s f).trunk.upTx = s.trunk.upTx ∧ (takeFrame s f).trunk.downTx = s.trunk.downTx := by
  unfold takeFrame; (repeat' split) <;> simp

@[simp] theorem passDown_frame (s : State) (line addr : Byte) (chars : List Byte) :
    (passDown s line addr chars).pending = s.pending ∧ (passDown s line addr chars).queue = s.queue ∧
    (passDown s line addr chars).tracker = s.tracker ∧ (passDown s line addr chars).override = s.override ∧
    (passDown s line addr chars).minibar = s.minibar ∧ (passDown s line addr chars).store = s.store ∧
    (passDown s line addr chars).port = s.port ∧ (passDown s line addr chars).loader = s.loader ∧
    (passDown s line addr chars).pruner = s.pruner ∧ (passDown s line addr chars).startup = s.startup ∧
    (passDown s line addr chars).pins = s.pins ∧ (passDown s line addr chars).time.tick = s.time.tick ∧
    (passDown s line addr chars).time.clock = s.time.clock ∧
    (passDown s line addr chars).time.expiring = s.time.expiring ∧
    (passDown s line addr chars).time.minuteEvents = s.time.minuteEvents ∧
    (passDown s line addr chars).journal.push = s.journal.push ∧
    (passDown s line addr chars).journal.batch = s.journal.batch ∧
    (passDown s line addr chars).journal.frozen = s.journal.frozen ∧
    (passDown s line addr chars).trunk.chain = s.trunk.chain ∧
    (passDown s line addr chars).trunk.relayDown = s.trunk.relayDown ∧
    (passDown s line addr chars).trunk.relayUp = s.trunk.relayUp ∧
    (passDown s line addr chars).trunk.requests = s.trunk.requests ∧
    (passDown s line addr chars).trunk.inHand = s.trunk.inHand ∧
    (passDown s line addr chars).trunk.outQueue = s.trunk.outQueue ∧
    (passDown s line addr chars).trunk.reserved = s.trunk.reserved ∧
    (passDown s line addr chars).trunk.downAbsent = s.trunk.downAbsent ∧
    (passDown s line addr chars).trunk.lastError = s.trunk.lastError ∧
    (passDown s line addr chars).trunk.upTx = s.trunk.upTx ∧
    (passDown s line addr chars).trunk.downTx = s.trunk.downTx := by
  unfold passDown; (repeat' split) <;> simp

@[simp] theorem beginUp_frame (s : State) (x : UpSource × List Byte) :
    (beginUp s x).pending = s.pending ∧ (beginUp s x).time = s.time ∧ (beginUp s x).lines = s.lines ∧
    (beginUp s x).queue = s.queue ∧ (beginUp s x).tracker = s.tracker ∧ (beginUp s x).override = s.override ∧
    (beginUp s x).issue = s.issue ∧ (beginUp s x).minibar = s.minibar ∧ (beginUp s x).store = s.store ∧
    (beginUp s x).port = s.port ∧ (beginUp s x).loader = s.loader ∧ (beginUp s x).pruner = s.pruner ∧
    (beginUp s x).startup = s.startup ∧ (beginUp s x).journal.records = s.journal.records ∧
    (beginUp s x).journal.push = s.journal.push ∧ (beginUp s x).journal.frozen = s.journal.frozen ∧
    (beginUp s x).trunk.chain = s.trunk.chain ∧ (beginUp s x).trunk.relayDown = s.trunk.relayDown ∧
    (beginUp s x).trunk.relayUp = s.trunk.relayUp ∧ (beginUp s x).trunk.requests = s.trunk.requests ∧
    (beginUp s x).trunk.inHand = s.trunk.inHand ∧ (beginUp s x).trunk.outQueue = s.trunk.outQueue ∧
    (beginUp s x).trunk.reserved = s.trunk.reserved ∧ (beginUp s x).trunk.notices = s.trunk.notices ∧
    (beginUp s x).trunk.downAbsent = s.trunk.downAbsent ∧ (beginUp s x).trunk.lastError = s.trunk.lastError ∧
    (beginUp s x).trunk.downTx = s.trunk.downTx ∧ (beginUp s x).pins.vdd = s.pins.vdd ∧
    (beginUp s x).pins.vbakLost = s.pins.vbakLost ∧ (beginUp s x).pins.straps = s.pins.straps := by
  unfold beginUp; split <;> simp

@[simp] theorem leaveSource_frame (s : State) (src : UpSource) :
    (leaveSource s src).pending = s.pending ∧ (leaveSource s src).time = s.time ∧
    (leaveSource s src).lines = s.lines ∧ (leaveSource s src).queue = s.queue ∧
    (leaveSource s src).tracker = s.tracker ∧ (leaveSource s src).override = s.override ∧
    (leaveSource s src).issue = s.issue ∧ (leaveSource s src).minibar = s.minibar ∧
    (leaveSource s src).store = s.store ∧ (leaveSource s src).port = s.port ∧
    (leaveSource s src).loader = s.loader ∧ (leaveSource s src).pruner = s.pruner ∧
    (leaveSource s src).startup = s.startup ∧ (leaveSource s src).pins = s.pins ∧
    (leaveSource s src).journal.push = s.journal.push ∧ (leaveSource s src).journal.frozen = s.journal.frozen ∧
    (leaveSource s src).trunk.chain = s.trunk.chain ∧ (leaveSource s src).trunk.relayDown = s.trunk.relayDown ∧
    (leaveSource s src).trunk.requests = s.trunk.requests ∧ (leaveSource s src).trunk.inHand = s.trunk.inHand ∧
    (leaveSource s src).trunk.reserved = s.trunk.reserved ∧
    (leaveSource s src).trunk.downAbsent = s.trunk.downAbsent ∧
    (leaveSource s src).trunk.lastError = s.trunk.lastError ∧ (leaveSource s src).trunk.upTx = s.trunk.upTx ∧
    (leaveSource s src).trunk.downTx = s.trunk.downTx := by
  unfold leaveSource; split <;> simp

@[simp] theorem enterPhase_frame (s : State) (p : Phase) :
    (enterPhase s p).pending = s.pending ∧ (enterPhase s p).time = s.time ∧ (enterPhase s p).lines = s.lines ∧
    (enterPhase s p).queue = s.queue ∧ (enterPhase s p).tracker = s.tracker ∧
    (enterPhase s p).override = s.override ∧ (enterPhase s p).issue = s.issue ∧
    (enterPhase s p).minibar = s.minibar ∧ (enterPhase s p).store = s.store ∧ (enterPhase s p).port = s.port ∧
    (enterPhase s p).loader = s.loader ∧ (enterPhase s p).pruner = s.pruner ∧ (enterPhase s p).journal = s.journal ∧
    (enterPhase s p).pins = s.pins ∧ (enterPhase s p).trunk.chain = s.trunk.chain ∧
    (enterPhase s p).trunk.relayDown = s.trunk.relayDown ∧ (enterPhase s p).trunk.relayUp = s.trunk.relayUp ∧
    (enterPhase s p).trunk.requests = s.trunk.requests ∧ (enterPhase s p).trunk.inHand = s.trunk.inHand ∧
    (enterPhase s p).trunk.outQueue = s.trunk.outQueue ∧ (enterPhase s p).trunk.reserved = s.trunk.reserved ∧
    (enterPhase s p).trunk.downAbsent = s.trunk.downAbsent ∧ (enterPhase s p).trunk.lastError = s.trunk.lastError ∧
    (enterPhase s p).trunk.upTx = s.trunk.upTx ∧ (enterPhase s p).trunk.downTx = s.trunk.downTx ∧
    (enterPhase s p).startup.cause = s.startup.cause ∧ (enterPhase s p).startup.keep = s.startup.keep ∧
    (enterPhase s p).startup.marker = s.startup.marker ∧ (enterPhase s p).startup.stopWork = s.startup.stopWork ∧
    (enterPhase s p).startup.stopStep = s.startup.stopStep ∧
    (enterPhase s p).startup.failTaken = s.startup.failTaken ∧ (enterPhase s p).startup.restart = s.startup.restart := by
  simp [enterPhase]

@[simp] theorem clearNode_frame (s : State) (n : Node) :
    (clearNode s n).pending = s.pending ∧ (clearNode s n).queue = s.queue ∧ (clearNode s n).override = s.override ∧
    (clearNode s n).issue = s.issue ∧ (clearNode s n).minibar = s.minibar ∧ (clearNode s n).store = s.store ∧
    (clearNode s n).port = s.port ∧ (clearNode s n).loader = s.loader ∧ (clearNode s n).pruner = s.pruner ∧
    (clearNode s n).journal = s.journal ∧ (clearNode s n).trunk = s.trunk ∧ (clearNode s n).startup = s.startup ∧
    (clearNode s n).pins = s.pins ∧ (clearNode s n).time.tick = s.time.tick ∧
    (clearNode s n).time.clock = s.time.clock ∧ (clearNode s n).time.expiring = s.time.expiring ∧
    (clearNode s n).time.minuteEvents = s.time.minuteEvents ∧ (clearNode s n).tracker.writes = s.tracker.writes := by
  unfold clearNode; split <;> simp

@[simp] theorem foldl_clearNode_frame (l : List Node) (s : State) :
    (l.foldl clearNode s).pending = s.pending ∧ (l.foldl clearNode s).queue = s.queue ∧
    (l.foldl clearNode s).override = s.override ∧ (l.foldl clearNode s).issue = s.issue ∧
    (l.foldl clearNode s).minibar = s.minibar ∧ (l.foldl clearNode s).store = s.store ∧
    (l.foldl clearNode s).port = s.port ∧ (l.foldl clearNode s).loader = s.loader ∧
    (l.foldl clearNode s).pruner = s.pruner ∧ (l.foldl clearNode s).journal = s.journal ∧
    (l.foldl clearNode s).trunk = s.trunk ∧ (l.foldl clearNode s).startup = s.startup ∧
    (l.foldl clearNode s).pins = s.pins ∧ (l.foldl clearNode s).time.tick = s.time.tick ∧
    (l.foldl clearNode s).time.clock = s.time.clock ∧ (l.foldl clearNode s).time.expiring = s.time.expiring ∧
    (l.foldl clearNode s).time.minuteEvents = s.time.minuteEvents ∧
    (l.foldl clearNode s).tracker.writes = s.tracker.writes := ⟨foldl_keeps (fun s => s.pending) _ (by simp) _ _,
    foldl_keeps (fun s => s.queue) _ (by simp) _ _,
    foldl_keeps (fun s => s.override) _ (by simp) _ _,
    foldl_keeps (fun s => s.issue) _ (by simp) _ _,
    foldl_keeps (fun s => s.minibar) _ (by simp) _ _,
    foldl_keeps (fun s => s.store) _ (by simp) _ _,
    foldl_keeps (fun s => s.port) _ (by simp) _ _,
    foldl_keeps (fun s => s.loader) _ (by simp) _ _,
    foldl_keeps (fun s => s.pruner) _ (by simp) _ _,
    foldl_keeps (fun s => s.journal) _ (by simp) _ _,
    foldl_keeps (fun s => s.trunk) _ (by simp) _ _,
    foldl_keeps (fun s => s.startup) _ (by simp) _ _,
    foldl_keeps (fun s => s.pins) _ (by simp) _ _,
    foldl_keeps (fun s => s.time.tick) _ (by simp) _ _,
    foldl_keeps (fun s => s.time.clock) _ (by simp) _ _,
    foldl_keeps (fun s => s.time.expiring) _ (by simp) _ _,
    foldl_keeps (fun s => s.time.minuteEvents) _ (by simp) _ _,
    foldl_keeps (fun s => s.tracker.writes) _ (by simp) _ _⟩

@[simp] theorem clearStore_frame (s : State) :
    (clearStore s).pending = s.pending ∧ (clearStore s).queue = s.queue ∧ (clearStore s).override = s.override ∧
    (clearStore s).issue = s.issue ∧ (clearStore s).minibar = s.minibar ∧ (clearStore s).port = s.port ∧
    (clearStore s).loader = s.loader ∧ (clearStore s).pruner = s.pruner ∧ (clearStore s).startup = s.startup ∧
    (clearStore s).pins = s.pins ∧ (clearStore s).time.tick = s.time.tick ∧
    (clearStore s).time.clock = s.time.clock ∧ (clearStore s).time.expiring = s.time.expiring ∧
    (clearStore s).time.minuteEvents = s.time.minuteEvents ∧ (clearStore s).tracker.writes = s.tracker.writes ∧
    (clearStore s).journal.push = s.journal.push ∧ (clearStore s).journal.frozen = s.journal.frozen ∧
    (clearStore s).trunk.chain = s.trunk.chain ∧ (clearStore s).trunk.relayDown = s.trunk.relayDown ∧
    (clearStore s).trunk.relayUp = s.trunk.relayUp ∧ (clearStore s).trunk.requests = s.trunk.requests ∧
    (clearStore s).trunk.inHand = s.trunk.inHand ∧ (clearStore s).trunk.outQueue = s.trunk.outQueue ∧
    (clearStore s).trunk.reserved = s.trunk.reserved ∧ (clearStore s).trunk.notices = s.trunk.notices ∧
    (clearStore s).trunk.downAbsent = s.trunk.downAbsent ∧ (clearStore s).trunk.lastError = s.trunk.lastError ∧
    (clearStore s).trunk.downTx = s.trunk.downTx := by
  unfold clearStore; dsimp only; split <;> simp

@[simp] theorem endChecking_frame (s : State) :
    (endChecking s).pending = s.pending ∧ (endChecking s).queue = s.queue ∧ (endChecking s).override = s.override ∧
    (endChecking s).issue = s.issue ∧ (endChecking s).minibar = s.minibar ∧ (endChecking s).port = s.port ∧
    (endChecking s).loader = s.loader ∧ (endChecking s).pruner = s.pruner ∧ (endChecking s).pins = s.pins ∧
    (endChecking s).time.tick = s.time.tick ∧ (endChecking s).time.clock = s.time.clock ∧
    (endChecking s).time.expiring = s.time.expiring ∧ (endChecking s).time.minuteEvents = s.time.minuteEvents ∧
    (endChecking s).tracker.writes = s.tracker.writes ∧ (endChecking s).journal.push = s.journal.push ∧
    (endChecking s).journal.frozen = s.journal.frozen ∧ (endChecking s).trunk.chain = s.trunk.chain ∧
    (endChecking s).trunk.relayDown = s.trunk.relayDown ∧ (endChecking s).trunk.relayUp = s.trunk.relayUp ∧
    (endChecking s).trunk.requests = s.trunk.requests ∧ (endChecking s).trunk.inHand = s.trunk.inHand ∧
    (endChecking s).trunk.outQueue = s.trunk.outQueue ∧ (endChecking s).trunk.reserved = s.trunk.reserved ∧
    (endChecking s).trunk.downAbsent = s.trunk.downAbsent ∧ (endChecking s).trunk.lastError = s.trunk.lastError ∧
    (endChecking s).trunk.downTx = s.trunk.downTx ∧ (endChecking s).startup.cause = s.startup.cause ∧
    (endChecking s).startup.keep = s.startup.keep ∧ (endChecking s).startup.marker = s.startup.marker ∧
    (endChecking s).startup.stopWork = s.startup.stopWork ∧ (endChecking s).startup.stopStep = s.startup.stopStep ∧
    (endChecking s).startup.failTaken = s.startup.failTaken ∧ (endChecking s).startup.restart = s.startup.restart := by
  unfold endChecking; (repeat' split) <;> simp

@[simp] theorem go_frame (s : State) :
    (go s).pending = s.pending ∧ (go s).time = s.time ∧ (go s).lines = s.lines ∧ (go s).queue = s.queue ∧
    (go s).tracker = s.tracker ∧ (go s).override = s.override ∧ (go s).issue = s.issue ∧
    (go s).minibar = s.minibar ∧ (go s).store = s.store ∧ (go s).port = s.port ∧ (go s).loader = s.loader ∧
    (go s).pruner = s.pruner ∧ (go s).journal = s.journal ∧ (go s).pins = s.pins ∧
    (go s).trunk.chain = s.trunk.chain ∧ (go s).trunk.relayDown = s.trunk.relayDown ∧
    (go s).trunk.relayUp = s.trunk.relayUp ∧ (go s).trunk.requests = s.trunk.requests ∧
    (go s).trunk.downAbsent = s.trunk.downAbsent ∧ (go s).trunk.lastError = s.trunk.lastError ∧
    (go s).trunk.upTx = s.trunk.upTx ∧ (go s).trunk.downTx = s.trunk.downTx ∧
    (go s).startup.cause = s.startup.cause ∧ (go s).startup.keep = s.startup.keep ∧
    (go s).startup.marker = s.startup.marker ∧ (go s).startup.stopWork = s.startup.stopWork ∧
    (go s).startup.stopStep = s.startup.stopStep ∧ (go s).startup.failTaken = s.startup.failTaken ∧
    (go s).startup.restart = s.startup.restart := by
  unfold go; split <;> simp

@[simp] theorem restart_frame (s : State) (mode : Byte) :
    (restart s mode).pending = s.pending ∧ (restart s mode).time = s.time ∧ (restart s mode).lines = s.lines ∧
    (restart s mode).queue = s.queue ∧ (restart s mode).tracker = s.tracker ∧
    (restart s mode).override = s.override ∧ (restart s mode).issue = s.issue ∧
    (restart s mode).minibar = s.minibar ∧ (restart s mode).store = s.store ∧ (restart s mode).port = s.port ∧
    (restart s mode).loader = s.loader ∧ (restart s mode).pruner = s.pruner ∧ (restart s mode).journal = s.journal ∧
    (restart s mode).pins = s.pins ∧ (restart s mode).trunk.chain = s.trunk.chain ∧
    (restart s mode).trunk.relayDown = s.trunk.relayDown ∧ (restart s mode).trunk.relayUp = s.trunk.relayUp ∧
    (restart s mode).trunk.requests = s.trunk.requests ∧ (restart s mode).trunk.notices = s.trunk.notices ∧
    (restart s mode).trunk.downAbsent = s.trunk.downAbsent ∧ (restart s mode).trunk.lastError = s.trunk.lastError ∧
    (restart s mode).trunk.upTx = s.trunk.upTx ∧ (restart s mode).trunk.downTx = s.trunk.downTx ∧
    (restart s mode).startup.phase = s.startup.phase ∧ (restart s mode).startup.cause = s.startup.cause ∧
    (restart s mode).startup.keep = s.startup.keep ∧ (restart s mode).startup.marker = s.startup.marker ∧
    (restart s mode).startup.stopWork = s.startup.stopWork ∧
    (restart s mode).startup.stopStep = s.startup.stopStep ∧
    (restart s mode).startup.failTaken = s.startup.failTaken := by
  unfold restart; split <;> simp

@[simp] theorem atStep_frame (s : State) (p : StopStep) :
    (atStep s p).pending = s.pending ∧ (atStep s p).time = s.time ∧ (atStep s p).lines = s.lines ∧
    (atStep s p).queue = s.queue ∧ (atStep s p).tracker = s.tracker ∧ (atStep s p).override = s.override ∧
    (atStep s p).issue = s.issue ∧ (atStep s p).minibar = s.minibar ∧ (atStep s p).store = s.store ∧
    (atStep s p).port = s.port ∧ (atStep s p).loader = s.loader ∧ (atStep s p).pruner = s.pruner ∧
    (atStep s p).journal = s.journal ∧ (atStep s p).trunk = s.trunk ∧ (atStep s p).pins = s.pins ∧
    (atStep s p).startup.phase = s.startup.phase ∧ (atStep s p).startup.cause = s.startup.cause ∧
    (atStep s p).startup.keep = s.startup.keep ∧ (atStep s p).startup.marker = s.startup.marker ∧
    (atStep s p).startup.stopWork = s.startup.stopWork ∧ (atStep s p).startup.failTaken = s.startup.failTaken ∧
    (atStep s p).startup.restart = s.startup.restart := by
  simp [atStep]

@[simp] theorem stopSession_frame (r : FailReason) (s : State) (k : Fin 2) :
    (stopSession r s k).pending = s.pending ∧ (stopSession r s k).time = s.time ∧
    (stopSession r s k).lines = s.lines ∧ (stopSession r s k).queue = s.queue ∧
    (stopSession r s k).tracker = s.tracker ∧ (stopSession r s k).override = s.override ∧
    (stopSession r s k).minibar = s.minibar ∧ (stopSession r s k).port = s.port ∧
    (stopSession r s k).loader = s.loader ∧ (stopSession r s k).pruner = s.pruner ∧
    (stopSession r s k).startup = s.startup ∧ (stopSession r s k).pins = s.pins ∧
    (stopSession r s k).issue.work = s.issue.work ∧ (stopSession r s k).store.config = s.store.config ∧
    (stopSession r s k).store.doors = s.store.doors ∧ (stopSession r s k).store.rooms = s.store.rooms ∧
    (stopSession r s k).store.zones = s.store.zones ∧ (stopSession r s k).store.profiles = s.store.profiles ∧
    (stopSession r s k).store.classes = s.store.classes ∧ (stopSession r s k).store.prices = s.store.prices ∧
    (stopSession r s k).journal.push = s.journal.push ∧ (stopSession r s k).journal.batch = s.journal.batch ∧
    (stopSession r s k).journal.frozen = s.journal.frozen ∧ (stopSession r s k).trunk.chain = s.trunk.chain ∧
    (stopSession r s k).trunk.relayDown = s.trunk.relayDown ∧ (stopSession r s k).trunk.relayUp = s.trunk.relayUp ∧
    (stopSession r s k).trunk.requests = s.trunk.requests ∧ (stopSession r s k).trunk.inHand = s.trunk.inHand ∧
    (stopSession r s k).trunk.outQueue = s.trunk.outQueue ∧ (stopSession r s k).trunk.reserved = s.trunk.reserved ∧
    (stopSession r s k).trunk.downAbsent = s.trunk.downAbsent ∧
    (stopSession r s k).trunk.lastError = s.trunk.lastError ∧ (stopSession r s k).trunk.upTx = s.trunk.upTx ∧
    (stopSession r s k).trunk.downTx = s.trunk.downTx := by
  unfold stopSession; dsimp only; split <;> simp

@[simp] theorem writeMarker_frame (s : State) :
    (writeMarker s).pending = s.pending ∧ (writeMarker s).time = s.time ∧ (writeMarker s).lines = s.lines ∧
    (writeMarker s).queue = s.queue ∧ (writeMarker s).tracker = s.tracker ∧ (writeMarker s).override = s.override ∧
    (writeMarker s).issue = s.issue ∧ (writeMarker s).minibar = s.minibar ∧ (writeMarker s).store = s.store ∧
    (writeMarker s).port = s.port ∧ (writeMarker s).loader = s.loader ∧ (writeMarker s).pruner = s.pruner ∧
    (writeMarker s).journal = s.journal ∧ (writeMarker s).trunk = s.trunk ∧ (writeMarker s).pins = s.pins ∧
    (writeMarker s).startup.phase = s.startup.phase ∧ (writeMarker s).startup.cause = s.startup.cause ∧
    (writeMarker s).startup.keep = s.startup.keep ∧ (writeMarker s).startup.stopWork = s.startup.stopWork ∧
    (writeMarker s).startup.stopStep = s.startup.stopStep ∧
    (writeMarker s).startup.failTaken = s.startup.failTaken ∧ (writeMarker s).startup.restart = s.startup.restart := by
  simp [writeMarker]

@[simp] theorem beginFail_frame (s : State) :
    (beginFail s).pending = s.pending ∧ (beginFail s).time = s.time ∧ (beginFail s).lines = s.lines ∧
    (beginFail s).queue = s.queue ∧ (beginFail s).tracker = s.tracker ∧ (beginFail s).override = s.override ∧
    (beginFail s).issue = s.issue ∧ (beginFail s).minibar = s.minibar ∧ (beginFail s).store = s.store ∧
    (beginFail s).port = s.port ∧ (beginFail s).loader = s.loader ∧ (beginFail s).pruner = s.pruner ∧
    (beginFail s).journal = s.journal ∧ (beginFail s).trunk = s.trunk ∧ (beginFail s).pins = s.pins ∧
    (beginFail s).startup.phase = s.startup.phase ∧ (beginFail s).startup.cause = s.startup.cause ∧
    (beginFail s).startup.keep = s.startup.keep ∧ (beginFail s).startup.marker = s.startup.marker ∧
    (beginFail s).startup.failTaken = s.startup.failTaken ∧ (beginFail s).startup.restart = s.startup.restart := by
  simp [beginFail]

@[simp] theorem enterShutdown_frame (s : State) :
    (enterShutdown s).pending = s.pending ∧ (enterShutdown s).time = s.time ∧ (enterShutdown s).lines = s.lines ∧
    (enterShutdown s).queue = s.queue ∧ (enterShutdown s).tracker = s.tracker ∧
    (enterShutdown s).override = s.override ∧ (enterShutdown s).issue = s.issue ∧
    (enterShutdown s).minibar = s.minibar ∧ (enterShutdown s).store = s.store ∧ (enterShutdown s).port = s.port ∧
    (enterShutdown s).loader = s.loader ∧ (enterShutdown s).pruner = s.pruner ∧ (enterShutdown s).trunk = s.trunk ∧
    (enterShutdown s).pins = s.pins ∧ (enterShutdown s).journal.records = s.journal.records ∧
    (enterShutdown s).journal.push = s.journal.push ∧ (enterShutdown s).journal.batch = s.journal.batch ∧
    (enterShutdown s).startup.cause = s.startup.cause ∧ (enterShutdown s).startup.keep = s.startup.keep ∧
    (enterShutdown s).startup.marker = s.startup.marker ∧ (enterShutdown s).startup.stopWork = s.startup.stopWork ∧
    (enterShutdown s).startup.stopStep = s.startup.stopStep ∧
    (enterShutdown s).startup.failTaken = s.startup.failTaken ∧
    (enterShutdown s).startup.restart = s.startup.restart := by
  simp [enterShutdown]

end Sys2Proof.Machine
end

