-- ==== Sys2Proof/Laws/Blocks.lean ====
section
/-!
SUPPORT. What the predicates of Safety.lean say, block by block.
-/

namespace Sys2Proof.Machine

/-- `unchangedBut`, one block at a time. -/
theorem unchangedBut_iff (bs : List Block) (s t : State) :
    unchangedBut bs s t ↔
      t.pending = s.pending ∧
      (Block.time ∉ bs → t.time = s.time) ∧ (Block.lines ∉ bs → t.lines = s.lines) ∧
      (Block.queue ∉ bs → t.queue = s.queue) ∧ (Block.tracker ∉ bs → t.tracker = s.tracker) ∧
      (Block.override ∉ bs → t.override = s.override) ∧ (Block.issue ∉ bs → t.issue = s.issue) ∧
      (Block.minibar ∉ bs → t.minibar = s.minibar) ∧ (Block.store ∉ bs → t.store = s.store) ∧
      (Block.port ∉ bs → t.port.inHand = s.port.inHand) ∧ (Block.loader ∉ bs → t.loader = s.loader) ∧
      (Block.pruner ∉ bs → t.pruner = s.pruner) ∧
      (Block.journal ∉ bs → t.journal = { s.journal with offer := t.journal.offer }) ∧
      (Block.trunk ∉ bs → t.trunk = { s.trunk with upRo := t.trunk.upRo, downRo := t.trunk.downRo }) ∧
      (Block.startup ∉ bs → t.startup = s.startup) ∧ (Block.pins ∉ bs → t.pins = s.pins) := by
  constructor
  · rintro ⟨hp, h⟩
    exact ⟨hp, h _, h _, h _, h _, h _, h _, h _, h _, h _, h _, h _, h _, h _, h _, h _⟩
  · rintro ⟨hp, h1, h2, h3, h4, h5, h6, h7, h8, h9, h10, h11, h12, h13, h14, h15⟩
    refine ⟨hp, fun b hb => ?_⟩
    cases b
    · exact h1 hb
    · exact h2 hb
    · exact h3 hb
    · exact h4 hb
    · exact h5 hb
    · exact h6 hb
    · exact h7 hb
    · exact h8 hb
    · exact h9 hb
    · exact h10 hb
    · exact h11 hb
    · exact h12 hb
    · exact h13 hb
    · exact h14 hb
    · exact h15 hb

/-- What settling leaves of the journal. -/
theorem settle_journal (s : State) : (settle s).journal = { s.journal with offer := offerOf s } := by
  simp [settle]

/-- What settling leaves of the trunk. -/
theorem settle_trunk (s : State) : (settle s).trunk = { s.trunk with upRo := upReady s, downRo := downReady s } := by
  simp [settle]

/-- A request in hand answered: its reply queued and the Request Unit free. -/
theorem answerRequest_some (s : State) (r : RequestInHand) (a : Answer) (h : s.trunk.inHand = some r) :
    answerRequest s a = s.withTrunk (answeredTrunk s.trunk r a) := by
  unfold answerRequest
  simp only [h]
  cases hu : r.unicast <;> simp [answeredTrunk, replyTo, hu, fillReply, State.withTrunk]

/-- An append: the ring takes it unless the journal takes none. -/
theorem appendRecord_eq (s : State) (r : Record) :
    appendRecord s r =
      s.withJournal
        { s.journal with
          records := if journals s = true then appended s.journal.records r else s.journal.records } := by
  unfold appendRecord journals
  cases s.journal.frozen <;> cases s.relayOnly <;> simp [State.withJournal]

/-- A notice queued, or lost. -/
theorem pushNotice_eq (s : State) (b : NoticeBody) :
    pushNotice s b = s.withTrunk { s.trunk with notices := noticesAfter s b } := by
  unfold pushNotice noticesAfter
  by_cases h : s.trunk.notices.length < 8 <;> simp [h, noticesWith, State.withTrunk, Config.upCap]

end Sys2Proof.Machine
end

