-- ==== Sys2Proof/Laws/Ops.lean ====
section
/-!
SUPPORT. One lemma for each shared operation that says what it does: lists kept in order (deadlines, presentations, serials),
the journal's append, the table port's forms, expiries, the pending command of a node, the minibar part, the generations of
a room, the pieces of the stop work. A proof about a command cites these and unfolds none of them.
-/

namespace Sys2Proof.Machine

/-! ### Lists in order -/

/-- An inserted deadline stands after every entry as near, before every farther one (R11, R12). -/
theorem insertDeadline_split (tick : Tick) (d : Deadline) (l : List Deadline) :
    ∃ before after, l = before ++ after ∧ insertDeadline tick d l = before ++ d :: after ∧
      (∀ e ∈ before, distance tick e.due ≤ distance tick d.due) ∧
      ∀ e, after.head? = some e → distance tick d.due < distance tick e.due := by
  induction l with
  | nil => exact ⟨[], [], by simp [insertDeadline]⟩
  | cons e es ih =>
    by_cases h : distance tick e.due ≤ distance tick d.due
    · obtain ⟨b, a, h1, h2, h3, h4⟩ := ih
      exact ⟨e :: b, a, by simp [h1], by simp [insertDeadline, h, h2], by simpa [h] using h3, h4⟩
    · exact ⟨[], e :: es, by simp, by simp [insertDeadline, h], by simp, by simp; omega⟩

/-- What an inserted deadline leaves the list holding. -/
@[simp] theorem mem_insertDeadline (tick : Tick) (d x : Deadline) (l : List Deadline) :
    x ∈ insertDeadline tick d l ↔ x = d ∨ x ∈ l := by
  obtain ⟨b, a, rfl, h, -, -⟩ := insertDeadline_split tick d l
  rw [h]; simp only [List.mem_append, List.mem_cons]; tauto

/-- A part of the list that an inserted deadline is not of stands. -/
theorem filter_insertDeadline_of_not (p : Deadline → Bool) (tick : Tick) (d : Deadline) (l : List Deadline)
    (h : p d = false) : (insertDeadline tick d l).filter p = l.filter p := by
  obtain ⟨b, a, rfl, h2, -, -⟩ := insertDeadline_split tick d l
  simp [h2, h]

/-- A part of the list that holds nothing but an inserted deadline. -/
theorem filter_insertDeadline_alone (p : Deadline → Bool) (tick : Tick) (d : Deadline) (l : List Deadline)
    (h : p d = true) (hl : l.filter p = []) : (insertDeadline tick d l).filter p = [d] := by
  obtain ⟨b, a, rfl, h2, -, -⟩ := insertDeadline_split tick d l
  rw [List.filter_append, List.append_eq_nil_iff] at hl
  simp [h2, h, hl.1, hl.2]

/-- Insertion keeps a list in order of distance. -/
theorem insertDeadline_sorted (tick : Tick) (d : Deadline) (l : List Deadline)
    (h : l.Pairwise fun a b => distance tick a.due ≤ distance tick b.due) :
    (insertDeadline tick d l).Pairwise fun a b => distance tick a.due ≤ distance tick b.due := by
  induction l with
  | nil => simp [insertDeadline]
  | cons e es ih =>
    rw [List.pairwise_cons] at h
    by_cases hd : distance tick e.due ≤ distance tick d.due
    · simp only [insertDeadline, hd, if_true, List.pairwise_cons, mem_insertDeadline]
      exact ⟨fun x hx => hx.elim (fun hx => hx ▸ hd) (h.1 x), ih h.2⟩
    · simp only [insertDeadline, hd, if_false, List.pairwise_cons, List.mem_cons]
      refine ⟨fun x hx => ?_, fun x hx => h.1 x hx, h.2⟩
      rcases hx with rfl | hx
      · omega
      · exact le_trans (by omega) (h.1 x hx)

/-- A presentation stands after those captured as early, before the later ones (R69). -/
theorem insertPresentation_split (tick : Tick) (p : Presentation) (l : List Presentation) :
    ∃ before after, l = before ++ after ∧ insertPresentation tick p l = before ++ p :: after ∧
      (∀ q ∈ before, age tick p ≤ age tick q) ∧ ∀ q, after.head? = some q → age tick q < age tick p := by
  induction l with
  | nil => exact ⟨[], [], by simp [insertPresentation]⟩
  | cons q qs ih =>
    by_cases h : age tick p ≤ age tick q
    · obtain ⟨b, a, h1, h2, h3, h4⟩ := ih
      exact ⟨q :: b, a, by simp [h1], by simp [insertPresentation, h, h2], by simpa [h] using h3, h4⟩
    · exact ⟨[], q :: qs, by simp, by simp [insertPresentation, h], by simp, by simp; omega⟩

/-- One more presentation. -/
@[simp] theorem length_insertPresentation (tick : Tick) (p : Presentation) (l : List Presentation) :
    (insertPresentation tick p l).length = l.length + 1 := by
  obtain ⟨b, a, rfl, h, -, -⟩ := insertPresentation_split tick p l
  simp [h]; omega

/-- What an inserted presentation leaves the queue holding. -/
@[simp] theorem mem_insertPresentation (tick : Tick) (p x : Presentation) (l : List Presentation) :
    x ∈ insertPresentation tick p l ↔ x = p ∨ x ∈ l := by
  obtain ⟨b, a, rfl, h, -, -⟩ := insertPresentation_split tick p l
  rw [h]; simp only [List.mem_append, List.mem_cons]; tauto

/-- A deny entry stands after those of lower serial (R123). -/
theorem denyInsert_split (e : DenyEntry) (l : List DenyEntry) :
    ∃ below above, l = below ++ above ∧ denyInsert e l = below ++ e :: above ∧
      (∀ f ∈ below, f.serial.toNat < e.serial.toNat) ∧
      ∀ f, above.head? = some f → e.serial.toNat ≤ f.serial.toNat := by
  induction l with
  | nil => exact ⟨[], [], by simp [denyInsert]⟩
  | cons f fs ih =>
    by_cases h : f.serial.toNat < e.serial.toNat
    · obtain ⟨b, a, h1, h2, h3, h4⟩ := ih
      exact ⟨f :: b, a, by simp [h1], by simp [denyInsert, h, h2], by simpa [h] using h3, h4⟩
    · exact ⟨[], f :: fs, by simp, by simp [denyInsert, h], by simp, by simp; omega⟩

/-- One more entry. -/
@[simp] theorem length_denyInsert (e : DenyEntry) (l : List DenyEntry) :
    (denyInsert e l).length = l.length + 1 := by
  obtain ⟨b, a, rfl, h, -, -⟩ := denyInsert_split e l
  simp [h]; omega

/-- Insertion of a serial not held keeps the list in strict serial order. -/
theorem denyInsert_sorted (e : DenyEntry) (l : List DenyEntry)
    (h : l.Pairwise fun a b => a.serial.toNat < b.serial.toNat) (hn : ∀ f ∈ l, f.serial ≠ e.serial) :
    (denyInsert e l).Pairwise fun a b => a.serial.toNat < b.serial.toNat := by
  induction l with
  | nil => simp [denyInsert]
  | cons f fs ih =>
    rw [List.pairwise_cons] at h
    have hf : f.serial.toNat ≠ e.serial.toNat := fun hh => hn f (by simp) (BitVec.eq_of_toNat_eq hh)
    by_cases hd : f.serial.toNat < e.serial.toNat
    · simp only [denyInsert, hd, if_true, List.pairwise_cons]
      refine ⟨fun x hx => ?_, ih h.2 fun g hg => hn g (by simp [hg])⟩
      obtain ⟨b, a, rfl, h2, -, -⟩ := denyInsert_split e fs
      rw [h2] at hx
      simp only [List.mem_append, List.mem_cons] at hx
      rcases hx with hx | rfl | hx
      · exact h.1 x (by simp [hx])
      · exact hd
      · exact h.1 x (by simp [hx])
    · simp only [denyInsert, hd, if_false, List.pairwise_cons, List.mem_cons]
      refine ⟨fun x hx => ?_, fun x hx => h.1 x hx, h.2⟩
      rcases hx with rfl | hx
      · omega
      · exact lt_trans (by omega) (h.1 x hx)

/-- Erasing keeps the list in strict serial order. -/
theorem denyErase_sorted (l : List DenyEntry) (x : Serial)
    (h : l.Pairwise fun a b => a.serial.toNat < b.serial.toNat) :
    (denyErase l x).Pairwise fun a b => a.serial.toNat < b.serial.toNat := h.filter _

/-- The deny list and the count that replacing it leaves. -/
@[simp] theorem setDeny_deny (s : State) (l : List DenyEntry) :
    (setDeny s l).store.deny = l ∧ (setDeny s l).store.denyCount = l.length := ⟨rfl, rfl⟩

/-! ### The journal -/

/-- While there is room the record itself is appended (R160). -/
theorem appended_room (records : List Record) (r : Record) (h : records.length ≤ 1022) :
    appended records r = records ++ [r] := by
  unfold appended Config.journalCap
  rw [if_pos (by omega)]

/-- With one position left and no GAP there, the append leaves a GAP (R160). -/
theorem appended_gap (records : List Record) (r : Record) (h : 1023 ≤ records.length)
    (hg : records.getLast?.bind raisedGap = none) : appended records r = records ++ [gapFor r] := by
  unfold appended Config.journalCap
  rw [if_neg (by omega), hg]

/-- Behind a GAP the append raises its count (R160). -/
theorem appended_raised (records : List Record) (r g : Record) (h : 1023 ≤ records.length)
    (hg : records.getLast?.bind raisedGap = some g) : appended records r = records.dropLast ++ [g] := by
  unfold appended Config.journalCap
  rw [if_neg (by omega), hg]

/-- What raising answers: a record that is a GAP (R160). -/
theorem raisedGap_isGap {r g : Record} (h : raisedGap r = some g) : isGap r = true ∧ isGap g = true := by
  unfold raisedGap at h
  split at h
  · rename_i c hc
    obtain rfl := Option.some.inj h
    simp [isGap, hc]
  · cases h

/-- A record that is no GAP is not raised. -/
theorem raisedGap_none {r : Record} (h : isGap r = false) : raisedGap r = none := by
  unfold raisedGap
  unfold isGap at h
  split <;> simp_all

/-- An append keeps the ring within its positions, the last of them a GAP's (R156, R160). -/
theorem appended_sound (records : List Record) (r : Record) (h : records.length ≤ 1024)
    (hg : records.length = 1024 → records.getLast?.map isGap = some true) :
    (appended records r).length ≤ 1024 ∧
      ((appended records r).length = 1024 → (appended records r).getLast?.map isGap = some true) := by
  by_cases h1 : records.length ≤ 1022
  · rw [appended_room _ _ h1]
    simp only [List.length_append, List.length_singleton]
    exact ⟨by omega, by omega⟩
  · rcases hb : records.getLast?.bind raisedGap with _ | g
    · rw [appended_gap _ _ (by omega) hb]
      have hn : records.length ≠ 1024 := by
        intro hh
        have := hg hh
        rcases hl : records.getLast? with _ | x
        · simp [hl] at this
        · simp only [hl, Option.map_some, Option.some.injEq] at this
          rw [hl] at hb
          simp only [Option.bind_some] at hb
          unfold isGap at this
          unfold raisedGap at hb
          split at hb <;> simp_all
      simp only [List.length_append, List.length_singleton]
      refine ⟨by omega, fun _ => ?_⟩
      simp [isGap, gapFor]
    · rw [appended_raised _ _ _ (by omega) hb]
      obtain ⟨x, -, hx⟩ := Option.bind_eq_some_iff.1 hb
      simp only [List.length_append, List.length_dropLast, List.length_singleton]
      refine ⟨by omega, fun _ => ?_⟩
      simp [(raisedGap_isGap hx).2]

/-! ### Deadlines -/

/-- Arming an entry of a node of its own kind: the old entry leaves, the new one stands in its place (R12). -/
theorem armAt_deadlines (s : State) (n : Node) (k : DeadlineKind) (due : Tick)
    (h : belongs k (doorOf s n).kind = true) :
    (armAt s n k due).time.deadlines =
      insertDeadline s.time.tick
        { due := if reached (distance s.time.tick due) then s.time.tick + 1 else due, node := n, kind := k }
        (s.time.deadlines.filter fun e => !(e.node = n && e.kind = k)) := by
  simp [armAt, h, setDeadlines]

/-- Arming an entry of a node of another kind changes nothing (R11). -/
theorem armAt_other (s : State) (n : Node) (k : DeadlineKind) (due : Tick)
    (h : belongs k (doorOf s n).kind = false) : armAt s n k due = s := by simp [armAt, h]

/-- A duration of 1 to 6,000 ticks is not reached when armed (R12). -/
theorem reached_duration (tick d : Tick) (h1 : 1 ≤ d.toNat) (h2 : d.toNat ≤ 6000) :
    reached (distance tick (tick + d)) = false := by
  have : tick + d - tick = d := by bv_omega
  simp only [reached, distance, this, Config.maxDistance, Bool.or_eq_false_iff, decide_eq_false_iff_not]
  omega

/-- The one entry of a node and kind after arming with a duration (R12). -/
theorem arm_entry (s : State) (n : Node) (k : DeadlineKind) (d : Tick) (h : belongs k (doorOf s n).kind = true)
    (h1 : 1 ≤ d.toNat) (h2 : d.toNat ≤ 6000) :
    (arm s n k d).time.deadlines.filter (fun e => e.node == n && e.kind == k) =
      [{ due := s.time.tick + d, node := n, kind := k }] := by
  rw [arm, armAt_deadlines _ _ _ _ h, reached_duration _ _ h1 h2]
  refine filter_insertDeadline_alone _ _ _ _ (by simp) ?_
  simp [List.filter_eq_nil_iff]

/-- The other entries after arming (R12). -/
theorem arm_others (s : State) (n : Node) (k : DeadlineKind) (d : Tick) :
    (arm s n k d).time.deadlines.filter (fun e => !(e.node == n && e.kind == k)) =
      s.time.deadlines.filter (fun e => !(e.node == n && e.kind == k)) := by
  rcases h : belongs k (doorOf s n).kind with _ | _
  · rw [arm, armAt_other _ _ _ _ h]
  · rw [arm, armAt_deadlines _ _ _ _ h, filter_insertDeadline_of_not _ _ _ _ (by simp), List.filter_filter]
    congr 1
    funext e
    by_cases hn : e.node = n <;> by_cases hk : e.kind = k <;> simp [hn, hk]

/-- An expiry taken: it was the oldest of its owner's, and it leaves the list (R14, R15). -/
theorem takeExpiry_some {s t : State} {n : Node} {k : DeadlineKind} (h : takeExpiry s n k = some t) :
    s.working = true ∧ s.time.expiring.find? (fun x => sameOwner k x.2) = some (n, k) ∧
      t = s.withTime { s.time with expiring := s.time.expiring.erase (n, k) } := by
  unfold takeExpiry at h
  split at h
  · rename_i hc
    simp only [Bool.and_eq_true, decide_eq_true_eq] at hc
    exact ⟨hc.1, hc.2, (Option.some.inj h).symm⟩
  · cases h

/-! ### Table operations -/

/-- A grant makes an operation the one in hand only when its requester is granted (R170, R171). -/
theorem grantSimple_some {r : Requester} {op : PortOp} {ready : State → Bool} {s t : State}
    (h : grantSimple r op ready s = some t) :
    nextGrant s = some r ∧ ready s = true ∧ t = setInHand s (some op) := by
  unfold grantSimple at h
  split at h
  · rename_i hc
    simp only [Bool.and_eq_true, decide_eq_true_eq] at hc
    exact ⟨hc.1, hc.2, (Option.some.inj h).symm⟩
  · cases h

/-- A completion makes the effects of the operation in hand, which is then out of hand (R170). -/
theorem finishOp_some {eff : PortOp → Option (State → State)} {s t : State} (h : finishOp eff s = some t) :
    s.serving = true ∧ ∃ op f, s.port.inHand = some op ∧ eff op = some f ∧ t = f (setInHand s none) := by
  unfold finishOp at h
  split at h
  · rename_i hs
    rcases ho : s.port.inHand with _ | op
    · simp [ho] at h
    · rcases he : eff op with _ | f
      · simp [ho, he] at h
      · simp only [ho, Option.bind_some, he, Option.map_some, Option.some.injEq] at h
        exact ⟨hs, op, f, rfl, he, h.symm⟩
  · cases h

/-- The completion of an operation in hand. -/
theorem finishOp_eq {eff : PortOp → Option (State → State)} {s : State} {op : PortOp} {f : State → State}
    (h : opInHand s op) (he : eff op = some f) : finishOp eff s = some (f (setInHand s none)) := by
  simp [finishOp, h.1, h.2, he]

/-- The completing form of a command. -/
theorem runForm_complete {grant complete : State → Option State} {s t : State} (h : complete s = some t) :
    runForm .complete grant complete s = .next (settle t) := by simp [runForm, h, done]

/-- The granting form of a command. -/
theorem runForm_grant {grant complete : State → Option State} {s t : State} (h : grant s = some t) :
    runForm .grant grant complete s = .next (settle t) := by simp [runForm, h, done]

/-! ### Lines -/

/-- The address found next after a poll position is one that `p` holds for (R34). -/
theorem nextAddr_some {pos : Option Addr} {p : Addr → Bool} {a : Addr} (h : nextAddr pos p = some a) : p a = true := by
  unfold nextAddr at h
  cases pos <;> exact List.find?_some h

/-- None is found exactly where `p` holds for none. -/
theorem nextAddr_none {pos : Option Addr} {p : Addr → Bool} : nextAddr pos p = none ↔ ∀ a, p a = false := by
  unfold nextAddr addrs
  cases pos with
  | none => simp [List.find?_eq_none]
  | some q =>
    simp only [List.find?_eq_none, List.mem_append, List.mem_filter, List.mem_finRange, true_and, decide_eq_true_eq]
    constructor
    · intro h a
      rcases lt_or_ge q a with hq | hq
      · simpa using h a (Or.inl hq)
      · simpa using h a (Or.inr hq)
    · intro h a _
      simp [h a]

/-- A command for a node with none pending becomes its command, at the tail of the FIFO (R42). -/
theorem queueCommand_fresh (s : State) (n : Node) (c : Command) (hd : configured (doorOf s n) = true)
    (hp : passTaken (lineOf s n.line).mode c = true) (hn : (nodeOf s n).command = none) :
    queueCommand s n c =
      setLine s n.line
        { ((lineOf s n.line).withNode n.addr
            { nodeOf s n with command := some c, attempts := 0, duty := false }) with
          fifo := (lineOf s n.line).fifo.filter (fun b => !(b = n.addr)) ++ [n.addr] } := by
  simp [queueCommand, hd, hp, hn]

/-- A command that the pending one outlasts is discarded (R42). -/
theorem queueCommand_kept (s : State) (n : Node) (c old : Command) (hn : (nodeOf s n).command = some old)
    (hk : keepsPending old c = true) : queueCommand s n c = s := by
  unfold queueCommand
  simp [hn, hk]

/-- A command for a node that is not configured is discarded (R41). -/
theorem queueCommand_unused (s : State) (n : Node) (c : Command) (h : configured (doorOf s n) = false) :
    queueCommand s n c = s := by simp [queueCommand, h]

/-- A store with an entry replaced by itself. -/
theorem put_look {α : Type} {n : Nat} (v : Vector α n) (i : Fin n) : put v i (look v i) = v := by
  unfold put look
  apply Vector.ext
  intro j hj
  by_cases h : i.val = j
  · subst h; simp [Vector.get]
  · simp [h]

/-- The mark a command leaves on the exchange in flight is that of the statements (R42, R115). -/
theorem markFlight_eq (a : Addr) (f : Fate) : markFlight a f = flightMarked a f := by
  funext e; unfold markFlight flightMarked; cases e.kind <;> rfl

/-- The commands one does not replace are those of the statements (R42). -/
theorem keepsPending_eq (old new : Command) : keepsPending old new = outlasts old new := by
  cases old <;> simp [keepsPending, outlasts] <;> cases new <;> simp

/-- What queuing a command does, but where it replaces the PREPARE or WRITE of a session (R41 to R43): the lines are those
of `linesQueued`, and nothing else changes. -/
theorem queueCommand_plain (s : State) (n : Node) (c : Command) (hd : configured (doorOf s n) = true)
    (hp : passTaken (lineOf s n.line).mode c = true)
    (hs : ∀ old, (nodeOf s n).command = some old →
      isSessionCommand old = false ∨ flightFate (lineOf s n.line) n.addr = some .withdrawn) :
    queueCommand s n c = s.withLines (linesQueued s n c) := by
  cases h : (nodeOf s n).command with
  | none => 
    have h' : (look (lineOf s n.line).nodes n.addr).command = none := h
    rw [queueCommand_fresh s n c hd hp h]
    simp only [linesQueued, lineQueued, h', setLine, LineCtl.withNode, nodeOf, bne, beq_eq_decide]
  | some old =>
    have h' : (look (lineOf s n.line).nodes n.addr).command = some old := h
    by_cases hk : keepsPending old c = true
    · rw [queueCommand_kept s n c old h hk]
      rw [keepsPending_eq] at hk
      have he : linesQueued s n c = s.lines := by
        unfold linesQueued lineQueued
        simp only [h', hk, if_true]
        exact put_look _ _
      rw [he]; rfl
    · have hk' := hk
      rw [keepsPending_eq] at hk'
      have hx := hs old h
      have : ¬ (isSessionCommand old = true ∧ ¬ flightFate (lineOf s n.line) n.addr = some .withdrawn) := by
        rcases hx with hx | hx <;> simp [hx]
      simp only [queueCommand, hd, hp, h, hk]
      simp [this, linesQueued, lineQueued, h', hk', setLine, LineCtl.withNode, nodeOf, markFlight_eq, dutyAfter,
        Bool.and_comm]

/-- What withdrawing a session's command does (R115): the lines are those of `linesWithdrawn`, and nothing else changes. -/
theorem withdraw_eq (s : State) (n : Node) : withdraw s n = s.withLines (linesWithdrawn s n) := by
  have same : s.withLines (put s.lines n.line (lineOf s n.line)) = s := by
    rw [show put s.lines n.line (lineOf s n.line) = s.lines from put_look _ _]; rfl
  unfold withdraw linesWithdrawn lineWithdrawn
  cases h : (nodeOf s n).command with
  | none =>
    have h' : (look (lineOf s n.line).nodes n.addr).command = none := h
    simp [h', same]
  | some c =>
    have h' : (look (lineOf s n.line).nodes n.addr).command = some c := h
    by_cases hc : isSessionCommand c = true
    · by_cases hf : flightFate (lineOf s n.line) n.addr = some .live
      · simp [h', hc, hf, setLine, markFlight_eq]
      · simp [h', hc, hf, setLine, dropCommand, LineCtl.withNode, markFlight_eq, bne, beq_eq_decide]
    · simp [h', hc, same]

/-- What replacing a node leaves of the nodes (R42). -/
theorem nodeOf_setNode (s : State) (n m : Node) (x : NodeCtl) :
    nodeOf (setNode s n x) m = if m = n then x else nodeOf s m := by
  by_cases hl : m.line = n.line
  · by_cases ha : m.addr = n.addr
    · have : m = n := by cases m; cases n; simp_all
      subst this
      simp [nodeOf, setNode, lineOf, setLine, LineCtl.withNode]
    · have hm : m ≠ n := fun hh => ha (by rw [hh])
      simp [nodeOf, setNode, lineOf, setLine, LineCtl.withNode, hl, hm, look_put_ne _ (Ne.symm ha)]
  · have hm : m ≠ n := fun hh => hl (by rw [hh])
    simp [nodeOf, setNode, lineOf, setLine, hm, look_put_ne _ (Ne.symm hl)]

/-! ### Levels, rooms and minibars -/

/-- A recomputation that finds the level as it was changes nothing (R98). -/
theorem recomputeLevel_same (s : State) (h : levelNow s.override = s.override.effective) : recomputeLevel s = s := by
  simp [recomputeLevel, h]

/-- What replacing a room's dynamic part leaves of them. -/
theorem dynOf_setDyn (s : State) (i j : Slot) (d : RoomDyn) : dynOf (setDyn s i d) j = if j = i then d else dynOf s j := by
  by_cases h : j = i
  · subst h; simp [dynOf, setDyn]
  · simp [dynOf, setDyn, h, look_put_ne _ (Ne.symm h)]

/-- The span after a raise (R63, R103): one more, up to 16. -/
theorem spanOf_raiseGen (d : RoomDyn) :
    spanOf (raiseGen d (d.issued + 1)) = if spanOf d = 16 then 16 else spanOf d + 1 := by
  unfold spanOf raiseGen
  by_cases hs : d.issued - d.accepted + 1 = 16
  · simp only [hs, if_true]; bv_omega
  · simp only [hs, if_false]; bv_omega

/-- The span after a void commit or a burn out of reach is 0 (R111, R114). -/
theorem spanOf_commitVoid (d : RoomDyn) (g : Gen) : spanOf (commitVoid d g) = 0 := by
  unfold spanOf commitVoid; bv_omega

/-- The state a recomputation gives (R136). -/
theorem recompute_state (s : State) (i : Slot) (m : MinibarPart) :
    (recompute s i m).state = restState (dynOf s i).occupied (roomOf s i).limit.toNat m.tally.toNat := by
  unfold recompute recomputed restState
  cases (dynOf s i).occupied <;> simp [← BitVec.toNat_inj]

/-- A tally never passes 65,535 (R137). -/
theorem addTally_toNat (tally amount : Half) :
    (addTally tally amount).toNat = min 65535 (tally.toNat + amount.toNat) := by
  unfold addTally Config.tallyCap
  rw [BitVec.toNat_ofNat]
  omega

/-! ### The lowest of a kind, and the refusals of a ROOM entry -/

/-- The first index that meets a test. -/
theorem find?_finRange {n : Nat} {p : Fin n → Bool} {i : Fin n} :
    (List.finRange n).find? p = some i ↔ p i = true ∧ ∀ j, j < i → p j = false := by
  rw [List.find?_eq_some_iff_getElem]
  constructor
  · rintro ⟨hp, k, hk, he, hlt⟩
    refine ⟨hp, fun j hj => ?_⟩
    have hki : k = i.val := by simpa [Fin.ext_iff] using he
    have := hlt j.val (by omega)
    simpa using this
  · rintro ⟨hp, hlt⟩
    refine ⟨hp, i.val, by simp, by simp, fun j hj => ?_⟩
    have := hlt ⟨j, by omega⟩ (by simpa [Fin.lt_def] using hj)
    simpa using this

/-- Step 3 of the stop work takes the lowest slot whose part holds a charge (R206). -/
theorem chargedRoom_some {s : State} {i : Slot} :
    chargedRoom s = some i ↔
      (∃ m, partOf s i = some m ∧ m.charges ≠ []) ∧ ∀ j, j < i → ∀ m, partOf s j = some m → m.charges = [] := by
  unfold chargedRoom slots
  rw [find?_finRange]
  simp [Option.any_eq_true, Option.any_eq_false]

/-- Step 3 of the stop work is done when no part holds a charge (R206). -/
theorem chargedRoom_none {s : State} :
    chargedRoom s = none ↔ ∀ i m, partOf s i = some m → m.charges = [] := by
  simp [chargedRoom, slots, Option.any_eq_false]

/-- Step 4 of the stop work takes the lowest context it still has to close (R206). -/
theorem ctxToClose_some {sel : IssueCtx → Bool} {s : State} {k : Fin 2} :
    ctxToClose sel s = some k ↔ sel (ctxOf s k) = true ∧ ∀ j, j < k → sel (ctxOf s j) = false := find?_finRange

/-- Step 4 of the stop work is done when no context is to be closed (R206). -/
theorem ctxToClose_none {sel : IssueCtx → Bool} {s : State} :
    ctxToClose sel s = none ↔ ∀ k, sel (ctxOf s k) = false := by
  simp [ctxToClose]

/-- What refuses a ROOM entry for the rooms held: DUPLICATE before ROOM (R61, R65, R178). -/
theorem roomConflict_eq (s : State) (i : Slot) {bytes : List Byte} {x : Half × Option Node} (h : roomNames bytes = some x) :
    roomConflict s i bytes =
      if duplicateRoom s i x.1 x.2 = true then some .duplicate
      else if removesOwed s i x.1 x.2 = true then some .room else none := by
  simp [roomConflict, h]

/-- Another slot holds the number, not 0, or the node (R61). -/
theorem duplicateRoom_iff {s : State} {i : Slot} {number : Half} {n : Option Node} :
    duplicateRoom s i number n = true ↔
      ∃ j, j ≠ i ∧
        ((number ≠ 0 ∧ (roomOf s j).number = number) ∨ (n.isSome = true ∧ (roomOf s j).minibarNode = n)) := by
  simp [duplicateRoom, slots]

/-- The DOOR entry an exchange is completed under is the one that `begunUnder` names (R34). -/
theorem doorDuring_eq (s : State) (l : LineNo) (e : Exchange) (a : Addr) : doorDuring s l e a = begunUnder s l e a := by
  have h : (e.stale.find? fun x => decide (x.1 = a)) = e.stale.find? fun x => x.1 == a := by
    congr 1
  unfold doorDuring begunUnder
  rw [h]
  cases e.stale.find? fun x => x.1 == a <;> rfl

/-- The reply of a LOAD is the one that `loadAnswer` spells (R178, R211). -/
theorem loadReply_eq (ld : LoadInHand) (c : Cursor) : loadReply ld c = loadAnswer ld c := by
  have two : ∀ v : Nat, num2 v = [BitVec.ofNat 8 (v / 256), BitVec.ofNat 8 v] := fun v => by
    simp only [num2, be2, List.cons.injEq, and_true]
    constructor
    all_goals apply BitVec.eq_of_toNat_eq
    all_goals simp [BitVec.extractLsb'_toNat, Nat.shiftRight_eq_div_pow]
    all_goals omega
  unfold loadReply loadAnswer
  congr 1
  simp only [two]
  congr 1
  · congr 1
    cases c <;> simp [cursorBytes, two]
  · rcases ld.firstRefusal with _ | ⟨_ | i, r⟩
    · rfl
    · cases r <;> rfl
    · cases r <;> simp [firstRefusalBytes, two, refuseCode]
end Sys2Proof.Machine
end

