-- ==== Sys2Proof/WellFormed.lean ====
section
/-!
DEFINITION. The commands whose operands have a form the wires can give them: a frame received whole has the length its
header says (R182, R211), and the characters of an answer end within those R210 allows. The step is total and does not ask
for it; what it does with other bytes is in its own definitions.
-/

namespace Sys2Proof

/-- Bytes of a frame received whole: a five-byte header, the body, and a two-byte check (R211). -/
def wholeFrame (bytes : List Byte) : Bool :=
  match bytes with
  | _ :: _ :: _ :: _ :: len :: rest => rest.length = len.toNat + 2
  | _ => false

/-- Characters of an answer up to the one that ended it: at least the first two, at most a first character, a length
character, 40 content characters and a check (R210). -/
def answerLength (chars : List Byte) : Bool := decide (2 ≤ chars.length) && decide (chars.length ≤ 43)

/-- What has arrived of an answer is well-formed. -/
def partFormed : AnswerPart → Bool
  | .begins => true
  | .ends chars => answerLength chars

/-- A command is well-formed. -/
def wellFormed : Instr → Bool
  | .powerOnReset _ => true
  | .pinReset _ => true
  | .tickEvent _ _ => true
  | .minuteEvent => true
  | .firePinChange => true
  | .relockExpiry _ => true
  | .heldExpiry _ => true
  | .relatchExpiry _ => true
  | .relatchExpiryOperation _ => true
  | .returnExpiry _ => true
  | .returnExpiryOperation _ => true
  | .issueTimeoutExpiry _ => true
  | .pollSlot _ => true
  | .callSlot _ => true
  | .commandSlot _ => true
  | .answerReceived _ part => partFormed part
  | .answerWindowClose _ => true
  | .stretchLimitExceeded _ => true
  | .commandDelivered _ => true
  | .commandNotDelivered _ => true
  | .lineStuck _ _ => true
  | .lineFree _ => true
  | .lineMode => true
  | .enterHeld _ => true
  | .decision _ => true
  | .privacyWrite _ => true
  | .reportItemOperation _ => true
  | .forcedCommit _ => true
  | .minibarBringIntoLine _ => true
  | .issue _ => true
  | .composition _ => true
  | .issueClosing _ => true
  | .issueCancel => true
  | .roomCheckout _ => true
  | .roomBump _ => true
  | .minibarSettle _ => true
  | .denyAdd _ => true
  | .denyRemove _ => true
  | .pruneStep _ => true
  | .journalPush => true
  | .post => true
  | .drain _ => true
  | .loadWindow => true
  | .load => true
  | .readEntries _ => true
  | .status _ => true
  | .setClock => true
  | .setOverride => true
  | .go => true
  | .restart => true
  | .restartBegin _ => true
  | .checkingEnd => true
  | .supplyFail => true
  | .vddFall => true
  | .upstreamFrameReceived bytes => wholeFrame bytes
  | .downstreamFrameReceived bytes => wholeFrame bytes
  | .frameEndedShort _ => true
  | .requestTake => true
  | .nodePassDown => true
  | .upstreamGrant => true
  | .upstreamFrameFinished => true
  | .relayDownSend => true
  | .relayDownFinished => true
  | .downstreamAbsent => true
  | .downstreamPresent => true
  | .answerRestart _ => true
  | .pollFrameNotDelivered _ => true
  | .vbakOutOfRange => true
  | .clockCountWithoutTick => true

end Sys2Proof
end

