-- ==== Sys2Proof/Tests/Slice0.lean ====
section
/-!
SUPPORT. The model's own tests. `test_…`: expected values from the manual's worked cases and tables, named in each comment.
`witness_…`: a state and operands that meet the hypotheses of the statement named, clause by clause.
-/

namespace Sys2Proof.Tests

set_option Elab.async false

open Sys2Proof Sys2Proof.Machine

/-! ### Ill-formed commands are refused -/

/-- A frame whose header announces more bytes than it has. -/
theorem test_wellFormed_frame_upstream : wellFormed (.upstreamFrameReceived [1, 3, 31, 0, 2, 0, 0, 0]) = false := by decide

/-- A frame shorter than a header. -/
theorem test_wellFormed_frame_downstream : wellFormed (.downstreamFrameReceived [1, 3, 31]) = false := by decide

/-- An answer of one character. -/
theorem test_wellFormed_answer_short : wellFormed (.answerReceived 0 (.ends [0])) = false := by decide

/-- An answer of 44 characters. -/
theorem test_wellFormed_answer_long : wellFormed (.answerReceived 0 (.ends (List.replicate 44 0))) = false := by decide

/-- A STATUS request frame (R211) is well-formed. -/
theorem test_wellFormed_good : wellFormed (.upstreamFrameReceived [1, 3, 31, 0, 1, 1, 0xFF, 0xDA]) = true := by decide

/-! ### A wing: the content of the worked decisions of 05_admission.md, with a minibar (3, 13) and an encoder (3, 14) -/

/-- Door (3, 12). -/
def door : Node := { line := 3, addr := 12 }
/-- The pool gate (1, 0). -/
def gate : Node := { line := 1, addr := 0 }
/-- Minibar (3, 13). -/
def bar : Node := { line := 3, addr := 13 }
/-- Encoder (3, 14). -/
def desk : Node := { line := 3, addr := 14 }

/-- Charge of the storm sequence (12.7). -/
def charge : Charge := { compartment := 5, amount := 1200, due := 81000, unlatched := false }

/-- Minibar part of the storm sequence (12.7): tally 2,000, one charge. -/
def part : MinibarPart :=
  { state := .guest, stocked := 0xFF, stable := 0xDF, candidate := some 0xDF, tally := 2000, charges := [charge] }

/-- Room 1,204: accepted 36, issued 37. -/
def roomDyn : RoomDyn :=
  { occupied := true, accepted := 36, issued := 37, privacy := false, marker := none, minibar := some part }

/-- The tables. -/
def tables : Store :=
  { Store.cleared with
    config := { ConfigEntry.cleared with siteCode := 4321 }
    doors :=
      put (put (put (put Store.cleared.doors (nodeIndex door) { kind := .roomDoor, room := 1204, zone := 4, cls := 2 })
        (nodeIndex gate) { kind := .commonGate, room := 0, zone := 2, cls := 5 })
        (nodeIndex bar) { kind := .minibar, room := 1204, zone := 0, cls := 0 })
        (nodeIndex desk) { kind := .encoder, room := 0, zone := 0, cls := 0 }
    rooms :=
      put Store.cleared.rooms 0
        { number := 1204, minibarNode := some bar, limit := 6000, prices := Vector.replicate 8 0 }
    zones := put Store.cleared.zones 2 { openAt := 420, closeAt := 1320 }
    profiles :=
      put Store.cleared.profiles 3
        { weekdays := 0x7F, shift := { openAt := 0, closeAt := 0 }, lockdownAccess := false }
    dyns := put Store.cleared.dyns 0 roomDyn }

/-- The wing in RUN at tick 80,000. -/
def wing : State :=
  { State.reset with
    store := tables
    time :=
      { State.reset.time with
        tick := 80000, clock := { minute := 1999500, second := 12, tenth := 0, cond := .set } }
    trunk := .initial (some 3)
    startup := { State.reset.startup with phase := .run, keep := true } }

/-- A unicast request in hand. -/
def hand (r : Request) : RequestInHand := { request := r, tag := 9, unicast := true }

/-- `s` with a request in hand. -/
def ask (r : Request) (s : State) : State := s.withTrunk { s.trunk with inHand := some (hand r), reserved := 1 }

/-- `s` with a request's operation in hand. -/
def askOp (r : Request) (op : PortOp) (s : State) : State := setInHand (ask r s) (some op)

/-- `s` with an operation in hand. -/
def doing (op : PortOp) (s : State) : State := setInHand s (some op)

/-- `s` with an expiry delivered. -/
def expired (n : Node) (k : DeadlineKind) (s : State) : State := s.withTime { s.time with expiring := [(n, k)] }

/-- `s` with a door's state set. -/
def doorIs (n : Node) (d : DoorState) (s : State) : State := setDoorState s n d

/-- An exchange in flight on the line of a node. -/
def exchanging (k : ExchangeKind) (stamp : Option Capture) (l : LineNo) (s : State) : State :=
  setLine s l
    { lineOf s l with
      exchange :=
        some { kind := k, frame := [], rate := .r9600, stretch := 10, stamp := stamp, restarted := false, stale := [] } }

/-- The exchange `exchanging` puts on a line. -/
def exchangeOf (k : ExchangeKind) (stamp : Option Capture) : Exchange :=
  { kind := k, frame := [], rate := .r9600, stretch := 10, stamp := stamp, restarted := false, stale := [] }

/-- A mode set on line 3. -/
def line3 (m : LineMode) (s : State) : State := setLine s 3 { lineOf s 3 with mode := m }

/-- A phase set. -/
def phaseIs (p : Phase) (s : State) : State := s.withStartup { s.startup with phase := p }

/-- An effective and a requested level. -/
def levelIs (e r : Level) (s : State) : State := s.withOverride { s.override with effective := e, requested := r }

/-- A command pending for a node, last in its line's FIFO. -/
def pendingFor (n : Node) (c : Command) (s : State) : State :=
  let l := lineOf s n.line
  setLine s n.line { (l.withNode n.addr { look l.nodes n.addr with command := some c }) with fifo := l.fifo ++ [n.addr] }

/-- A capture at minute `m`. -/
def seenAt (m : Minute) : Capture := { minute := m, second := 12, tick := 79999 }

/-- Card A of the worked case of 02_card_grants.md. -/
def cardA : Grant :=
  { serial := 305419896, cls := 1, gen := 37, room := 1204, start := 1996740, finish := 1999440, zones := 6,
    options := 1, check := 34370 }

/-- Card B of the worked decisions. -/
def cardB : Grant := { cardA with serial := 305419880, gen := 36, check := 34387 }

/-- Card A offered at the door. -/
def offerA : Presentation := { node := door, grant := cardA, capture := seenAt 1999500 }

/-- A card of another class, by profile 3 where it names one. -/
def cardOf (cls : Byte) (profile : Half) : Grant :=
  { serial := 7, cls := cls, gen := 0, room := profile, start := 0, finish := 16777215, zones := 0x15, options := 0,
    check := checkCode 4321
      { serial := 7, cls := cls, gen := 0, room := profile, start := 0, finish := 16777215, zones := 0x15, options := 0,
        check := 0 } }

/-- A card offered at a node. -/
def offer (n : Node) (g : Grant) : Presentation := { node := n, grant := g, capture := seenAt 1999500 }

/-- The state a command answers; the state itself where it answers none. -/
def after (c : Instr) (s : State) : State :=
  match exec c s with
  | .next t => t
  | _ => s

/-! ### Tests from worked cases -/

/-- 2.7: S = 96,701, and the check codes of A and B. -/
theorem test_check_codes :
    checkSum 4321 cardA = 96701 ∧ checkCode 4321 cardA = 34370 ∧ checkCode 4321 cardB = 34387 := by decide

/-- 2.7: another site code, a misread room and a misread class do not verify; an unused option bit does. -/
theorem test_misreads :
    verifies 4322 cardA = false ∧ verifies 4321 { cardA with room := 1205 } = false ∧
      verifies 4321 { cardA with cls := 3 } = false ∧ verifies 4321 { cardA with options := 0x81 } = true := by decide

/-- 1.6: the night shift 22:00 to 06:00, Monday to Friday. -/
def nightShift : ProfileEntry :=
  { weekdays := 0x1F, shift := { openAt := 1320, closeAt := 360 }, lockdownAccess := false }

/-- 1.6: the five moments of the second worked case. -/
theorem test_night_shift :
    shiftOpen nightShift 2002980 = true ∧ shiftOpen nightShift 2003190 = true ∧ shiftOpen nightShift 2004420 = false ∧
      shiftOpen nightShift 1996020 = false ∧ shiftOpen nightShift 1996560 = false := by decide

/-- 5.2: decision A is granted and supersedes 36 by 37. -/
theorem test_decision_A :
    decidePresentation wing offerA = .grant .guest none ∧
      (dynOf (after (.decision .complete) (doing (.decision offerA) wing)) 0).accepted = 37 := by decide +kernel

/-- 5.2: decision A queues GRANT with open time 50. -/
theorem test_decision_A_command :
    (nodeOf (after (.decision .complete) (doing (.decision offerA) wing)) door).command = some (.grant 50) := by
  decide +kernel

/-- 5.2: B at the pool gate after A is GEN_OLD; at minute 1,999,560 it is EXPIRED. -/
theorem test_decision_B :
    decidePresentation (after (.decision .complete) (doing (.decision offerA) wing))
        { node := gate, grant := cardB, capture := seenAt 1999500 } = .refuse .genOld ∧
      decidePresentation wing { node := gate, grant := cardB, capture := seenAt 1999560 } = .refuse .expired := by
  decide +kernel

/-- 5.5: a contact open with no GRANT forces the door; HELD expires an open door. -/
theorem test_door_evening :
    (trackOf (contactReport (doorIs door .locked wing) door true) door).state = .forced ∧
      (trackOf (after (.heldExpiry door) (expired door .held (doorIs door .opened wing))) door).state = .held := by
  decide +kernel

/-- 12.7: step 3 commits the charge: tally 3,200. -/
theorem test_storm_charge : (partOf (commitAll wing 0) 0).map (·.tally) = some 3200 := by decide +kernel

/-- 12.7: RESETTING goes to CHECKING at the first tick, whose number is 1. -/
theorem test_first_tick :
    (after (.tickEvent false false) State.reset).startup.phase = .checking ∧
      (after (.tickEvent false false) State.reset).time.tick = 1 := by decide +kernel

/-- R203: from reset the checks end in AWAIT_LOAD. -/
theorem test_checking_end :
    (after .checkingEnd (after (.tickEvent false false) State.reset)).startup.phase = .awaitLoad := by decide +kernel

/-- R2, R3: 59.9 s of minute 16,777,214 counts to saturation. -/
theorem test_clock_saturates :
    clockTenth { minute := 16777214, second := 59, tenth := 9, cond := .set } =
      { minute := 16777215, second := 0, tenth := 0, cond := .saturated } := by decide

/-- R5: a second above 59 is clamped. -/
theorem test_set_clock :
    (after .setClock (ask (.setClock 77 60) wing)).time.clock = { minute := 77, second := 59, tenth := 0, cond := .set } := by
  decide +kernel

/-- 9.5: C is stored at fill 1,022, D becomes G(1), E and F raise it to G(3). -/
theorem test_journal_overflow :
    let r := stampedRecord wing .doorHeld
    let full := appended (appended (appended (appended (List.replicate 1022 r) r) r) r) r
    full.length = 1024 ∧ (full.getLast?.map (·.detail)) = some (.gap 3) := by decide +kernel

/-- R210: POLL, CALL and a GRANT of 50 to address 12. -/
theorem test_line_frames :
    pollFrame 12 = [0x2C, 0xD3] ∧ callFrame = [0x40, 0xBF] ∧ commandFrame 12 (.grant 50) = [0x6C, 1, 50, 0x60] := by
  decide

/-- R119: a checkout sets accepted to issued + 1 and the room VACANT. -/
theorem test_checkout :
    let d := dynOf (after (.roomCheckout .complete) (askOp (.roomCheckout 1204) .checkout wing)) 0
    d.occupied = false ∧ d.accepted = 38 ∧ d.issued = 37 := by decide +kernel

/-- R23: a grant with its check code. -/
def signed (g : Grant) : Grant := { g with check := checkCode 4321 g }

/-- R81 to R85: each place, hours, room and privacy reason. -/
theorem test_late_stages :
    decidePresentation wing (offer door (signed { cardA with room := 1205, finish := 16777215 })) = .refuse .room ∧
      decidePresentation wing (offer gate (signed { cardOf 4 0 with zones := 0x10 })) = .refuse .zone ∧
      decidePresentation wing
          { offer gate (signed { cardA with finish := 16777215 }) with capture := seenAt 2000100 } = .refuse .hours ∧
      decidePresentation (setDyn wing 0 { roomDyn with occupied := false, accepted := 38 }) offerA = .refuse .vacant ∧
      decidePresentation wing (offer door (signed { cardA with gen := 35 })) = .refuse .genOld ∧
      decidePresentation wing (offer door (signed { cardA with gen := 38 })) = .refuse .genFuture ∧
      decidePresentation (setDyn wing 0 { roomDyn with privacy := true }) offerA = .refuse .privacy := by decide +kernel

/-- R138 to R140: the reasons of a minibar. -/
theorem test_minibar_stages :
    decidePresentation wing (offer bar (signed { cardB with options := 0 })) = .refuse .option ∧
      decidePresentation (setPart wing 0 (some { part with state := .capped })) (offer bar cardB) = .refuse .capped ∧
      decidePresentation (setPart wing 0 (some { part with state := .restock })) (offer bar cardB) = .refuse .inUse ∧
      decidePresentation (setPart wing 0 (some { part with state := .openGuest })) (offer bar (cardOf 3 3)) =
        .refuse .inUse := by decide +kernel

/-- R144: after a forced commit the first report is held, the empty set included. -/
theorem test_emptied_candidate :
    let m := partOf (after (.reportItemOperation .complete)
      (doing (.item bar 0 none) (setPart wing 0 (some { part with candidate := none })))) 0
    m.map (·.candidate) = some (some 0) ∧ m.map (·.stable) = some 0xDF := by decide +kernel

/-- R120: a bump admits the newest generation alone. -/
theorem test_bump :
    (dynOf (after (.roomBump .complete) (askOp (.roomBump 1204) .bump wing)) 0).accepted = 37 := by decide +kernel

/-- R124, R123: serials stand in ascending order. -/
theorem test_deny_add :
    let s := after (.denyAdd .complete) (askOp (.denyAdd 9 2000000) .denyAdd wing)
    (after (.denyAdd .complete) (askOp (.denyAdd 7 2000000) .denyAdd s)).store.deny.map (·.serial) = [7, 9] := by
  decide +kernel

/-- R101: leaving RELEASE gives every door node RELEASE_END. -/
theorem test_release_end :
    let s := after .setOverride (ask (.setOverride 0) (levelIs .release .release wing))
    (nodeOf s door).command = some .releaseEnd ∧ (nodeOf s gate).command = some .releaseEnd := by decide +kernel

/-- R51: RELEASE takes a HELD line back to DECIDE. -/
theorem test_hold_broken :
    (lineOf (after .setOverride (ask (.setOverride 2) (line3 .held wing))) 3).mode = .decide := by decide +kernel

/-- R37, its remark: a door opened and closed between two polls answers with CONTACT open and status closed. -/
theorem test_opened_and_closed :
    let s := after (.answerReceived 1 (.ends (answerFrame 0 2 [0, 1])))
      (exchanging (.poll 0) none 1 (doorIs gate .locked wing))
    (trackOf s gate).state = .locked ∧ s.journal.records.map (·.kind) = [.doorForced, .doorSecured] := by decide +kernel

/-- R50, R51: RELEASE drops the PASS of an encoder on a TRANSPARENT line, and gives a door HOLD_OPEN in its PASS's stead. -/
theorem test_release_drops_pass :
    let s := after .setOverride (ask (.setOverride 2)
      (line3 .transparent (pendingFor desk (.pass [1]) (pendingFor door (.pass [2]) wing))))
    (nodeOf s desk).command = none ∧ (nodeOf s door).command = some .holdOpen ∧ (lineOf s 3).fifo = [12] := by
  decide +kernel

/-- R183: the check of a STATUS request to wing 3 is 65,535 less the sum of its header and body, 38. -/
theorem test_status_frame :
    frameBytes { kind := .request, dest := 3, source := 31, tag := 1, body := [1] } =
      [1, 3, 31, 1, 1, 1, 0xFF, 0xD9] := by decide

/-- R185: a broadcast is taken and relayed. -/
theorem test_broadcast :
    let s := after (.upstreamFrameReceived (frameBytes
      { kind := .request, dest := 31, source := 31, tag := 1, body := [13, 2] })) wing
    s.trunk.requests.length = 1 ∧ s.trunk.relayDown.length = 1 := by decide +kernel

/-- A step takes the command at the front of the queue. -/
theorem test_step_front :
    step (wing.withPending [.vddFall, .go]) = exec .vddFall (wing.withPending [.go]) := by rfl

/-- The rows give no bits: no word spells a command. -/
theorem test_decode_none : decodeTableWord 8 0 = none := by decide

/-! ### Witnesses -/

/-- A guest's stay in room 1,204. -/
def stayA : Stay := { cls := 1, room := 1204, start := 0, finish := 5, zones := 6, options := 1 }

/-- The ISSUE of a NEW card for it at the encoder (3, 14), node byte 110. -/
def issueA : Request := .issue 110 0 stayA

/-- An open context for that stay. -/
def session (st : CtxState) : IssueCtx := { IssueCtx.free with state := st, node := desk, tag := 9, stay := stayA }

/-- `s` with context 0 open. -/
def opened (c : IssueCtx) (s : State) : State := setCtx s 0 c

/-- `s` with a LOAD in hand over a window of a table, its cursor given. -/
def loading (tb : TableId) (last : Nat) (c : Cursor) (es : List (List Byte)) (s : State) : State :=
  (ask (.load es.flatten) s).withLoader
    { buffer := [], window := some { table := tb, first := 0, last := last, wrap := false }, cursor := c,
      load := some { entries := es, taken := 0, refused := 0, firstRefusal := none } }

/-- A ROOM entry: a number, a minibar node byte, and the bytes from its limit on. -/
def roomBytesOf (number : Half) (node : Byte) (rest : List Byte) : List Byte := be2 number ++ [node] ++ rest

/-- The rest of a ROOM entry: limit 100, prices 0, no restore part. -/
def plainRest : List Byte := [0, 100, 0, 0, 0, 0, 0, 0, 0, 0, 0, 0, 0, 0, 0, 0]

/-- The rest of a ROOM entry with a price index of 64. -/
def badRest : List Byte := [0, 100, 64, 0, 0, 0, 0, 0, 0, 0, 0, 0, 0, 0, 0, 0]

/-- The rest of a ROOM entry with a restore part: OCCUPIED, 5, 7, tally 60. -/
def restoreRest : List Byte := [0, 100, 0, 0, 0, 0, 0, 0, 0, 0, 1, 1, 5, 7, 0, 60]

/-- A ROOM entry posted to slot `i`, with one more to follow. -/
def posting (i : Nat) (e : List Byte) (s : State) : State := loading .room 127 (.at i) [e, e] s

/-- The first refusal of the LOAD in hand after a POST. -/
def refusalOf (s : State) : Option (Option Nat × RefuseReason) :=
  (after .post s).loader.load.bind (·.firstRefusal)

/-- R178: a number that another slot holds is DUPLICATE, though a price index is out of range; an owed minibar removed is
ROOM; a bad price index alone is RANGE. -/
theorem test_room_refusals :
    refusalOf (posting 1 (roomBytesOf 1204 128 badRest) wing) = some (some 1, .duplicate) ∧
      refusalOf (posting 0 (roomBytesOf 1204 128 badRest) wing) = some (some 0, .room) ∧
      refusalOf (posting 0 (roomBytesOf 1204 109 badRest) wing) = some (some 0, .range) := by decide +kernel

/-- The stop work at a step: the supply fail taken, or a RESTART WARM begun. -/
def stopAt (w : StopWork) (p : StopStep) (s : State) : State :=
  s.withStartup
    { s.startup with
      stopWork := w, stopStep := p, failTaken := decide (w = .supplyFail)
      restart := if w = .supplyFail then none else some .warm }

/-- `s` with a frame in the request FIFO. -/
def waiting (k : FrameKind) (dest : Byte) (body : List Byte) (s : State) : State :=
  s.withTrunk { s.trunk with requests := [{ kind := k, dest := dest, source := 31, tag := 1, body := body }] }

/-- A frame to relay. -/
def relay : Frame := { kind := .reply, dest := 31, source := 4, tag := 1, body := [] }

/-- R206: step 3 takes the room that has charges, and ends when none has. -/
theorem test_stop_one_room :
    let s := after .supplyFail (stopAt .supplyFail .charges wing)
    (partOf s 0).map (·.tally) = some 3200 ∧ s.startup.stopStep = .charges ∧
      (after .supplyFail s).startup.stopStep = .sessions := by decide +kernel

/-- TickCountsClockAndExpiries: a part in RUN, and a relay-only one; the warm stop work; the pin taken. -/
theorem witness_tick :
    (wing.ticking = true ∧ wing.stopping = false ∧ wing.startup.phase ≠ .resetting) ∧
      ((wing.withTrunk (.initial none)).ticking = true ∧ (wing.withTrunk (.initial none)).relayOnly = true) ∧
      ((stopAt .warm .charges wing).ticking = true ∧ (stopAt .warm .charges wing).stopping = true ∧
        (stopAt .warm .charges wing).startup.phase ≠ .resetting) ∧
      ((stopAt .supplyFail .charges wing).stopping = true ∧ (stopAt .supplyFail .charges wing).startup.failTaken = true) := by
  decide +kernel

/-- R1, R15, R97: a tick of the warm stop work counts, and expires and samples nothing. -/
theorem test_stopping_tick :
    let s := arm (stopAt .warm .charges wing) door .held 1
    (after (.tickEvent true false) s).time.tick = 80001 ∧
      (after (.tickEvent true false) s).time.deadlines = s.time.deadlines ∧
      (after (.tickEvent true false) s).time.expiring = [] ∧
      (after (.tickEvent true false) s).override.lastSample = false := by decide +kernel

/-- FirstTickEntersChecking: from reset; relay-only; on path KEEP, with the level that is held and with another. -/
theorem witness_first_tick :
    (State.reset.ticking = true ∧ State.reset.stopping = false ∧ State.reset.startup.phase = .resetting ∧
        State.reset.relayOnly = false) ∧
      ((phaseIs .resetting (wing.withTrunk (.initial none))).ticking = true ∧
        (phaseIs .resetting (wing.withTrunk (.initial none))).relayOnly = true) ∧
      ((phaseIs .resetting wing).ticking = true ∧ (phaseIs .resetting wing).startup.keep = true ∧
        (if (phaseIs .resetting wing).override.pinAsserted = true then Level.release
          else (phaseIs .resetting wing).override.requested) = (phaseIs .resetting wing).override.effective) ∧
      ((phaseIs .resetting (levelIs .normal .lockdown wing)).ticking = true ∧
        (if (phaseIs .resetting (levelIs .normal .lockdown wing)).override.pinAsserted = true then Level.release
          else (phaseIs .resetting (levelIs .normal .lockdown wing)).override.requested) ≠
          (phaseIs .resetting (levelIs .normal .lockdown wing)).override.effective) := by
  decide +kernel

/-- DeliveredEventsAreTaken: a minute event raised, in work and after the supply fail is taken; VDD absent; SHUTDOWN; a
reset. -/
theorem witness_minute_event :
    (let s := wing.withTime { wing.time with minuteEvents := [1999501] };
      (s.working = true ∧ s.time.minuteEvents = 1999501 :: []) ∧
        ((s.withStartup { s.startup with failTaken := true }).stopping = true ∧
          (s.withStartup { s.startup with failTaken := true }).time.minuteEvents = 1999501 :: [])) ∧
      ((wing.withPins { wing.pins with vdd := false }).pins.vdd = false ∧ wing.pins.vbakLost = false) ∧
      ((phaseIs .shutdown wing).pins.vdd = true ∧ (phaseIs .shutdown wing).startup.phase = .shutdown) ∧
      State.reset.startup.phase = .resetting := by
  decide +kernel

/-- DeliveredEventsAreTaken: a RELATCH and a RETURN expiry. -/
theorem witness_minibar_expiries :
    delivered (expired bar .relatch wing) bar .relatch [.relatch, .ret] ∧
      delivered (expired bar .ret wing) bar .ret [.relatch, .ret] := by
  unfold delivered
  decide +kernel

/-- SetClockTakesTheTime. -/
theorem witness_set_clock :
    asked (ask (.setClock 77 60) wing) (hand (.setClock 77 60)) ∧
      (hand (.setClock 77 60)).request = .setClock 77 60 := by
  unfold asked
  decide +kernel

/-- WindowsAndShiftsOpen: a window of each case, and entries that parse. -/
theorem witness_windows :
    ((420 : Half).toNat < (1320 : Half).toNat ∧ (360 : Half).toNat < (1320 : Half).toNat) ∧
      parseWindow [5, 0xA0, 1, 2] = some { openAt := 1439, closeAt := 258 } ∧
      (parseProfile [0x1F, 5, 40, 1, 104, 0]).isSome = true := by
  decide +kernel

/-- RelockExpiryLocksUnlocked: UNLOCKED, another state, and OPEN with no RELOCK pending. -/
theorem witness_relock :
    delivered (expired door .relock (doorIs door .unlocked wing)) door .relock [.relock, .held] ∧
      (trackOf (expired door .relock (doorIs door .unlocked wing)) door).state = .unlocked ∧
      delivered (expired door .relock (doorIs door .opened wing)) door .relock [.relock, .held] ∧
      (trackOf (expired door .relock (doorIs door .opened wing)) door).state = .opened ∧
      ∀ d ∈ (expired door .relock (doorIs door .opened wing)).time.deadlines, d.node = door → d.kind ≠ .relock := by
  unfold delivered
  decide +kernel

/-- HeldExpiryRaisesAlarm: OPEN and HELD. -/
theorem witness_held :
    delivered (expired door .held (doorIs door .opened wing)) door .held [.relock, .held] ∧
      (trackOf (expired door .held (doorIs door .opened wing)) door).state = .opened ∧
      delivered (expired door .held (doorIs door .held wing)) door .held [.relock, .held] ∧
      (trackOf (expired door .held (doorIs door .held wing)) door).state = .held := by
  unfold delivered
  decide +kernel

/-- FirePinSetsLevel: a change to RELEASE, and one under a requested RELEASE. -/
theorem witness_fire_pin :
    wing.working = true ∧
      (wing.withOverride { wing.override with pinChanges := [true] }).override.pinChanges = true :: [] ∧
      Level.release ≠ wing.override.effective ∧ Level.release = (levelIs .release .release wing).override.effective := by
  decide +kernel

/-- SetOverrideRequestsLevel: codes 2 and 3; the level held; a level the pin hides; a change to RELEASE with a line of each
mode, and one from it; no door has a PREPARE or WRITE. -/
theorem witness_set_override :
    asked (ask (.setOverride 3) wing) (hand (.setOverride 3)) ∧ levelOf 3 = none ∧ levelOf 2 = some .release ∧
      asked (ask (.setOverride 2) wing) (hand (.setOverride 2)) ∧ Level.release ≠ wing.override.requested ∧
      Level.normal = wing.override.requested ∧ levelOf 0 = some .normal ∧
      (wing.withOverride { wing.override with pinAsserted := true, effective := .release }).override.effective = .release ∧
      (if wing.override.pinAsserted = true then Level.release else .release) ≠ wing.override.effective ∧
      (lineOf (line3 .transparent wing) 3).mode = .transparent ∧ (lineOf (line3 .held wing) 3).mode = .held ∧
      (lineOf (line3 (.holding true) wing) 3).mode = .holding true ∧
      (lineOf (line3 (.holding false) wing) 3).mode = .holding false ∧
      asked (ask (.setOverride 0) (levelIs .release .release wing)) (hand (.setOverride 0)) ∧
      (∀ n : Node, (nodeOf wing n).command = none) := by
  unfold asked
  refine ⟨?_, ?_, ?_, ?_, ?_, ?_, ?_, ?_, ?_, ?_, ?_, ?_, ?_, ?_, ?_⟩
  all_goals first
    | decide +kernel
    | (rintro ⟨l, a⟩; revert l a; decide +kernel)

/-- FirePinSetsLevel, SetOverrideRequestsLevel: a change between NORMAL and LOCKDOWN; a TRANSPARENT line with PASS commands
pending at a door and at an encoder, and with one in flight; a HOLD_OPEN pending before RELEASE; deadlines of both sorts. -/
theorem witness_level_lines :
    asked (ask (.setOverride 1) wing) (hand (.setOverride 1)) ∧ levelOf 1 = some .lockdown ∧
      Level.lockdown ≠ wing.override.requested ∧ Level.lockdown ≠ wing.override.effective ∧
      (nodeOf (line3 .transparent (pendingFor desk (.pass [1]) wing)) desk).command = some (.pass [1]) ∧
      (lineOf (exchanging (.command 14 (.pass [1]) false .live) none 3
        (line3 .transparent (pendingFor desk (.pass [1]) wing))) 3).exchange ≠ none ∧
      (nodeOf (pendingFor door .holdOpen wing) door).command = some .holdOpen ∧
      (arm (arm wing door .relock 50) bar .relatch 60).time.deadlines.length = 2 := by
  unfold asked
  decide +kernel

/-- DecisionRefusesPresentation: at an encoder, where the REFUSE replaces the PREPARE of an open session (R42). -/
theorem witness_refused_session :
    (let s := pendingFor desk .prepare (opened { IssueCtx.free with state := .awaitBlank, node := desk } wing);
      opInHand (doing (.decision (offer desk cardA)) s) (.decision (offer desk cardA)) ∧
        decidePresentation (doing (.decision (offer desk cardA)) s) (offer desk cardA) = .refuse .cls ∧
        (lineOf s 3).mode = .decide ∧ (doorOf s desk).kind ≠ .unused ∧ replacedSession s desk (.refuse .cls) = [0]) := by
  unfold opInHand
  decide +kernel

/-- DecisionRefusesPresentation: B after A, on a line in DECIDE. -/
theorem witness_refused :
    opInHand (doing (.decision { offerA with grant := cardB, capture := seenAt 1999560 }) wing)
        (.decision { offerA with grant := cardB, capture := seenAt 1999560 }) ∧
      decidePresentation (doing (.decision { offerA with grant := cardB, capture := seenAt 1999560 }) wing)
        { offerA with grant := cardB, capture := seenAt 1999560 } = .refuse .expired ∧
      (lineOf wing 3).mode = .decide ∧ (doorOf wing door).kind ≠ .unused ∧ (nodeOf wing door).command = none := by
  unfold opInHand
  decide +kernel

/-- DecisionRefusesPresentation: on a line not in DECIDE. -/
theorem witness_refused_outside_decide :
    opInHand (doing (.decision { offerA with capture := seenAt 1999560 }) (line3 .transparent wing))
        (.decision { offerA with capture := seenAt 1999560 }) ∧
      decidePresentation (line3 .transparent wing) { offerA with capture := seenAt 1999560 } = .refuse .expired ∧
      (lineOf (line3 .transparent wing) 3).mode ≠ .decide := by
  unfold opInHand
  decide +kernel

/-- DecisionRefusesPresentation: a GUEST card refused once its room was found. -/
theorem witness_refused_found :
    (let p := offer door (signed { cardA with gen := 35 });
      opInHand (doing (.decision p) wing) (.decision p) ∧
        decidePresentation (doing (.decision p) wing) p = .refuse .genOld ∧ p.grant.cls = 1 ∧
        findRoom (doing (.decision p) wing) p.grant.room = some 0) := by
  unfold opInHand
  decide +kernel

/-- GuestCardOpensDoor, GrantsChangeNoTable, CardsOpenMinibar: a node with a REFUSE or a HOLD_OPEN pending. -/
theorem witness_grant_replaces :
    (nodeOf (pendingFor door (.refuse .room) wing) door).command = some (.refuse .room) ∧
      isSessionCommand (.refuse .room) = false ∧
      (nodeOf (pendingFor door .holdOpen wing) door).command = some .holdOpen ∧ isSessionCommand .holdOpen = false := by
  decide +kernel

/-- GuestCardOpensDoor: card A at the room door and at the pool gate, with nothing pending for either. -/
theorem witness_guest :
    opInHand (doing (.decision offerA) wing) (.decision offerA) ∧ wing.override.effective = .normal ∧
      cardA.cls = 1 ∧ findRoom wing cardA.room = some 0 ∧ (doorOf wing door).kind = .roomDoor ∧
      decidePresentation (doing (.decision offerA) wing) offerA = .grant .guest none ∧
      (lineOf wing 3).mode = .decide ∧ (nodeOf wing door).command = none ∧
      (doorOf wing gate).kind = .commonGate ∧
      decidePresentation (doing (.decision (offer gate cardA)) wing) (offer gate cardA) = .grant .guest none ∧
      (lineOf wing 1).mode = .decide ∧ (nodeOf wing gate).command = none := by
  unfold opInHand
  decide +kernel

/-- GrantsChangeNoTable: RELEASE. -/
theorem witness_release :
    opInHand (doing (.decision offerA) (levelIs .release .release wing)) (.decision offerA) ∧
      (levelIs .release .release wing).override.effective = .release ∧ (doorOf wing door).kind = .roomDoor ∧
      (lineOf wing 3).mode = .decide ∧ (nodeOf wing door).command = none := by
  unfold opInHand
  decide +kernel

/-- GrantsChangeNoTable: SERVICE and MASTER at the room door, STAFF and EMERGENCY at the gate. -/
theorem witness_other_cards :
    wing.override.effective ≠ .release ∧
      decidePresentation (doing (.decision (offer door (cardOf 3 3))) wing) (offer door (cardOf 3 3)) =
        .grant .service none ∧
      decidePresentation (doing (.decision (offer door (cardOf 4 0))) wing) (offer door (cardOf 4 0)) =
        .grant .master none ∧
      decidePresentation (doing (.decision (offer gate (cardOf 2 3))) wing) (offer gate (cardOf 2 3)) =
        .grant .staff none ∧
      decidePresentation (doing (.decision (offer gate (cardOf 5 0))) wing) (offer gate (cardOf 5 0)) =
        .grant .emergency none := by
  decide +kernel

/-- `s` with the minibar of room 1,204 in a state. -/
def barIs (st : MinibarState) (s : State) : State := setPart s 0 (some { part with state := st })

/-- CardsOpenMinibar: a guest's card of the accepted generation in GUEST and in OPEN_GUEST, and one above it; a service card
in GUEST and in RESTOCK. -/
theorem witness_minibar_cards :
    opInHand (doing (.decision (offer bar cardB)) wing) (.decision (offer bar cardB)) ∧
      (doorOf wing bar).kind = .minibar ∧ boundRoom wing bar = some 0 ∧ partOf wing 0 = some part ∧
      (dynOf wing 0).accepted = cardB.gen ∧ (lineOf wing 3).mode = .decide ∧ (nodeOf wing bar).command = none ∧
      1 ≤ (classOf wing (doorOf wing bar).cls).openTime.toNat ∧
      decidePresentation (doing (.decision (offer bar cardB)) wing) (offer bar cardB) = .grant .guest (some .openGuest) ∧
      decidePresentation (barIs .openGuest wing) (offer bar cardB) = .grant .guest (some .reopen) ∧
      (decidePresentation wing (offer bar { cardA with finish := cardB.finish }) = .grant .guest (some .openGuest) ∧
        (dynOf wing 0).accepted ≠ cardA.gen) ∧
      decidePresentation wing (offer bar (cardOf 3 3)) = .grant .service (some .restockBegin) ∧
      decidePresentation (barIs .restock wing) (offer bar (cardOf 3 3)) = .grant .service (some .restockEnd) := by
  unfold opInHand
  decide +kernel

/-- BumpAndPrivacyWriteRoom: a value that differs, the value held, and no room. -/
theorem witness_privacy :
    opInHand (doing (.privacy ⟨1204, some door, true⟩) wing) (.privacy ⟨1204, some door, true⟩) ∧
      findRoom wing 1204 = some 0 ∧ (dynOf wing 0).privacy ≠ true ∧ (dynOf wing 0).privacy = false ∧
      findRoom wing 1205 = none := by
  unfold opInHand
  decide +kernel

/-- Line 3 after a CALL. -/
def called (s : State) : State := setLine s 3 { lineOf s 3 with prevSlot := some .call }

/-- SlotsFollowTheOrder: a CALL first, the sweep, the rotation past address 14, a line with no node, and each out of its
turn. -/
theorem witness_slots :
    slotFree wing 3 ∧ (lineOf wing 3).prevSlot ≠ some .call ∧ slotFree (called wing) 3 ∧
      (lineOf (called wing) 3).prevSlot = some .call ∧
      firstAfter (some 13) (fun a => configured (doorOf wing { line := 3, addr := a }) = true) 14 ∧
      firstAfter (some 14) (fun a => configured (doorOf wing { line := 3, addr := a }) = true) 12 ∧
      (lineOf (called wing) 3).pollPos = none ∧
      firstAfter none (fun a => configured (doorOf (called wing) { line := 3, addr := a }) = true) 12 ∧
      (∀ a, ¬ (look (lineOf (called wing) 3).nodes a).inSweep = true) ∧ (lineOf (called wing) 3).fifo = [] ∧
      (∀ a, ¬ configured (doorOf wing { line := 0, addr := a }) = true) ∧ slotFree wing 0 ∧
      slotFree (called (loadSweep wing 3)) 3 ∧ (lineOf (called (loadSweep wing 3)) 3).prevSlot = some .call ∧
      (lineOf (called (loadSweep wing 3)) 3).pollPos = none ∧
      firstAfter none (fun a => (look (lineOf (called (loadSweep wing 3)) 3).nodes a).inSweep = true) 12 := by
  unfold slotFree firstAfter
  decide +kernel

/-- SlotsFollowTheOrder: the head of the FIFO. -/
theorem witness_command_slot :
    slotFree (called (queueCommand wing door .defer)) 3 ∧
      (lineOf (called (queueCommand wing door .defer)) 3).prevSlot = some .call ∧
      (∀ a, ¬ (look (lineOf (called (queueCommand wing door .defer)) 3).nodes a).inSweep = true) ∧
      (lineOf (called (queueCommand wing door .defer)) 3).fifo = 12 :: [] ∧
      (look (lineOf (called (queueCommand wing door .defer)) 3).nodes 12).command = some .defer := by
  unfold slotFree
  decide +kernel

/-- WindowsTakeOneAnswer: the beginning, a restart, and a window that closes. -/
theorem witness_answer_begins :
    flying (exchanging (.poll 12) none 3 wing) 3 (exchangeOf (.poll 12) none) ∧
      flying (exchanging (.poll 12) (some (seenAt 1)) 3 wing) 3 (exchangeOf (.poll 12) (some (seenAt 1))) ∧
      flying (exchanging .call none 3 wing) 3 (exchangeOf .call none) ∧
      configured (doorOf wing door) = true ∧ configured (doorOf wing { line := 3, addr := 0 }) = false ∧
      ctxOfNode wing door = none := by
  unfold flying
  decide +kernel

/-- WindowsTakeOneAnswer: a second restart. -/
theorem witness_second_restart :
    flying (setExchange wing 3 { exchangeOf (.poll 12) (some (seenAt 1)) with restarted := true }) 3
        { exchangeOf (.poll 12) (some (seenAt 1)) with restarted := true } := by
  unfold flying
  decide +kernel

/-- WindowsTakeOneAnswer: characters that are no answer, an answer whose length is not its event's, one of another node. -/
theorem witness_garbled :
    flying (exchanging (.poll 12) (some (seenAt 1)) 3 wing) 3 (exchangeOf (.poll 12) (some (seenAt 1))) ∧
      parseAnswer [1, 2, 3] = none ∧ (lineOf wing 3).mode ≠ .transparent ∧
      (parseAnswer (answerFrame 12 0 [0, 9])).map (fun x => (x.addr, x.event)) = some (12, none) ∧
      (parseAnswer (answerFrame 13 0 [0])).map (·.addr) = some 13 := by
  unfold flying
  decide +kernel

/-- An encoder whose next missed answer is its third, with a session open on it. -/
def lastChance (c : IssueCtx) : State := opened c (setNode wing desk { nodeOf wing desk with missed := 2 })

/-- WindowsTakeOneAnswer: an encoder falls SILENT under a session. -/
theorem witness_silent_session :
    flying (exchanging (.poll 14) none 3 (lastChance (session .awaitBlank))) 3 (exchangeOf (.poll 14) none) ∧
      configured (doorOf (lastChance (session .awaitBlank)) desk) = true ∧
      fallsSilent (look (lineOf (exchanging (.poll 14) none 3 (lastChance (session .awaitBlank))) 3).nodes 14) ∧
      endable (exchanging (.poll 14) none 3 (lastChance (session .awaitBlank))) desk ≠ [] := by
  unfold flying
  decide +kernel

/-- `s` with an exchange in flight on line 3, since whose beginning the DOOR entry of an address has been rewritten (R34). -/
def rewritten (k : ExchangeKind) (a : Addr) (old : NodeKind) (s : State) : State :=
  setExchange s 3 { exchangeOf k (some (seenAt 1)) with stale := [(a, { DoorEntry.cleared with kind := old })] }

/-- The exchange `rewritten` puts on line 3. -/
def rewrittenOf (k : ExchangeKind) (a : Addr) (old : NodeKind) : Exchange :=
  { exchangeOf k (some (seenAt 1)) with stale := [(a, { DoorEntry.cleared with kind := old })] }

/-- WindowsTakeOneAnswer, GateAnswerReportsContact, PresentationIsQueued, DeliveredCommandIsAccepted, FailedCommandIsRetried:
exchanges in flight at a DOOR post: a POLL of what was an encoder and is a door, of what was no node, a CALL answered by what was
a minibar, a COMMAND to what was a door and is an encoder. -/
theorem witness_rewritten :
    (flying (rewritten (.poll 12) 12 .encoder wing) 3 (rewrittenOf (.poll 12) 12 .encoder) ∧
        (begunUnder (rewritten (.poll 12) 12 .encoder wing) 3 (rewrittenOf (.poll 12) 12 .encoder) 12).kind = .encoder) ∧
      configured (begunUnder wing 3 (rewrittenOf (.poll 12) 12 .unused) 12) = false ∧
      (begunUnder wing 3 (rewrittenOf .call 14 .minibar) 14).kind = .minibar ∧
      (begunUnder wing 3 (rewrittenOf .call 14 .roomDoor) 14).kind = .roomDoor ∧ isDoor (doorOf wing desk) = false ∧
      (begunUnder wing 3 (rewrittenOf .call 14 .minibar) 12).kind = .roomDoor ∧
      (flying (rewritten (.command 14 (.grant 50) false .rewritten) 14 .commonGate wing) 3
          (rewrittenOf (.command 14 (.grant 50) false .rewritten) 14 .commonGate) ∧
        isDoor (begunUnder wing 3 (rewrittenOf (.command 14 (.grant 50) false .rewritten) 14 .commonGate) 14) = true) := by
  unfold flying
  decide +kernel

/-- R34: an answer of what was a gate is handed to the Door Tracker, though its address is now an encoder's. -/
theorem test_rewritten_answer :
    let s := rewritten (.poll 14) 14 .commonGate wing
    (trackOf (after (.answerReceived 3 (.ends (answerFrame 14 0 [0]))) s) desk).state = .locked ∧
      (nodeOf (after (.answerReceived 3 (.ends (answerFrame 14 0 [0]))) s) desk).faulty = none := by decide +kernel

/-- GateAnswerReportsContact: a gate LOCKED, UNKNOWN, OPEN and HELD, and status open and closed. -/
theorem witness_gate :
    flying (exchanging (.poll 0) none 1 wing) 1 (exchangeOf (.poll 0) none) ∧ (lineOf wing 1).mode = .decide ∧
      (doorOf wing gate).kind = .commonGate ∧ (trackOf wing gate).state = .unknown ∧
      (trackOf (doorIs gate .locked wing) gate).state = .locked ∧
      (trackOf (doorIs gate .opened wing) gate).state = .opened ∧
      (trackOf (doorIs gate .held wing) gate).state = .held ∧
      ((4 : Byte).getLsbD 0 || (4 : Byte).getLsbD 2) = true ∧ ((2 : Byte).getLsbD 0 || (2 : Byte).getLsbD 2) = false ∧
      (classOf wing (doorOf wing gate).cls).heldLimit.toNat = 600 := by
  unfold flying
  decide +kernel

/-- GateAnswerReportsContact: a room door's answers without an event, with CONTACT, with DEADBOLT and with an event no door
has, to a CALL; in HOLDING entered from DECIDE. A CONTACT of 1 or of another code with a status that shows closed. -/
theorem witness_room_door :
    flying (exchanging .call none 3 wing) 3 (exchangeOf .call none) ∧ (lineOf wing 3).mode = .decide ∧
      (doorOf wing door).kind = .roomDoor ∧ ([1] : List Byte).length = eventLength 2 ∧
      ([5] : List Byte).length = eventLength 3 ∧ ([0, 0, 0, 7] : List Byte).length = eventLength 5 ∧
      ((0 : Byte).getLsbD 0 || (0 : Byte).getLsbD 2) = false ∧
      flying (exchanging .call none 3 (line3 (.holding false) wing)) 3 (exchangeOf .call none) ∧
      (lineOf (line3 (.holding false) wing) 3).mode = .holding false ∧
      findRoom wing (doorOf wing door).room = some 0 ∧
      contactsReported false .locked [true, false] = (.locked, [.doorForced, .doorSecured], none) ∧
      contactsReported false .unlocked [true, false] = (.locked, [], some false) ∧
      contactsReported true .held [false, true] = (.opened, [.doorSecured], some true) := by
  unfold flying
  decide +kernel

/-- PresentationIsQueued: the lines and nodes of the second part: TRANSPARENT, HOLDING entered from it, a minibar without and
with its event, an encoder without a session. -/
theorem witness_handed_on :
    flying (exchanging (.poll 13) none 3 (line3 .transparent wing)) 3 (exchangeOf (.poll 13) none) ∧
      flying (exchanging (.poll 13) none 3 (line3 (.holding true) wing)) 3 (exchangeOf (.poll 13) none) ∧
      ([0xDF] : List Byte).length = eventLength 4 ∧ ([] : List Byte).length = eventLength 0 ∧
      flying (exchanging (.poll 13) none 3 wing) 3 (exchangeOf (.poll 13) none) ∧ (doorOf wing bar).kind = .minibar ∧
      flying (exchanging (.poll 14) none 3 wing) 3 (exchangeOf (.poll 14) none) ∧ (doorOf wing desk).kind = .encoder ∧
      endable wing desk = [] ∧ configured (doorOf wing bar) = true ∧
      passUpCount wing.trunk.outQueue < 4 ∧ 4 ≤ passUpCount (List.replicate 4 (.passUp 3 13 [])) := by
  unfold flying
  decide +kernel

/-- PresentationIsQueued: an encoder under a session: BLANK in AWAIT_BLANK, WRITTEN in WRITING, WRITE_FAILED, FAULT. -/
theorem witness_encoder_events :
    (let s := exchanging (.poll 14) none 3 (opened (session .awaitBlank) wing);
      flying s 3 (exchangeOf (.poll 14) none) ∧ endable s desk = [0] ∧ (ctxOf s 0).state = .awaitBlank ∧
        (ctxOf s 0).heldBlank = none ∧ ([0, 0, 0, 7] : List Byte).length = eventLength 5 ∧ (ctxOf s 1).state = .free ∧
        (look (lineOf s 3).nodes 14).faulty ≠ some true) ∧
      (let s := exchanging (.poll 14) none 3 (opened (session .writing) wing);
        flying s 3 (exchangeOf (.poll 14) none) ∧ endable s desk = [0] ∧ (ctxOf s 0).state = .writing ∧
          ([] : List Byte).length = eventLength 6 ∧ ([] : List Byte).length = eventLength 7 ∧ (ctxOf s 1).state = .free) := by
  unfold flying
  decide +kernel

/-- PresentationIsQueued, FailedCommandIsRetried: one session alone is sound, on any line. -/
theorem witness_one_session :
    sessionsSound (exchanging (.poll 14) none 3 (opened (session .awaitBlank) wing)) ∧
      sessionsSound (exchanging (.poll 14) none 3 (opened (session .writing) wing)) := by
  refine ⟨?_, ?_⟩ <;> (unfold sessionsSound; decide +kernel)

/-- PresentationIsQueued: a card at the encoder under a session, whose PREPARE a DEFER replaces and whose status shows FAULT; in
HOLDING entered from DECIDE; a discarded event at a minibar and at an encoder. -/
theorem witness_presentation_status :
    (let s := exchanging (.poll 14) (some (seenAt 1)) 3
        (phaseIs .awaitLoad (line3 (.holding false) (pendingFor desk .prepare (opened (session .awaitBlank) wing))));
      flying s 3 (exchangeOf (.poll 14) (some (seenAt 1))) ∧ (lineOf s 3).mode = .holding false ∧
        replacedSession s desk .defer = [0] ∧ s.startup.phase ≠ .run ∧ (nodeOf s desk).faulty ≠ some true ∧
        (parseAnswer (withLineCheck ([113, 20, 1] ++ grantBytes cardA))).map (fun x => (x.addr, x.status, x.event)) =
          some (14, 1, some (.present cardA))) ∧
      ([1] : List Byte).length = eventLength 2 ∧ ([0] : List Byte).length = eventLength 4 := by
  unfold flying
  decide +kernel

/-- PresentationIsQueued: that state is sound. -/
theorem witness_presentation_sound :
    sessionsSound (exchanging (.poll 14) (some (seenAt 1)) 3
      (phaseIs .awaitLoad (line3 (.holding false) (pendingFor desk .prepare (opened (session .awaitBlank) wing))))) := by
  unfold sessionsSound
  decide +kernel

/-- R37, R38: a door that offers a card has its status handed too. -/
theorem test_presented_status :
    let t := after (.answerReceived 3 (.ends (withLineCheck ([97, 20, 2] ++ grantBytes cardA))))
      (exchanging (.poll 12) (some (seenAt 1)) 3 wing)
    t.queue.map (·.node) = [door] ∧ (trackOf t door).contact = some false ∧ (trackOf t door).deadbolt = true := by
  decide +kernel

/-- PresentationIsQueued: card A in the answer of (3, 12); room, no room, its node being decided, and CHECKING. -/
theorem witness_presentation :
    flying (exchanging (.poll 12) (some (seenAt 1)) 3 wing) 3 (exchangeOf (.poll 12) (some (seenAt 1))) ∧
      (parseAnswer (withLineCheck ([97, 20, 0] ++ grantBytes cardA))).map (fun x => (x.addr, x.event)) = some (12, some (.present cardA)) ∧
      configured (doorOf wing door) = true ∧ wing.queue.length < 16 ∧
      16 ≤ (wing.withQueue (List.replicate 16 { offerA with node := gate })).queue.length ∧
      (doing (.decision offerA) wing).port.inHand = some (.decision offerA) ∧
      (phaseIs .checking wing).startup.phase ≠ .run ∧ (phaseIs .checking wing).serving = true := by
  unfold flying
  decide +kernel

/-- DeliveredCommandIsAccepted: GRANT, HOLD_OPEN, RELEASE_END, with and without the end-hold duty. -/
theorem witness_delivered_command :
    flying (exchanging (.command 12 (.grant 50) false .live) none 3 wing) 3
        (exchangeOf (.command 12 (.grant 50) false .live) none) ∧
      flying (exchanging (.command 12 .holdOpen true .live) none 3 wing) 3
        (exchangeOf (.command 12 .holdOpen true .live) none) ∧
      flying (exchanging (.command 12 .releaseEnd false .live) none 3 (doorIs door .released wing)) 3
        (exchangeOf (.command 12 .releaseEnd false .live) none) ∧
      isDoor (doorOf wing door) = true ∧ 1 ≤ (classOf wing (doorOf wing door).cls).openTime.toNat := by
  unfold flying
  decide +kernel

/-- DeliveredCommandIsAccepted: RELEASE_END at a RELEASED door whose contact is open; a GRANT at a minibar; a PREPARE at an
encoder, still live and withdrawn. -/
theorem witness_delivered_elsewhere :
    (let s := exchanging (.command 12 .releaseEnd false .live) none 3
        (setTrack wing door { state := .released, contact := some true, deadbolt := false });
      flying s 3 (exchangeOf (.command 12 .releaseEnd false .live) none) ∧ (trackOf s door).state = .released ∧
        (trackOf s door).contact = some true ∧ 1 ≤ (classOf s (doorOf s door).cls).heldLimit.toNat ∧
        (classOf s (doorOf s door).cls).heldLimit.toNat ≤ 6000) ∧
      flying (exchanging (.command 13 (.grant 50) false .live) none 3 wing) 3
        (exchangeOf (.command 13 (.grant 50) false .live) none) ∧
      flying (exchanging (.command 14 .prepare false .withdrawn) none 3 wing) 3
        (exchangeOf (.command 14 .prepare false .withdrawn) none) ∧
      (doorOf wing bar).kind = .minibar ∧ (doorOf wing desk).kind = .encoder := by
  unfold flying
  decide +kernel

/-- DeliveredCommandIsAccepted, FailedCommandIsRetried: a GRANT in flight that a newer command has replaced, one dropped by a
change of line mode, and one whose node's DOOR entry a post has rewritten. -/
theorem witness_fates :
    (∀ f ∈ [Fate.replaced, .withdrawn, .rewritten, .dropped],
        flying (exchanging (.command 12 (.grant 50) false f) none 3 (pendingFor door (.refuse .room) wing)) 3
          (exchangeOf (.command 12 (.grant 50) false f) none)) ∧
      isDoor (doorOf wing door) = true ∧ configured (doorOf wing door) = true := by
  unfold flying
  decide +kernel

/-- R42, R44: the newer command stays pending when the older one in flight is delivered, and the older one moves the door. -/
theorem test_replaced_in_flight :
    let s := exchanging (.command 12 (.grant 50) false .replaced) none 3
      (doorIs door .locked (pendingFor door (.refuse .room) wing))
    (nodeOf (after (.commandDelivered 3) s) door).command = some (.refuse .room) ∧
      (trackOf (after (.commandDelivered 3) s) door).state = .unlocked ∧
      (nodeOf (after (.commandNotDelivered 3) s) door).attempts = 0 := by decide +kernel

/-- FailedCommandIsRetried: a GRANT's first and third attempts, and HOLD_OPEN. -/
theorem witness_failed_command :
    flying (exchanging (.command 12 (.grant 50) false .live) none 3 wing) 3
        (exchangeOf (.command 12 (.grant 50) false .live) none) ∧
      (look (lineOf wing 3).nodes 12).attempts.val < 2 ∧
      2 ≤ (nodeOf (setNode wing door { nodeOf wing door with attempts := 2 }) door).attempts.val ∧
      configured (doorOf wing door) = true ∧ ctxOfNode wing door = none := by
  unfold flying
  decide +kernel

/-- FailedCommandIsRetried: the third attempt of PREPARE and of WRITE under their sessions; a third missed answer under one;
both at once. -/
theorem witness_failed_session :
    (let s := exchanging (.command 14 .prepare false .live) none 3
        (opened (session .awaitBlank) (setNode wing desk { nodeOf wing desk with attempts := 2 }));
      flying s 3 (exchangeOf (.command 14 .prepare false .live) none) ∧ endable s desk = [0] ∧
        (ctxOf s 0).state = .awaitBlank ∧ 2 ≤ (look (lineOf s 3).nodes 14).attempts.val ∧ sessionsSound s ∧
        ¬ fallsSilent (look (lineOf s 3).nodes 14)) ∧
      (let s := exchanging (.command 14 (.write cardA) false .live) none 3
          (opened (session .writing) (setNode wing desk { nodeOf wing desk with attempts := 2, missed := 2 }));
        flying s 3 (exchangeOf (.command 14 (.write cardA) false .live) none) ∧ (ctxOf s 0).state = .writing ∧
          isSessionCommand (.write cardA) = true ∧ fallsSilent (look (lineOf s 3).nodes 14)) ∧
      (let s := exchanging (.command 14 .prepare false .live) none 3 (lastChance (session .awaitBlank));
        flying s 3 (exchangeOf (.command 14 .prepare false .live) none) ∧ fallsSilent (look (lineOf s 3).nodes 14) ∧
          (look (lineOf s 3).nodes 14).attempts.val < 2 ∧ endable s desk ≠ []) := by
  unfold flying sessionsSound
  decide +kernel

/-- StuckLineIsReported: CLEAR and STUCK. -/
theorem witness_stuck :
    wing.working = true ∧ (lineOf wing 3).mode ≠ .held ∧ (lineOf wing 3).exchange = none ∧
      (lineOf wing 3).stuck = false ∧ (lineOf (setStuck wing 3 true) 3).stuck = true := by
  decide +kernel

/-- LineModeIsTaken: line 4, mode 2, and RELEASE. -/
theorem witness_line_mode_refused :
    asked (ask (.lineMode 4 0) wing) (hand (.lineMode 4 0)) ∧ 4 ≤ (4 : Byte).toNat ∧
      asked (ask (.lineMode 3 2) wing) (hand (.lineMode 3 2)) ∧ ((2 : Byte) ≠ 0 ∧ (2 : Byte) ≠ 1 ∧ (2 : Byte) ≠ 3) ∧
      asked (ask (.lineMode 3 1) (levelIs .release .release wing)) (hand (.lineMode 3 1)) := by
  unfold asked
  decide +kernel

/-- LineModeIsTaken: each mode a line 3 can be in, and an exchange in flight. -/
theorem witness_line_mode :
    asked (ask (.lineMode 3 1) wing) (hand (.lineMode 3 1)) ∧ (3 : Byte).toNat = (3 : LineNo).val ∧
      (lineOf wing 3).mode = .decide ∧ (lineOf (line3 .transparent wing) 3).mode = .transparent ∧
      (lineOf (line3 (.holding true) wing) 3).mode = .holding true ∧ (lineOf (line3 .held wing) 3).mode = .held ∧
      (lineOf (exchanging .call none 3 wing) 3).exchange ≠ none ∧ wing.override.effective ≠ .release := by
  unfold asked
  decide +kernel

/-- LineModeIsTaken: a HELD line asked for each mode, a TRANSPARENT one for HELD at once, and a session that the entry
ends. -/
theorem witness_line_mode_held :
    asked (ask (.lineMode 3 0) (line3 .held wing)) (hand (.lineMode 3 0)) ∧
      asked (ask (.lineMode 3 1) (line3 .held wing)) (hand (.lineMode 3 1)) ∧
      asked (ask (.lineMode 3 3) (line3 .transparent wing)) (hand (.lineMode 3 3)) ∧
      (lineOf (line3 .transparent wing) 3).exchange = none ∧ (lineOf (line3 .held wing) 3).mode = .held ∧
      sessionsOnLine (opened (session .awaitBlank) wing) 3 = [0] := by
  unfold asked
  decide +kernel

/-- HoldingLineEntersHeld: an exchange over, one in flight, and a line STUCK. -/
theorem witness_holding :
    (line3 (.holding true) wing).working = true ∧ (lineOf (line3 (.holding true) wing) 3).mode = .holding true ∧
      (lineOf (line3 (.holding true) wing) 3).exchange = none ∧ (lineOf (line3 (.holding true) wing) 3).stuck = false ∧
      (lineOf (exchanging .call none 3 (line3 (.holding true) wing)) 3).exchange ≠ none ∧
      (lineOf (setStuck (line3 (.holding true) wing) 3 true) 3).stuck = true := by
  decide +kernel

/-- R31, R48, R52: a HOLDING line that becomes STUCK in the wait after an abandonment enters HELD only once it is free. -/
theorem test_stuck_in_holding :
    let s := after (.lineStuck 3 .clock)
      (after (.stretchLimitExceeded 3) (exchanging .call none 3 (line3 (.holding false) wing)))
    (lineOf (after (.enterHeld 3) s) 3).mode = .holding false ∧
      (lineOf (after (.enterHeld 3) (after (.lineFree 3) s)) 3).mode = .held := by decide +kernel

/-- IssueIsJudged: every field in range, the encoder ready, the room held, context 0 FREE. -/
theorem witness_issue :
    opFor (askOp issueA .judge wing) .judge (hand issueA) ∧ issueInRange 110 0 stayA ∧ nodeNumbered 110 = desk ∧
      ((doorOf wing desk).kind = .encoder ∧ (lineOf wing 3).mode = .decide ∧ (nodeOf wing desk).silent = false ∧
        (nodeOf wing desk).faulty ≠ some true ∧ (nodeOf wing desk).command = none) ∧
      findRoom wing stayA.room = some 0 ∧ (ctxOf wing 0).state = .free := by
  unfold opFor opInHand issueInRange
  decide +kernel

/-- IssueIsJudged, CompositionWritesGrant: the encoder's command pending is a REFUSE, a PREPARE withdrawn while in flight, or
the session's own PREPARE. -/
theorem witness_issue_replaces :
    (nodeOf (pendingFor desk (.refuse .cls) wing) desk).command = some (.refuse .cls) ∧
      isSessionCommand (.refuse .cls) = false ∧
      flightFate (lineOf (exchanging (.command 14 .prepare false .withdrawn) none 3 (pendingFor desk .prepare wing)) 3) 14 =
        some .withdrawn ∧
      (nodeOf (pendingFor desk .prepare wing) desk).command = some .prepare := by
  decide +kernel

/-- IssueIsJudged: node byte 128, a node that is no encoder, no room, a DUPLICATE for a VACANT room, no context. -/
theorem witness_issue_refused :
    ¬ issueInRange 128 0 stayA ∧ issueInRange 127 0 stayA ∧ (doorOf wing (nodeNumbered 127)).kind ≠ .encoder ∧
      findRoom wing 1205 = none ∧ issueInRange 110 1 stayA ∧
      (dynOf (setDyn wing 0 { roomDyn with occupied := false, accepted := 38 }) 0).occupied = false ∧
      (ctxOf (opened (session .awaitBlank) wing) 0).state ≠ .free ∧
      (ctxOf (opened (session .awaitBlank) wing) 0).node = desk := by
  unfold issueInRange
  decide +kernel

/-- CompositionWritesGrant: a BLANK held, and an outcome decided. -/
theorem witness_composition :
    opInHand (doing (.composition 0) (opened { session .awaitBlank with heldBlank := some 7 } wing)) (.composition 0) ∧
      (ctxOf (opened { session .awaitBlank with heldBlank := some 7 } wing) 0).heldBlank = some 7 ∧
      findRoom wing stayA.room = some 0 ∧ (38 : Gen) = (dynOf wing 0).issued + 1 ∧
      ctxOfNode (opened { session .awaitBlank with heldBlank := some 7 } wing) desk = some 0 ∧
      (ctxOf (opened { session .awaitBlank with outcome := some .done } wing) 0).outcome ≠ none := by
  unfold opInHand
  decide +kernel

/-- ClosingCommitsOrBurns: a commit, a void commit, a burn, and an end that burns nothing. -/
theorem witness_closing :
    opInHand (doing (.closing 0) (opened { session .writing with gen := some 38, outcome := some .done } wing)) (.closing 0) ∧
      (38 : Gen) = (dynOf wing 0).issued + 1 ∧ findRoom wing stayA.room = some 0 ∧
      (ctxOf (opened { session .writing with gen := some 38, outcome := some .done, void := true } wing) 0).void = true ∧
      (ctxOf (opened { session .writing with gen := some 38, outcome := some (.failed .timeout true) } wing) 0).outcome =
        some (.failed .timeout true) ∧
      (ctxOf (opened { session .awaitBlank with outcome := some (.failed .timeout false) } wing) 0).outcome =
        some (.failed .timeout false) := by
  unfold opInHand
  decide +kernel

/-- ClosingCommitsOrBurns: a serial that the deny list holds, for a GUEST and for a MASTER card, and one it does not hold.
SessionsEndEarly: a MASTER session in AWAIT_BLANK cancelled. -/
theorem witness_closing_master :
    (let s := opened { session .writing with
        stay := { stayA with cls := 4, room := 0 }, serial := some 7, gen := some 0, outcome := some .done }
        (setDeny wing [{ serial := 7, expiry := 9 }]);
      opInHand (doing (.closing 0) s) (.closing 0) ∧ (ctxOf s 0).outcome = some .done ∧ (ctxOf s 0).stay.cls ≠ 1 ∧
        (ctxOf s 0).void = false ∧ (denyRecords s (some 7)).length = 1 ∧ denyRecords s (some 8) = []) ∧
      (let s := ask (.issueCancel 0) (opened { session .awaitBlank with stay := { stayA with cls := 4, room := 0 } } wing);
        asked s (hand (.issueCancel 0)) ∧ (ctxOf s 0).state = .awaitBlank ∧ (ctxOf s 0).outcome = none ∧
          (ctxOf s 0).stay.cls ≠ 1) := by
  unfold opInHand asked
  decide +kernel

/-- SessionsEndEarly: a timeout of an open context, of a decided one, of no context. -/
theorem witness_timeout :
    delivered (expired desk .issueTimeout (opened (session .writing) wing)) desk .issueTimeout [.issueTimeout] ∧
      ctxOfNode (opened (session .writing) wing) desk = some 0 ∧
      (ctxOf (opened (session .writing) wing) 0).outcome = none ∧ ctxOfNode wing desk = none ∧
      flightFate (lineOf wing 3) 14 = none := by
  unfold delivered
  decide +kernel

/-- SessionsEndEarly: context 2, a FREE one, AWAIT_BLANK, WRITING. -/
theorem witness_cancel :
    asked (ask (.issueCancel 0) (opened (session .awaitBlank) wing)) (hand (.issueCancel 0)) ∧
      asked (ask (.issueCancel 2) wing) (hand (.issueCancel 2)) ∧ 2 ≤ (2 : Byte).toNat ∧
      (1 : Byte).toNat = (1 : Fin 2).val ∧ (ctxOf wing 1).state = .free ∧
      (ctxOf (opened (session .awaitBlank) wing) 0).state = .awaitBlank ∧
      (ctxOf (opened (session .writing) wing) 0).state = .writing := by
  unfold asked
  decide +kernel

/-- CheckoutClosesStay: no room; a room with no session, AWAIT_BLANK, AWAIT_BLANK decided, WRITING. -/
theorem witness_checkout :
    opFor (askOp (.roomCheckout 1204) .checkout wing) .checkout (hand (.roomCheckout 1204)) ∧
      findRoom wing 1205 = none ∧ findRoom wing 1204 = some 0 ∧ ctxOfRoom wing 1204 = none ∧
      ctxOfRoom (opened (session .awaitBlank) wing) 1204 = some 0 ∧
      ctxOfRoom (opened { session .awaitBlank with outcome := some (.failed .timeout false) } wing) 1204 = some 0 ∧
      ctxOfRoom (opened (session .writing) wing) 1204 = some 0 := by
  unfold opFor opInHand
  decide +kernel

/-- R112, R115, R119: a checkout ends a session in AWAIT_BLANK, withdraws its PREPARE and cancels its timeout. -/
theorem test_checkout_session :
    let s := askOp (.roomCheckout 1204) .checkout
      (arm (arm (pendingFor desk .prepare (opened (session .awaitBlank) wing)) desk .issueTimeout 3000) door .held 600)
    let t := after (.roomCheckout .complete) s
    (nodeOf t desk).command = none ∧ t.time.deadlines.map (·.kind) = [.held] ∧ t.issue.work = [.closing 0] := by
  decide +kernel

/-- BumpAndPrivacyWriteRoom: OCCUPIED, VACANT, no room. -/
theorem witness_bump :
    opFor (askOp (.roomBump 1204) .bump wing) .bump (hand (.roomBump 1204)) ∧ (dynOf wing 0).occupied = true ∧
      (dynOf (setDyn wing 0 { roomDyn with occupied := false, accepted := 38 }) 0).occupied = false ∧
      findRoom wing 1205 = none := by
  unfold opFor opInHand
  decide +kernel

/-- SettleReportsTally: a room with a minibar, one without, no room. -/
theorem witness_settle :
    opFor (askOp (.minibarSettle 1204) .settle wing) .settle (hand (.minibarSettle 1204)) ∧
      partOf wing 0 = some part ∧ partOf (setPart wing 0 none) 0 = none ∧ findRoom wing 1205 = none := by
  unfold opFor opInHand
  decide +kernel

/-- MinibarOperationsOnRoom: the four operations on room 1,204, and a node bound to none. -/
theorem witness_minibar_operations :
    opInHand (doing (.relatch bar) wing) (.relatch bar) ∧ opInHand (doing (.ret bar) wing) (.ret bar) ∧
      opInHand (doing (.forced (.lineMode bar)) wing) (.forced (.lineMode bar)) ∧
      opInHand (doing (.forced (.doorPost 1204)) wing) (.forced (.doorPost 1204)) ∧ findRoom wing 1204 = some 0 ∧
      opInHand (doing (.forced (.moved 0 1204)) wing) (.forced (.moved 0 (roomOf wing 0).number)) ∧
      opInHand (doing (.lineUp 0) wing) (.lineUp 0) ∧ boundRoom wing bar = some 0 ∧ partOf wing 0 = some part ∧
      (roomOf wing 0).minibarNode = some bar ∧ boundRoom wing door = none := by
  unfold opInHand
  decide +kernel

/-- The wing with a candidate set held for its minibar. -/
def seen (c : Option Compartments) (m : MinibarPart) : State := setPart wing 0 (some { m with candidate := c })

/-- ReportItemChargesRemoval: first sight, the first after emptying, no change, a removal from compartment 0, a return to 5,
each confirmed. -/
theorem witness_report_item :
    opInHand (doing (.item bar 0xDE none) wing) (.item bar 0xDE none) ∧ boundRoom wing bar = some 0 ∧
      (roomOf wing 0).minibarNode = some bar ∧ part.candidate ≠ some 0xDE ∧
      partOf (seen none part) 0 = some { part with candidate := none } ∧
      opInHand (doing (.item bar 0xDF none) wing) (.item bar 0xDF none) ∧ part.candidate = some 0xDF ∧
      (0xDF : Compartments) = part.stable ∧
      opInHand (doing (.item bar 0xDE none) (seen (some 0xDE) part)) (.item bar 0xDE none) ∧
      partOf (seen (some 0xDE) part) 0 = some { part with candidate := some 0xDE } ∧ part.state ≠ .restock ∧
      (part.stable.getLsbD 0 = true ∧ (0xDE : Compartments).getLsbD 0 = false ∧ part.stocked.getLsbD 0 = true ∧
        (configOf wing).returnWindow ≠ 0 ∧ ∀ x ∈ part.charges, x.compartment ≠ 0) ∧
      (∀ d : Fin 8, d ≠ 0 → (0xDE : Compartments).getLsbD d.val = part.stable.getLsbD d.val) ∧
      partOf (seen (some 0xFF) part) 0 = some { part with candidate := some 0xFF } ∧
      (part.stable.getLsbD 5 = false ∧ (0xFF : Compartments).getLsbD 5 = true ∧
        part.charges.find? (fun y => y.compartment = 5) = some charge) := by
  unfold opInHand
  decide +kernel

/-- ReportItemChargesRemoval: a change of two compartments at once; a removal that finds an older charge of its compartment;
RESTOCK. -/
theorem witness_report_several :
    opInHand (doing (.item bar 0xFC none) (seen (some 0xFC) part)) (.item bar 0xFC none) ∧
      (reportProcessed (seen (some 0xFC) part) 0 { part with candidate := some 0xFC } 0xFC).2.2 = true ∧
      opInHand (doing (.item bar 0xDF none) (seen (some 0xDF) { part with stable := 0xFF })) (.item bar 0xDF none) ∧
      (∃ x ∈ part.charges, x.compartment = 5) ∧ part.stocked.getLsbD 5 = true ∧
      (reportProcessed (seen (some 0xDF) { part with stable := 0xFF }) 0 { part with stable := 0xFF } 0xDF).2.2 = true ∧
      partOf (seen (some 0xDE) { part with state := .restock }) 0 =
        some { part with state := .restock, candidate := some 0xDE } := by
  unfold opInHand
  decide +kernel

/-- ReportItemChargesRemoval: a return window of 0, and an item of two sets. -/
theorem witness_report_item_more :
    (configOf (wing.withStore { tables with config := { tables.config with returnWindow := 0 } })).returnWindow = 0 ∧
      opInHand (doing (.item bar 0xDE (some 0xDE)) wing) (.item bar 0xDE (some 0xDE)) ∧
      exec (.reportItemOperation .complete) (setInHand (doing (.item bar 0xDE (some 0xDE)) wing) (some (.item bar 0xDE none))) =
        .next (after (.reportItemOperation .complete) (doing (.item bar 0xDE none) wing)) := by
  refine ⟨by decide +kernel, ?_, rfl⟩
  unfold opInHand
  decide +kernel

/-- DenyRequestsChangeList: an empty list, a serial held with an earlier and a later expiry. -/
theorem witness_deny_requests :
    opFor (askOp (.denyAdd 7 5) .denyAdd wing) .denyAdd (hand (.denyAdd 7 5)) ∧ wing.store.deny.length < 1024 ∧
      denySound wing ∧ (setDeny wing [⟨7, 4⟩]).store.deny.find? (fun x => x.serial = 7) = some ⟨7, 4⟩ ∧
      (4 : Minute).toNat < (5 : Minute).toNat ∧
      opFor (askOp (.denyRemove 7) .denyRemove wing) .denyRemove (hand (.denyRemove 7)) ∧
      (∀ e ∈ wing.store.deny, e.serial ≠ 7) := by
  unfold opFor opInHand denySound
  decide +kernel

/-- DenyRequestsChangeList: a list of 1,024. -/
theorem witness_deny_full :
    1024 ≤ (wing.withStore { wing.store with deny := List.replicate 1024 ⟨8, 4⟩ }).store.deny.length ∧
      ∀ e ∈ (wing.withStore { wing.store with deny := List.replicate 1024 ⟨8, 4⟩ }).store.deny, e.serial ≠ 7 := by
  decide +kernel

/-- PruneStepRemovesExpired: an entry due at its minute, and none due. -/
theorem witness_prune :
    opInHand (doing .prune ((setDeny wing [⟨7, 4⟩]).withPruner ⟨some 4, 7⟩)) .prune ∧
      denySound (setDeny wing [⟨7, 4⟩]) ∧ ((7 : BitVec 33).toNat ≤ (7 : Serial).toNat ∧ (4 : Minute).toNat ≤ (4 : Minute).toNat ∧
        (4 : Minute) ≠ 16777215) ∧ ¬ (8 : BitVec 33).toNat ≤ (7 : Serial).toNat := by
  unfold opInHand denySound
  decide +kernel

/-- DrainChangesNoRead. -/
theorem witness_drain :
    opInHand (doing .drain (wing.withLoader { wing.loader with buffer := [.zone 3 { openAt := 0, closeAt := 600 }] })) .drain ∧
      (wing.withLoader { wing.loader with buffer := [.zone 3 { openAt := 0, closeAt := 600 }] }).loader.buffer = .zone 3 { openAt := 0, closeAt := 600 } :: [] := by
  unfold opInHand
  decide +kernel

/-- PostClampsZoneAndMovesCursor: the last index of the window and one before it; each other table; a rate code of 4. -/
theorem witness_post :
    examining (loading .zone 1 (.at 1) [[5, 0xA0, 0, 1]] wing)
        { table := .zone, first := 0, last := 1, wrap := false }
        { entries := [[5, 0xA0, 0, 1]], taken := 0, refused := 0, firstRefusal := none } 1 [5, 0xA0, 0, 1] [] ∧
      (loading .zone 1 (.at 0) [[5, 0xA0, 0, 1], [0, 1, 0, 2]] wing).loader.cursor = .at (0 : Fin 16).val ∧
      (loading .zone 1 (.at 0) [[5, 0xA0, 0, 1], [0, 1, 0, 2]] wing).trunk.inHand =
        some (hand (.load [5, 0xA0, 0, 1, 0, 1, 0, 2])) ∧
      (let e : List Byte := [0x10, 0xE1, 5, 0xA0, 4, 0xB0, 10, 1, 2, 3, 3];
        e.length = 11 ∧ ∀ k, k < 4 → 1 ≤ (e.getD (7 + k) 0).toNat ∧ (e.getD (7 + k) 0).toNat ≤ 3) ∧
      (let e : List Byte := [0x10, 0xE1, 5, 0xA0, 4, 0xB0, 10, 1, 2, 3, 4];
        e.length = 11 ∧ 3 < (e.getD (7 + 3) 0).toNat) ∧
      (([0x1F, 5, 40, 1, 104, 1] : List Byte).length = 6 ∧ (([0x1F, 5, 40, 1, 104, 1] : List Byte).getD 5 0).toNat ≤ 1) ∧
      ([50, 2, 0x58] : List Byte).length = 3 ∧ ([4, 0xB0] : List Byte).length = 2 := by
  unfold examining
  decide +kernel

/-- PostRestartsNodeOrRefuses: the last entry of a LOAD, of each table and past the window. -/
theorem witness_post_last :
    examining (loading .door 127 (.at 108) [[0, 0, 0, 0, 0]] wing)
        { table := .door, first := 0, last := 127, wrap := false }
        { entries := [[0, 0, 0, 0, 0]], taken := 0, refused := 0, firstRefusal := none } (108 : Slot).val [0, 0, 0, 0, 0] [] ∧
      examining (loading .room 127 (.at 0) [roomBytesOf 1204 109 plainRest] wing)
        { table := .room, first := 0, last := 127, wrap := false }
        { entries := [roomBytesOf 1204 109 plainRest], taken := 0, refused := 0, firstRefusal := none } (0 : Slot).val
        (roomBytesOf 1204 109 plainRest) [] ∧
      (loading .door 127 .ended [[0, 0, 0, 0, 0]] wing).loader.cursor = .ended := by
  unfold examining
  decide +kernel

/-- R178, R211: the reply of a LOAD of one entry taken at the last index, of one refused RANGE at index 108, and of one past the
window. -/
theorem test_load_replies :
    (after .post (loading .door 108 (.at 108) [[0, 0, 0, 0, 0]] wing)).trunk.outQueue =
        [.reply { tag := 9, code := 3, answer := .done [0, 1, 0, 0, 0xFF, 0xFF, 0xFF, 0xFF, 0] }] ∧
      (after .post (loading .door 127 (.at 108) [[9, 0, 0, 0, 0]] wing)).trunk.outQueue =
        [.reply { tag := 9, code := 3, answer := .done [0, 0, 0, 1, 0, 109, 0, 108, 6] }] ∧
      (after .post (loading .door 127 .ended [[0, 0, 0, 0, 0]] wing)).trunk.outQueue =
        [.reply { tag := 9, code := 3, answer := .done [0, 0, 0, 1, 0xFF, 0xFF, 0xFF, 0xFE, 6] }] := by decide +kernel

/-- PostRestartsNodeOrRefuses: DOOR index 108 to each kind and to none, with a session's encoder and with a minibar bound to
its room; and past the window. -/
theorem witness_post_door :
    examining (loading .door 127 (.at 108) [[0, 0, 0, 0, 0], [1, 4, 180, 15, 7]] wing)
        { table := .door, first := 0, last := 127, wrap := false }
        { entries := [[0, 0, 0, 0, 0], [1, 4, 180, 15, 7]], taken := 0, refused := 0, firstRefusal := none }
        (108 : Slot).val [0, 0, 0, 0, 0] [[1, 4, 180, 15, 7]] ∧
      nodeAt 108 = door ∧ nodeAt 110 = desk ∧ nodeAt 109 = bar ∧ boundRoom wing bar = some 0 ∧
      endable (opened (session .awaitBlank) wing) desk = [0] ∧ (doorOf wing desk).kind = .encoder ∧
      (BitVec.ofNat 16 (twoAt [1, 4, 180, 15, 7] 1) ≠ 0 ∧ (([1, 4, 180, 15, 7] : List Byte).getD 3 0).toNat < 16 ∧
        (([1, 4, 180, 15, 7] : List Byte).getD 4 0).toNat < 8) ∧
      BitVec.ofNat 16 (twoAt [3, 0, 0, 0, 0] 1) = 0 ∧ ¬ (([2, 0, 0, 16, 7] : List Byte).getD 3 0).toNat < 16 ∧
      4 < (([5, 0, 0, 0, 0] : List Byte).getD 0 0).toNat ∧
      (loading .door 127 .ended [[0, 0, 0, 0, 0], [0, 0, 0, 0, 0]] wing).loader.cursor = .ended ∧
      (lineOf (exchanging (.command 12 (.grant 50) false .live) none 3 (pendingFor door (.grant 50) wing)) 3).exchange ≠
        none := by
  unfold examining
  decide +kernel

/-- PostRestartsNodeOrRefuses: ROOM slot 0 kept without and with a restore part, its minibar moved, removed once nothing is
owed; slot 1 given a room; slot 0 given another; the three refusals. -/
theorem witness_post_room :
    examining (posting 0 (roomBytesOf 1204 109 restoreRest) wing)
        { table := .room, first := 0, last := 127, wrap := false }
        { entries := [roomBytesOf 1204 109 restoreRest, roomBytesOf 1204 109 restoreRest], taken := 0, refused := 0,
          firstRefusal := none }
        (0 : Slot).val (roomBytesOf 1204 109 restoreRest) [roomBytesOf 1204 109 restoreRest] ∧
      (roomBytesOf 1204 109 restoreRest).length = 19 ∧ nodeNumbered 109 = bar ∧
      refusalOf (posting 0 (roomBytesOf 1204 109 restoreRest) wing) = none ∧
      refusalOf (posting 0 (roomBytesOf 1204 109 plainRest) wing) = none ∧
      refusalOf (posting 0 (roomBytesOf 1204 5 plainRest) wing) = none ∧
      refusalOf (posting 0 (roomBytesOf 1204 128 plainRest)
        (setPart wing 0 (some { part with tally := 0, charges := [] }))) = none ∧
      refusalOf (posting 1 (roomBytesOf 1205 5 plainRest) wing) = none ∧
      refusalOf (posting 0 (roomBytesOf 1205 128 plainRest) (opened (session .awaitBlank) wing)) = none ∧
      (roomOf wing 0).number = 1204 ∧ (roomOf wing 1).number ≠ 1204 ∧ part.tally ≠ 0 ∧
      ctxOfRoom (opened (session .awaitBlank) wing) 1204 = some 0 := by
  unfold examining
  decide +kernel

/-- LoadWindowAndLoadTaken: a window to the last ZONE index, one past it, and one reversed. -/
theorem witness_load_window :
    asked (ask (.loadWindow 4 0 15 1) wing) (hand (.loadWindow 4 0 15 1)) ∧ tableOf 4 = some .zone ∧
      (15 : Half).toNat < tableSize .zone ∧ tableSize .zone ≤ (16 : Half).toNat ∧ (1 : Half).toNat < (2 : Half).toNat ∧
      tableOf 8 = none := by
  unfold asked
  decide +kernel

/-- LoadWindowAndLoadTaken: no window, whole entries, a remainder, an empty body. -/
theorem witness_load :
    asked (ask (.load [1, 2, 3, 4]) wing) (hand (.load [1, 2, 3, 4])) ∧ wing.loader.window = none ∧ wing.loader.load = none ∧
      ([1, 2, 3, 4] : List Byte).length % entryBytes .zone = 0 ∧ ([1, 2, 3, 4, 5] : List Byte).length % entryBytes .zone ≠ 0 := by
  unfold asked
  decide +kernel

/-- ReadsAnswerWithoutChange: counts 0, 1, 8 and 9; ZONE indexes 15 and 16; every table's first entry, and ROOM's with a
minibar part; the deny list; STATUS. -/
theorem witness_read :
    asked (ask (.readEntries 4 16 1) wing) (hand (.readEntries 4 16 1)) ∧ tableSize .zone ≤ (16 : Half).toNat ∧
      opFor (askOp (.readEntries 4 15 1) .readEntries wing) .readEntries (hand (.readEntries 4 15 1)) ∧
      (15 : Half).toNat < 16 ∧ 1 ≤ (1 : Byte).toNat ∧ (8 : Byte).toNat ≤ 8 ∧ 8 < (9 : Byte).toNat ∧
      opFor (askOp (.readEntries 3 0 8) .readEntries wing) .readEntries (hand (.readEntries 3 0 8)) ∧
      (tableOf 1 = some .config ∧ tableOf 2 = some .door ∧ tableOf 3 = some .room ∧ tableOf 5 = some .profile ∧
        tableOf 6 = some .cls ∧ tableOf 7 = some .price) ∧
      (∀ tb ∈ [TableId.config, .door, .room, .zone, .profile, .cls, .price], (0 : Half).toNat < tableSize tb) ∧
      opFor (askOp (.readEntries 8 0 8) .readEntries wing) .readEntries (hand (.readEntries 8 0 8)) ∧
      opFor (askOp .status .status wing) .status (hand .status) := by
  unfold asked opFor opInHand
  decide +kernel

/-- JournalAppendsAndPush: fills 1,022, 1,023 and 1,024; codes 1 and 2. -/
theorem witness_journal :
    (List.replicate 1022 (stampedRecord wing .doorHeld)).length ≤ 1022 ∧
      1023 ≤ (List.replicate 1023 (stampedRecord wing .doorHeld)).length ∧
      ((List.replicate 1023 (stampedRecord wing .doorHeld) ++ [gapFor (stampedRecord wing .doorHeld)]).getLast?.map (·.detail)) =
        some (.gap 1) ∧
      asked (ask (.journalPush 1) wing) (hand (.journalPush 1)) ∧ asked (ask (.journalPush 2) wing) (hand (.journalPush 2)) := by
  unfold asked
  decide +kernel

/-- StepRunsFrontCommand: a command waiting, and none. -/
theorem witness_step_front :
    (wing.withPending [.go, .vddFall]).pending = .go :: [.vddFall] ∧ wing.pending = [] := by
  decide +kernel

/-- SuppliesAndResets: VDD present and absent, the backup kept and lost. -/
theorem witness_supplies :
    wing.pins.vdd = true ∧ (wing.withPins { wing.pins with vdd := false }).pins.vdd = false ∧ wing.pins.vbakLost = false ∧
      (wing.withPins { wing.pins with vdd := false, vbakLost := true }).pins.vbakLost = true := by
  decide +kernel

/-- StartUpChangesPhase: CHECKING on path KEEP, on path CLEAR, and after RESTART COLD. -/
theorem witness_checking :
    (phaseIs .checking wing).working = true ∧ (phaseIs .checking wing).startup.phase = .checking ∧
      wing.pruner.minute = none ∧ wing.time.minuteEvents = [] ∧ wing.port.inHand = none ∧ wing.startup.keep = true ∧
      (∀ i, MinibarWork.lineUp i ∉ wing.minibar) ∧
      (wing.withStartup { wing.startup with phase := .checking, keep := false, cause := .cold }).startup.cause = .cold ∧
      (wing.withStartup { wing.startup with phase := .checking, keep := false }).startup.cause ≠ .cold := by
  decide +kernel

/-- R203: the clear leaves a line's mode and its exchange, and the pending privacy writes, as they are; a command goes. -/
theorem test_checking_clear :
    let s := exchanging (.poll 12) none 3 (pendingFor door .defer (line3 .decide
      (deadboltReport (wing.withStartup { wing.startup with phase := .checking, keep := false }) door true)))
    let t := after .checkingEnd s
    t.startup.phase = .awaitLoad ∧ (nodeOf t door).command = none ∧ (lineOf t 3).fifo = [] ∧
      (lineOf t 3).exchange.map (·.kind) = some (.poll 12) ∧ t.tracker.writes = s.tracker.writes ∧
      t.tracker.writes.length = 1 := by decide +kernel

/-- StartUpChangesPhase: GO in AWAIT_LOAD, GO in RUN, RESTART with codes 1 and 2. -/
theorem witness_go :
    asked (ask .go (phaseIs .awaitLoad wing)) (hand .go) ∧ (phaseIs .awaitLoad wing).time.clock.cond ≠ .unset ∧
      asked (ask .go wing) (hand .go) ∧ wing.startup.phase ≠ .awaitLoad ∧
      asked (ask (.restart 1) wing) (hand (.restart 1)) ∧ (1 : Byte).toNat < 2 ∧
      asked (ask (.restart 2) wing) (hand (.restart 2)) ∧ 2 ≤ (2 : Byte).toNat := by
  unfold asked
  decide +kernel

/-- StopWorkRunsInSteps: the pin not taken; taken and not begun; at its last steps. -/
theorem witness_supply_fail :
    wing.ticking = true ∧ wing.startup.failTaken = false ∧
      ((wing.withStartup { wing.startup with failTaken := true }).ticking = true ∧ wing.startup.stopWork ≠ .supplyFail) ∧
      ((stopAt .supplyFail .marker wing).startup.stopWork = .supplyFail ∧ (stopAt .supplyFail .marker wing).ticking = true) ∧
      ((stopAt .supplyFail .finish wing).trunk.upTx = none ∧ (stopAt .supplyFail .finish wing).trunk.downTx = none ∧
        ∀ l, (lineOf (stopAt .supplyFail .finish wing) l).exchange = none) ∧
      (lineOf (exchanging .call none 3 (stopAt .supplyFail .finish wing)) 3).exchange ≠ none := by
  decide +kernel

/-- StopWorkRunsInSteps: the steps both stop works share. -/
theorem witness_stop_steps :
    (stopAt .supplyFail .operation wing).startup.failTaken = true ∧ (stopAt .supplyFail .operation wing).port.inHand = none ∧
      (doing .prune (stopAt .supplyFail .operation wing)).port.inHand ≠ none ∧
      (stopAt .warm .drain wing).loader.buffer = [] ∧ (stopAt .warm .drain wing).serving = true ∧
      (stopAt .warm .drain wing).startup.restart = some .warm ∧ (stopAt .warm .drain wing).startup.failTaken = false ∧
      (stopAt .warm .drain wing).startup.stopWork ≠ .none ∧
      (stopAt .supplyFail .charges wing).startup.stopStep = .charges ∧
      (partOf (stopAt .supplyFail .charges wing) 0 = some part ∧ part.charges ≠ []) ∧
      ((partOf (setPart (stopAt .warm .charges wing) 0 none) 0) = none ∧ ∀ i, i ≠ 0 → partOf wing i = none) := by
  decide +kernel

/-- StopWorkRunsInSteps: no session to close; one burned; one decided; one left in AWAIT_BLANK by the supply fail and
closed by the restart. -/
theorem witness_stop_sessions :
    (∀ k, (ctxOf (stopAt .supplyFail .sessions wing) k).state = .free) ∧
      (let s := opened { session .writing with gen := some 38 } (stopAt .supplyFail .sessions wing);
        (ctxOf s 0).state = .writing ∧ (ctxOf s 0).outcome = none ∧ (ctxOf s 0).stay.cls = 1 ∧ s.serving = true ∧
          findRoom s (ctxOf s 0).stay.room = some 0 ∧ (38 : Gen) = (dynOf s 0).issued + 1 ∧ (dynOf s 0).occupied = true) ∧
      (ctxOf (opened { session .writing with outcome := some .done } (stopAt .warm .sessions wing)) 0).outcome = some .done ∧
      (ctxOf (opened (session .awaitBlank) (stopAt .warm .sessions wing)) 0).state ≠ .free ∧
      (∀ k, (ctxOf (opened (session .awaitBlank) (stopAt .supplyFail .sessions wing)) k).state ≠ .writing) := by
  decide +kernel

/-- StopWorkRunsInSteps: RESTART_BEGIN with none answered, WARM at its first and last steps, COLD. -/
theorem witness_restart_begin :
    wing.serving = true ∧ wing.startup.restart = none ∧ (stopAt .none .operation wing).startup.restart = some .warm ∧
      (stopAt .none .operation wing).startup.stopWork = .none ∧ (stopAt .warm .marker wing).startup.stopStep = .marker ∧
      (wing.withStartup { wing.startup with restart := some .cold }).startup.restart = some .cold := by
  decide +kernel

/-- FramesAreRouted: a good STATUS for wing 3, one not good, and full queues. -/
theorem witness_frames :
    wing.active = true ∧ wing.stopping = false ∧
      (byteSum ([1, 3, 31, 1, BitVec.ofNat 8 ([1] : List Byte).length] ++ [1]) + (0xFF : Byte).toNat * 256 + (0xD9 : Byte).toNat) % 65536 = 65535 ∧
      ¬ (byteSum ([1, 3, 31, 1, BitVec.ofNat 8 ([1] : List Byte).length] ++ [1]) + (0xFF : Byte).toNat * 256 + (0xD8 : Byte).toNat) % 65536 = 65535 ∧
      wing.trunk.chain.map Fin.val = some (3 : Byte).toNat ∧ wing.trunk.requests.length < 4 ∧
      4 ≤ (List.replicate 4 ({ kind := .request, dest := 3, source := 31, tag := 1, body := [] } : Frame)).length := by
  decide +kernel

/-- RequestsAreTaken: a unicast request, a broadcast, a pass-down; a form and a phase that refuse. -/
theorem witness_request_take :
    (waiting .request 3 [1] wing).working = true ∧ (waiting .request 3 [1] wing).trunk.inHand = none ∧
      (waiting .request 3 [1] wing).startup.restart = none ∧
      replyCount (waiting .request 3 [1] wing).trunk.outQueue + (waiting .request 3 [1] wing).trunk.reserved < 4 ∧
      parseRequest [1] = some .status ∧ parseRequest [18] = none ∧ parseRequest [13, 1] = some (.setOverride 1) ∧
      requestCode (.setOverride 1) = 13 ∧ turnedAway .checking .go .busy ∧ turnedAway .run .go (.refused .phase) ∧
      turnedAway .awaitLoad (.restart 0) (.refused .phase) ∧ ¬ turnedAway .awaitLoad (.restart 1) (.refused .phase) ∧
      (waiting .passDown 3 [3, 12, 65] wing).trunk.requests ≠ [] := by
  unfold turnedAway
  decide +kernel

/-- RequestsAreTaken: the reply queue taken, and a RESTART answered. -/
theorem witness_request_waits :
    4 ≤ replyCount wing.trunk.outQueue + (wing.withTrunk { wing.trunk with reserved := 4 }).trunk.reserved ∧
      (wing.withStartup { wing.startup with restart := some .cold }).startup.restart ≠ none := by
  decide +kernel

/-- RequestsAreTaken: a PASS for a TRANSPARENT line, a DECIDE line, line 4, address 32, no character. -/
theorem witness_pass_down :
    ((ask (.passDown 3 12 [65]) (line3 .transparent wing)).working = true ∧ (lineOf (line3 .transparent wing) 3).mode = .transparent ∧
        configured (doorOf wing door) = true ∧ (nodeOf wing door).command = none ∧
        ({ hand (.passDown 3 12 [65]) with unicast := false }).unicast = false) ∧
      (lineOf wing 3).mode ≠ .transparent ∧ 4 ≤ (4 : Byte).toNat ∧ 32 ≤ (32 : Byte).toNat ∧
      (3 : Byte).toNat = door.line.val ∧ (12 : Byte).toNat = door.addr.val := by
  decide +kernel

/-- RequestsAreTaken: a PASS for a node with another command pending: an older PASS, a HOLD_OPEN that stays, and the PREPARE
of an open session. -/
theorem witness_pass_replaces :
    (nodeOf (line3 .transparent (pendingFor door (.pass [1]) wing)) door).command = some (.pass [1]) ∧
      (nodeOf (line3 .transparent (pendingFor door .holdOpen wing)) door).command = some .holdOpen ∧
      replacedSession (line3 .transparent (pendingFor desk .prepare (opened (session .awaitBlank) wing))) desk (.pass [1]) =
        [0] := by
  decide +kernel

/-- TransmittersSend: nothing being sent, with each source's frame waiting; an urgent and a trickle offer; a frame being sent. -/
theorem witness_upstream :
    wing.active = true ∧ wing.stopping = false ∧ wing.trunk.upTx = none ∧ wing.trunk.notices = [] ∧
      (pushNotice wing (.phase .run)).trunk.notices ≠ [] ∧ wing.journal.push = true ∧ wing.journal.batch = none ∧
      896 ≤ (List.replicate 896 (stampedRecord wing .doorHeld)).length ∧
      (List.replicate 895 (stampedRecord wing .doorHeld)).length < 896 ∧
      (wing.withTrunk { wing.trunk with relayUp := [relay] }).trunk.relayUp = relay :: [] ∧
      (fillReply wing 1 1 .busy).trunk.outQueue ≠ [] ∧
      (wing.withTrunk { wing.trunk with upTx := some (.journal, []) }).trunk.upTx = some (.journal, []) ∧
      (wing.withJournal { wing.journal with batch := some 8 }).journal.batch = some 8 := by
  decide +kernel

/-- TransmittersSend: a frame to relay down, one being sent, and downstream ABSENT. -/
theorem witness_downstream :
    wing.active = true ∧ (wing.withTrunk { wing.trunk with relayDown := [relay] }).trunk.relayDown = relay :: [] ∧
      wing.trunk.downTx = none ∧ wing.trunk.downAbsent = false ∧
      (wing.withTrunk { wing.trunk with downTx := some [] }).trunk.downTx ≠ none ∧
      (wing.withTrunk { wing.trunk with downAbsent := true }).trunk.downAbsent = true := by
  decide +kernel

/-- PortGrantsInOrder: the pruner alone waits, its pass begun. -/
theorem witness_port_grant :
    (let s := settle (wing.withPruner ⟨some 4, 0⟩); s.serving = true ∧ s.port.inHand = none ∧ s.stopping = false ∧
        s.loader.load = none ∧ s.port.waiting = [] ++ requesterOf .prune :: [] ∧ nextWork s .prune) := by
  unfold nextWork
  decide +kernel

/-- PortGrantsInOrder: a grant that takes the operation in hand, and one in hand. -/
theorem witness_port_whole :
    (after (commandFor .prune .grant) (settle (wing.withPruner ⟨some 4, 0⟩))).port.inHand ≠ none ∧
      (doing .prune wing).port.inHand ≠ none := by
  decide +kernel

/-- FormatsRoundTrip: entries at the ends of their ranges. -/
theorem witness_formats :
    frameKind (frameCode (.other 7)) = .other 7 ∧ frameKind (frameCode .passUp) = .passUp ∧
      (parseDoor [1, 4, 180, 15, 7]).isSome = true ∧ ((1439 : Half).toNat ≤ 1439 ∧ (6000 : Half).toNat ≤ 6000 ∧
        1 ≤ (1 : Byte).toNat ∧ (250 : Byte).toNat ≤ 250 ∧ 10 ≤ (10 : Half).toNat) := by
  decide +kernel

/-- StepsKeepSpans, StepsKeepDenyList, StepsKeepJournal, StepsKeepQueues, StepsKeepSessions, StepsKeepDeadlines, StepsKeepLines
and OnlyTheirEventsMoveThem: a state that holds every invariant, and a step it takes. -/
theorem witness_sound :
    Sound wing ∧ step (wing.withPending [.vddFall]) = .next (after .vddFall wing) := by
  refine ⟨⟨?_, ?_, ?_, ?_, ?_, ?_, ?_, ?_, ?_⟩, rfl⟩
  · unfold spansSound spanLaw; decide +kernel
  · unfold denySound; decide +kernel
  · unfold journalSound; decide +kernel
  · unfold deadlinesSound; decide +kernel
  · unfold queuesSound; decide +kernel
  · unfold releaseSound; decide +kernel
  · unfold heldSound; decide +kernel
  · unfold fifoSound; decide +kernel
  · unfold sessionsSound; decide +kernel

end Sys2Proof.Tests
end

section
/-!
The deadline list under the shared operations (01_wing_time.md, R11 to R15): what one arming or cancellation keeps of it, and
then each operation of the part that arms or cancels.
-/

namespace Sys2Proof.Machine

/-! ### The invariant in two halves -/

/-- No two entries are of one node and kind (R11). -/
def oneEach (l : List Deadline) : Prop := (l.map fun d => (d.node, d.kind)).Nodup

/-- The entries stand in order of remaining distance, each distance 1 to 6,000 (R11, R12). -/
def inOrder (tick : Tick) (l : List Deadline) : Prop :=
  l.Pairwise (fun a b => distance tick a.due ≤ distance tick b.due) ∧
    ∀ d ∈ l, 1 ≤ distance tick d.due ∧ distance tick d.due ≤ 6000

theorem deadlinesSound_iff (s : State) :
    deadlinesSound s ↔
      oneEach s.time.deadlines ∧ (s.stopping = false → inOrder s.time.tick s.time.deadlines) := Iff.rfl

/-- From Time Unit `a` to `b` the tick counter stands, and the deadline list keeps both halves of its invariant. -/
structure DeadlinesKept (a b : TimeUnit) : Prop where
  tick : b.tick = a.tick
  one : oneEach a.deadlines → oneEach b.deadlines
  order : inOrder a.tick a.deadlines → inOrder a.tick b.deadlines

@[simp] theorem DeadlinesKept.same (a : TimeUnit) : DeadlinesKept a a := ⟨rfl, id, id⟩

theorem DeadlinesKept.step {a b c : TimeUnit} (h : DeadlinesKept a b) (g : DeadlinesKept b c) : DeadlinesKept a c := by
  refine ⟨g.tick.trans h.tick, g.one ∘ h.one, fun ha => ?_⟩
  have := g.order (h.tick ▸ h.order ha)
  rwa [h.tick] at this

/-! ### Arming and cancelling (R12, R13) -/

theorem oneEach.filter {l : List Deadline} (h : oneEach l) (p : Deadline → Bool) : oneEach (l.filter p) :=
  h.sublist (List.filter_sublist.map _)

theorem inOrder.filter {tick : Tick} {l : List Deadline} (h : inOrder tick l) (p : Deadline → Bool) :
    inOrder tick (l.filter p) :=
  ⟨h.1.filter _, fun d hd => h.2 d (List.mem_of_mem_filter hd)⟩

/-- Cancelling keeps the list (R13). -/
theorem filter_keepsDeadlines (s : State) (p : Deadline → Bool) :
    DeadlinesKept s.time (setDeadlines s (s.time.deadlines.filter p)).time :=
  ⟨rfl, fun h => h.filter p, fun h => h.filter p⟩

/-- An entry of a node and kind of which the list holds none may be inserted. -/
theorem oneEach_insertDeadline {tick : Tick} {d : Deadline} {l : List Deadline} (h : oneEach l)
    (hn : ∀ e ∈ l, (e.node, e.kind) ≠ (d.node, d.kind)) : oneEach (insertDeadline tick d l) := by
  obtain ⟨before, after, rfl, hi, -, -⟩ := insertDeadline_split tick d l
  have hp : (before ++ d :: after).Perm (d :: (before ++ after)) := List.perm_middle
  unfold oneEach at h ⊢
  rw [hi, (hp.map _).nodup_iff, List.map_cons, List.nodup_cons]
  refine ⟨fun hm => ?_, h⟩
  obtain ⟨e, he, heq⟩ := List.mem_map.1 hm
  exact hn e he heq

theorem inOrder_insertDeadline {tick : Tick} {d : Deadline} {l : List Deadline} (h : inOrder tick l)
    (hd : 1 ≤ distance tick d.due ∧ distance tick d.due ≤ 6000) : inOrder tick (insertDeadline tick d l) := by
  refine ⟨insertDeadline_sorted _ _ _ h.1, fun x hx => ?_⟩
  rcases (mem_insertDeadline _ _ _ _).1 hx with rfl | hx
  · exact hd
  · exact h.2 x hx

/-- A due tick that has been reached is taken as the next tick: whatever is armed lies 1 to 6,000 ahead (R12). -/
theorem armed_distance (tick due : Tick) :
    1 ≤ distance tick (if reached (distance tick due) then tick + 1 else due) ∧
      distance tick (if reached (distance tick due) then tick + 1 else due) ≤ 6000 := by
  split
  · simp [distance]
  · next h =>
    have hm : Config.maxDistance = 6000 := rfl
    simp only [reached, Bool.or_eq_true, decide_eq_true_eq, not_or] at h
    omega

/-- Arming keeps the list (R12). -/
@[simp] theorem armAt_keepsDeadlines {a : TimeUnit} {s : State} (n : Node) (k : DeadlineKind) (due : Tick)
    (h : DeadlinesKept a s.time) : DeadlinesKept a (armAt s n k due).time := by
  refine h.step ?_
  rcases hb : belongs k (doorOf s n).kind with _ | _
  · rw [armAt_other _ _ _ _ hb]; exact .same _
  · refine ⟨by simp, fun h1 => ?_, fun h2 => ?_⟩
    · rw [armAt_deadlines _ _ _ _ hb]
      refine oneEach_insertDeadline (h1.filter _) fun e he => ?_
      simpa [imp_iff_not_or] using (List.mem_filter.1 he).2
    · rw [armAt_deadlines _ _ _ _ hb]
      exact inOrder_insertDeadline (h2.filter _) (armed_distance _ _)

@[simp] theorem arm_keepsDeadlines {a : TimeUnit} {s : State} (n : Node) (k : DeadlineKind) (d : Tick)
    (h : DeadlinesKept a s.time) : DeadlinesKept a (arm s n k d).time := armAt_keepsDeadlines _ _ _ h

@[simp] theorem cancel_keepsDeadlines {a : TimeUnit} {s : State} (n : Node) (k : DeadlineKind) (h : DeadlinesKept a s.time) :
    DeadlinesKept a (cancel s n k).time := h.step (filter_keepsDeadlines _ _)

@[simp] theorem cancelNode_keepsDeadlines {a : TimeUnit} {s : State} (n : Node) (h : DeadlinesKept a s.time) :
    DeadlinesKept a (cancelNode s n).time := h.step (filter_keepsDeadlines _ _)

@[simp] theorem cancelDoors_keepsDeadlines {a : TimeUnit} {s : State} (h : DeadlinesKept a s.time) :
    DeadlinesKept a (cancelDoors s).time := h.step (filter_keepsDeadlines _ _)

/-- A fold whose every step keeps the deadlines keeps them. -/
theorem foldl_keepsDeadlines {β : Type} {a : TimeUnit} (f : State → β → State)
    (hf : ∀ s b, DeadlinesKept a s.time → DeadlinesKept a (f s b).time) (l : List β) {s : State}
    (h : DeadlinesKept a s.time) : DeadlinesKept a (l.foldl f s).time :=
  foldl_holds (fun s => DeadlinesKept a s.time) f hf l s h

/-! ### Each operation that arms or cancels -/

section
variable {a : TimeUnit} {s : State}

/-! Sessions and commands (R42, R112, R115) -/

@[simp] theorem endSession_keepsDeadlines (k : Fin 2) (r : FailReason) (h : DeadlinesKept a s.time) :
    DeadlinesKept a (endSession s k r).time := by
  have hc : DeadlinesKept a (if r = .timeout then s else cancel s (ctxOf s k).node .issueTimeout).time := by
    split <;> simp [h]
  unfold endSession
  dsimp only
  repeat' split
  all_goals simp_all

@[simp] theorem endNodeSession_keepsDeadlines (n : Node) (r : FailReason) (h : DeadlinesKept a s.time) :
    DeadlinesKept a (endNodeSession s n r).time := by
  unfold endNodeSession
  split <;> simp [h]

@[simp] theorem endRoomSession_keepsDeadlines (room : Half) (r : FailReason) (h : DeadlinesKept a s.time) :
    DeadlinesKept a (endRoomSession s room r).time := by
  unfold endRoomSession
  split <;> simp [h]

@[simp] theorem issueDrop_keepsDeadlines (n : Node) (c : Command) (h : DeadlinesKept a s.time) :
    DeadlinesKept a (issueDrop s n c).time := by
  unfold issueDrop
  split
  · exact h
  · split <;> simp [h]

@[simp] theorem queueCommand_keepsDeadlines (n : Node) (c : Command) (h : DeadlinesKept a s.time) :
    DeadlinesKept a (queueCommand s n c).time := by
  unfold queueCommand
  dsimp only
  repeat' split
  all_goals simp [h]

/-! Doors (R90 to R95) -/

@[simp] theorem contactReport_keepsDeadlines (n : Node) (v : Bool) (h : DeadlinesKept a s.time) :
    DeadlinesKept a (contactReport s n v).time := by
  unfold contactReport
  split
  · unfold contactOpen armHeld
    dsimp only
    split <;> simp [h]
  · unfold contactClosed
    dsimp only
    split <;> simp [h]

@[simp] theorem grantAccepted_keepsDeadlines (n : Node) (h : DeadlinesKept a s.time) :
    DeadlinesKept a (grantAccepted s n).time := by
  unfold grantAccepted armRelock
  split <;> simp [h]

@[simp] theorem releaseEndAccepted_keepsDeadlines (n : Node) (h : DeadlinesKept a s.time) :
    DeadlinesKept a (releaseEndAccepted s n).time := by
  unfold releaseEndAccepted armHeld
  split
  · split <;> simp [h]
  · exact h

@[simp] theorem acceptedByDoor_keepsDeadlines (n : Node) (c : Command) (h : DeadlinesKept a s.time) :
    DeadlinesKept a (acceptedByDoor s n c).time := by
  unfold acceptedByDoor holdOpenAccepted
  split <;> simp [h]

/-! Lines and levels (R49, R51, R98) -/

@[simp] theorem entryEffect_keepsDeadlines (n : Node) (h : DeadlinesKept a s.time) :
    DeadlinesKept a (entryEffect s n).time := by
  have hs : DeadlinesKept a (if (nodeOf (unqueue s n) n).command = some .holdOpen then unqueue s n
      else setLine (unqueue s n) n.line (dropCommand (lineOf (unqueue s n) n.line) n.addr .dropped)).time := by
    split <;> simp [h]
  unfold entryEffect
  dsimp only
  split <;> simp [hs]

@[simp] theorem entryEffects_keepsDeadlines (l : LineNo) (h : DeadlinesKept a s.time) :
    DeadlinesKept a (entryEffects s l).time := foldl_keepsDeadlines _ (fun _ b => entryEffect_keepsDeadlines b) _ h

@[simp] theorem queueDoors_keepsDeadlines (c : Command) (h : DeadlinesKept a s.time) :
    DeadlinesKept a (queueDoors s c).time :=
  foldl_keepsDeadlines _ (fun _ i => queueCommand_keepsDeadlines (nodeAt i) c) _ h

@[simp] theorem enterRelease_keepsDeadlines (h : DeadlinesKept a s.time) : DeadlinesKept a (enterRelease s).time := by
  unfold enterRelease
  simp [h]

@[simp] theorem recomputeLevel_keepsDeadlines (h : DeadlinesKept a s.time) :
    DeadlinesKept a (recomputeLevel s).time := by
  unfold recomputeLevel leaveRelease
  dsimp only
  repeat' split
  all_goals simp [h]

@[simp] theorem recomputeLevel_withOverride_keepsDeadlines (o : OverrideUnit) (h : DeadlinesKept a s.time) :
    DeadlinesKept a (recomputeLevel (s.withOverride o)).time := recomputeLevel_keepsDeadlines h

@[simp] theorem setOverride_keepsDeadlines (b : Byte) (h : DeadlinesKept a s.time) :
    DeadlinesKept a (setOverride s b).time := by
  unfold setOverride answerLevels
  dsimp only
  repeat' split
  all_goals simp [h]

@[simp] theorem toHeld_keepsDeadlines (l : LineNo) (h : DeadlinesKept a s.time) : DeadlinesKept a (toHeld s l).time := by
  unfold toHeld
  simp [h]

@[simp] theorem takeMode_keepsDeadlines (l : LineNo) (m : RequestedMode) (tag : Byte) (h : DeadlinesKept a s.time) :
    DeadlinesKept a (takeMode s l m tag).time := by
  have holding : ∀ b, DeadlinesKept a (enterHolding s l b tag).time := fun b => by
    unfold enterHolding
    dsimp only
    split <;> simp [h]
  unfold takeMode
  split
  · cases m <;> simp [takeFromDecide, modeAtOnce, h, holding]
  · cases m <;> simp [takeFromTransparent, modeAtOnce, h, holding]
  · simp [h]
  · simp [h]

@[simp] theorem lineMode_keepsDeadlines (line mode tag : Byte) (h : DeadlinesKept a s.time) :
    DeadlinesKept a (lineMode s line mode tag).time := by
  unfold lineMode
  repeat' split
  all_goals simp [h]

@[simp] theorem passDown_keepsDeadlines (line addr : Byte) (chars : List Byte) (h : DeadlinesKept a s.time) :
    DeadlinesKept a (passDown s line addr chars).time := by
  unfold passDown
  repeat' split
  all_goals simp [h]

/-! Answers and ends of exchanges (R37 to R44) -/

@[simp] theorem handPresent_keepsDeadlines (n : Node) (g : Grant) (c : Capture) (h : DeadlinesKept a s.time) :
    DeadlinesKept a (handPresent s n g c).time := by
  unfold handPresent handPresentation
  repeat' split
  all_goals simp [h]

@[simp] theorem writtenReport_keepsDeadlines (n : Node) (h : DeadlinesKept a s.time) :
    DeadlinesKept a (writtenReport s n).time := by
  unfold writtenReport
  dsimp only
  repeat' split
  all_goals simp [h]

@[simp] theorem writeFailedReport_keepsDeadlines (n : Node) (h : DeadlinesKept a s.time) :
    DeadlinesKept a (writeFailedReport s n).time := by
  unfold writeFailedReport
  repeat' split
  all_goals simp [h]

@[simp] theorem encoderStatus_keepsDeadlines (n : Node) (b : Byte) (h : DeadlinesKept a s.time) :
    DeadlinesKept a (encoderStatus s n b).time := by
  unfold encoderStatus
  dsimp only
  split <;> simp [h]

@[simp] theorem handEvent_keepsDeadlines (n : Node) (kind : NodeKind) (event : NodeEvent) (status : Byte)
    (c : Capture) (h : DeadlinesKept a s.time) : DeadlinesKept a (handEvent s n kind event status c).time := by
  cases event
  all_goals simp only [handEvent, handContact]
  all_goals try split
  all_goals simp [h]

@[simp] theorem handStatus_keepsDeadlines (n : Node) (kind : NodeKind) (event : NodeEvent) (status : Byte)
    (h : DeadlinesKept a s.time) : DeadlinesKept a (handStatus s n kind event status).time := by
  cases kind <;> simp [handStatus, handContact, h]

@[simp] theorem missIf_keepsDeadlines (n : Node) (d : DoorEntry) (h : DeadlinesKept a s.time) :
    DeadlinesKept a (missIf s n d).time := by
  unfold missIf missedAnswer
  dsimp only
  repeat' split
  all_goals simp [h]

@[simp] theorem takeAnswer_keepsDeadlines (l : LineNo) (d : DoorEntry) (ans : NodeAnswer) (event : NodeEvent)
    (c : Capture) (h : DeadlinesKept a s.time) : DeadlinesKept a (takeAnswer s l d ans event c).time := by
  unfold takeAnswer handAnswer
  dsimp only
  split <;> simp [h]

@[simp] theorem answerEnd_keepsDeadlines (l : LineNo) (e : Exchange) (chars : List Byte) (h : DeadlinesKept a s.time) :
    DeadlinesKept a (answerEnd s l e chars).time := by
  unfold answerEnd
  dsimp only
  repeat' split
  all_goals simp [h]

@[simp] theorem failedAttempt_keepsDeadlines (n : Node) (c : Command) (duty : Bool) (fate : Fate)
    (h : DeadlinesKept a s.time) : DeadlinesKept a (failedAttempt s n c duty fate).time := by
  unfold failedAttempt
  dsimp only
  repeat' split
  all_goals simp [h]

@[simp] theorem commandFailed_keepsDeadlines (l : LineNo) (e : Exchange) (b : Addr) (c : Command) (duty : Bool)
    (fate : Fate) (h : DeadlinesKept a s.time) : DeadlinesKept a (commandFailed s l e b c duty fate).time := by
  unfold commandFailed
  simp [h]

@[simp] theorem commandAccepted_keepsDeadlines (l : LineNo) (e : Exchange) (b : Addr) (c : Command) (duty : Bool)
    (fate : Fate) (h : DeadlinesKept a s.time) : DeadlinesKept a (commandAccepted s l e b c duty fate).time := by
  unfold commandAccepted handAcceptance
  dsimp only
  repeat' split
  all_goals simp [h]

@[simp] theorem abandon_keepsDeadlines (l : LineNo) (e : Exchange) (h : DeadlinesKept a s.time) :
    DeadlinesKept a (abandon s l e).time := by
  unfold abandon
  split <;> simp [h]

/-! Minibars (R141 to R153) -/

@[simp] theorem setReturn_keepsDeadlines (i : Slot) (h : DeadlinesKept a s.time) :
    DeadlinesKept a (setReturn s i).time := by
  unfold setReturn
  repeat' split
  all_goals simp [h]

@[simp] theorem processCompartment_keepsDeadlines (i : Slot) (before after : Compartments) (c : Fin 8)
    (h : DeadlinesKept a s.time) : DeadlinesKept a (processCompartment i before after s c).time := by
  unfold processCompartment processRemoval processReturn
  dsimp only
  repeat' split
  all_goals simp [h]

@[simp] theorem applyReport_keepsDeadlines (i : Slot) (set : Compartments) (h : DeadlinesKept a s.time) :
    DeadlinesKept a (applyReport s i set).time := by
  have fold : ∀ m : MinibarPart,
      DeadlinesKept a ((List.finRange 8).foldl (processCompartment i m.stable set) s).time := fun m =>
    foldl_keepsDeadlines _ (fun _ c => processCompartment_keepsDeadlines i _ _ c) _ h
  unfold applyReport
  dsimp only
  repeat' split
  all_goals simp [h, fold]

@[simp] theorem applyItem_keepsDeadlines (n : Node) (first : Compartments) (second : Option Compartments)
    (h : DeadlinesKept a s.time) : DeadlinesKept a (applyItem s n first second).time := by
  unfold applyItem
  dsimp only
  repeat' split
  all_goals simp [h]

@[simp] theorem applyReturn_keepsDeadlines (n : Node) (h : DeadlinesKept a s.time) :
    DeadlinesKept a (applyReturn s n).time := by
  unfold applyReturn
  split <;> simp [h]

@[simp] theorem applyForced_keepsDeadlines (c : ForcedCause) (h : DeadlinesKept a s.time) :
    DeadlinesKept a (applyForced s c).time := by
  unfold applyForced forcedEnd
  dsimp only
  repeat' split
  all_goals simp [h]

/-! Decisions and requests (R87, R106, R107, R117, R119) -/

@[simp] theorem completeDecision_keepsDeadlines (p : Presentation) (h : DeadlinesKept a s.time) :
    DeadlinesKept a (completeDecision s p).time := by
  have grant : ∀ (t : State) (n : Node) (m : MinibarGrant), DeadlinesKept a t.time →
      DeadlinesKept a (minibarGrant t n m).time := fun t n m ht => by
    unfold minibarGrant armRelatch
    repeat' split
    all_goals simp [ht]
  have verdict : ∀ v, DeadlinesKept a (verdictEffects s p v).time := fun v => by
    unfold verdictEffects
    dsimp only
    repeat' split
    all_goals simp [h, grant]
  unfold completeDecision queueIfDecide
  dsimp only
  split <;> simp [verdict]

@[simp] theorem completeIssue_keepsDeadlines (h : DeadlinesKept a s.time) : DeadlinesKept a (completeIssue s).time := by
  unfold completeIssue acceptIssue
  dsimp only
  repeat' split
  all_goals simp [h]

@[simp] theorem completeComposition_keepsDeadlines (k : Fin 2) (h : DeadlinesKept a s.time) :
    DeadlinesKept a (completeComposition s k).time := by
  unfold completeComposition
  dsimp only
  repeat' split
  all_goals simp [h]

@[simp] theorem cancelIssue_keepsDeadlines (b : Byte) (h : DeadlinesKept a s.time) :
    DeadlinesKept a (cancelIssue s b).time := by
  unfold cancelIssue
  repeat' split
  all_goals simp [h]

@[simp] theorem checkoutRoom_keepsDeadlines (room : Half) (h : DeadlinesKept a s.time) :
    DeadlinesKept a (checkoutRoom s room).time := by
  have minibar : ∀ (t : State) (i : Slot), DeadlinesKept a t.time → DeadlinesKept a (checkoutMinibar t i).time :=
    fun t i ht => by
      unfold checkoutMinibar
      dsimp only
      repeat' split
      all_goals simp [ht]
  have session : ∀ t : State, DeadlinesKept a t.time → DeadlinesKept a (checkoutSession t room).time := fun t ht => by
    unfold checkoutSession
    repeat' split
    all_goals simp [ht]
  unfold checkoutRoom
  dsimp only
  split <;> simp [h, minibar, session]

/-! Loads (R58, R65, R66, R203) -/

@[simp] theorem postDoor_keepsDeadlines (i : Slot) (d : DoorEntry) (h : DeadlinesKept a s.time) :
    DeadlinesKept a (postDoor s i d).time := by
  unfold postDoor
  dsimp only
  repeat' split
  all_goals simp [h]

@[simp] theorem takeRoom_keepsDeadlines (i : Slot) (st : RoomStatic) (restore : Option RestorePart)
    (h : DeadlinesKept a s.time) : DeadlinesKept a (takeRoom s i st restore).time := by
  have rewrite : ∀ (t : State) (b c : Option Node), DeadlinesKept a t.time →
      DeadlinesKept a (minibarRewrite t i b c).time := fun t b c ht => by
    unfold minibarRewrite
    repeat' split
    all_goals simp [ht]
  have kept : ∀ (t : State) (room : Half) (p : RestorePart), DeadlinesKept a t.time →
      DeadlinesKept a (restoreKept t i room p).time := fun t room p ht => by
    unfold restoreKept
    dsimp only
    split <;> simp [ht]
  have drop : ∀ (t : State) (n : Option Node), DeadlinesKept a t.time →
      DeadlinesKept a (dropMinibarNode t n).time := fun t n ht => by
    unfold dropMinibarNode
    split <;> simp [ht]
  unfold takeRoom keepRoom replaceRoom
  dsimp only
  repeat' split
  all_goals simp [h, rewrite, kept, drop]

@[simp] theorem clearStore_keepsDeadlines (h : DeadlinesKept a s.time) : DeadlinesKept a (clearStore s).time := by
  have node : ∀ (t : State) (n : Node), DeadlinesKept a t.time → DeadlinesKept a (clearNode t n).time :=
    fun t n ht => by
      unfold clearNode
      split <;> simp [ht]
  have fold := foldl_keepsDeadlines clearNode node (slots.map nodeAt) h
  unfold clearStore
  dsimp only
  split <;> simp [fold]

end
end Sys2Proof.Machine
end

section
/-!
The commands that leave the phase, the tick counter, the wing clock, the clean marker, the stopping of the part and the freezing
of the journal as they are: every one but the resets, the tick, the counts and settings of the clock, and the commands of
Start-up Control.
-/

namespace Sys2Proof.Machine

/-- What only the events of the rules move: the tick counter (R1), the wing clock (R2 to R5), the phase (R200), the clean marker
and the part's stopping (R206, R208), and whether the journal is frozen (R168). -/
structure Vitals where
  tick : Tick
  clock : Clock
  phase : Phase
  marker : Bool
  failTaken : Bool
  stopWork : StopWork
  frozen : Bool

def vitals (s : State) : Vitals :=
  { tick := s.time.tick, clock := s.time.clock, phase := s.startup.phase, marker := s.startup.marker,
    failTaken := s.startup.failTaken, stopWork := s.startup.stopWork, frozen := s.journal.frozen }

/-- The vitals stand, and the deadline list keeps its invariant. -/
structure Ordinary (s t : State) : Prop where
  vitals : vitals t = vitals s
  deadlines : DeadlinesKept s.time t.time

/-- Whatever state a command's outcome is, `R` relates it to the one before. -/
def Leads (R : State → State → Prop) (s : State) (o : Outcome) : Prop := ∀ t, o = .next t → R s t

theorem Ordinary.same (s : State) : Ordinary s s := ⟨rfl, .same _⟩

theorem Ordinary.step {s t u : State} (h : Ordinary s t) (g : Ordinary t u) : Ordinary s u :=
  ⟨g.vitals.trans h.vitals, h.deadlines.step g.deadlines⟩

@[simp] theorem leads_idle (s : State) : Leads Ordinary s (idle s) := by
  rintro t ⟨⟩
  exact .same s

@[simp] theorem leads_done (R : State → State → Prop) (s t : State) : Leads R s (done t) ↔ R s (settle t) :=
  ⟨fun h => h _ rfl, by rintro h _ ⟨⟩; exact h⟩

@[simp] theorem ordinary_settle (s t : State) : Ordinary s (settle t) ↔ Ordinary s t := by
  have hv : vitals (settle t) = vitals t := by simp [vitals]
  have ht : (settle t).time = t.time := by simp
  constructor
  · rintro ⟨h, g⟩; exact ⟨hv ▸ h, ht ▸ g⟩
  · rintro ⟨h, g⟩; exact ⟨hv.trans h, ht.symm ▸ g⟩

theorem ordinary_iff (s t : State) :
    Ordinary s t ↔
      (t.time.tick = s.time.tick ∧ t.time.clock = s.time.clock ∧ t.startup.phase = s.startup.phase ∧
        t.startup.marker = s.startup.marker ∧ t.startup.failTaken = s.startup.failTaken ∧
        t.startup.stopWork = s.startup.stopWork ∧ t.journal.frozen = s.journal.frozen) ∧
      DeadlinesKept s.time t.time := by
  constructor
  · rintro ⟨h, g⟩
    simp only [vitals, Vitals.mk.injEq] at h
    exact ⟨h, g⟩
  · rintro ⟨h, g⟩
    exact ⟨by simpa only [vitals, Vitals.mk.injEq] using h, g⟩

/-! ### Table operations (R170) -/

theorem runForm_ordinary {form : OpForm} {grant complete : State → Option State}
    (hg : ∀ s t, grant s = some t → Ordinary s t) (hc : ∀ s t, complete s = some t → Ordinary s t) (s : State) :
    Leads Ordinary s (runForm form grant complete s) := by
  unfold runForm
  cases form
  · dsimp only
    split
    · next t h => simpa using hg s t h
    · simp
  · dsimp only
    split
    · next t h => simpa using hc s t h
    · simp
  · dsimp only
    split
    · next t h =>
      obtain ⟨g, h1, h2⟩ := Option.bind_eq_some_iff.1 h
      simpa using (hg s g h1).step (((ordinary_settle g g).2 (.same g)).step (hc _ t h2))
    · simp

theorem finishOp_ordinary (eff : PortOp → Option (State → State))
    (he : ∀ op f, eff op = some f → ∀ s, Ordinary s (f s))
    (s t : State) (h : finishOp eff s = some t) : Ordinary s t := by
  obtain ⟨-, op, f, -, hf, rfl⟩ := finishOp_some h
  have free : Ordinary s (setInHand s none) := by simp [ordinary_iff]
  exact free.step (he op f hf _)

theorem grantSimple_ordinary {r : Requester} {op : PortOp} {ready : State → Bool} (s t : State)
    (h : grantSimple r op ready s = some t) : Ordinary s t := by
  obtain ⟨-, -, rfl⟩ := grantSimple_some h
  simp [ordinary_iff]

theorem grantMinibar_ordinary {sel : MinibarWork → Option PortOp} (s t : State)
    (h : grantMinibar sel s = some t) : Ordinary s t := by
  unfold grantMinibar at h
  repeat' split at h
  · cases h
  · obtain ⟨op, -, rfl⟩ := Option.map_eq_some_iff.1 h
    simp [ordinary_iff]
  · cases h

theorem grantIssue_ordinary {sel : IssueWork → Option PortOp} (s t : State)
    (h : grantIssue sel s = some t) : Ordinary s t := by
  unfold grantIssue at h
  repeat' split at h
  · cases h
  · obtain ⟨op, -, rfl⟩ := Option.map_eq_some_iff.1 h
    simp [ordinary_iff]
  · cases h

theorem takeExpiry_ordinary {s t : State} {n : Node} {k : DeadlineKind} (h : takeExpiry s n k = some t) :
    Ordinary s t := by
  obtain ⟨-, -, rfl⟩ := takeExpiry_some h
  exact ⟨rfl, rfl, id, id⟩

section
variable (s : State)

theorem execDecision_ordinary (form : OpForm) : Leads Ordinary s (execDecision form s) := by
  refine runForm_ordinary (fun s t h => ?_) (fun s t h => ?_) s
  · unfold grantDecision at h
    repeat' split at h
    · cases h
    · obtain rfl := Option.some.inj h
      simp [ordinary_iff]
    · cases h
  · unfold finishDecision at h
    repeat' split at h
    · obtain rfl := Option.some.inj h
      simp [ordinary_iff]
    · cases h
    · cases h

theorem execPrivacyWrite_ordinary (form : OpForm) : Leads Ordinary s (execPrivacyWrite form s) := by
  refine runForm_ordinary (fun s t h => ?_) (fun s t h => ?_) s
  · unfold grantPrivacy at h
    repeat' split at h
    · cases h
    · obtain rfl := Option.some.inj h
      simp [ordinary_iff]
    · cases h
  · unfold finishPrivacy at h
    repeat' split at h
    · obtain rfl := Option.some.inj h
      simp [ordinary_iff]
    · cases h
    · cases h

theorem execRelatchExpiryOperation_ordinary (form : OpForm) : Leads Ordinary s (execRelatchExpiryOperation form s) :=
  runForm_ordinary grantMinibar_ordinary
    (finishOp_ordinary effRelatch fun | .relatch _, _, rfl, _ => by simp [ordinary_iff]) s

theorem execReturnExpiryOperation_ordinary (form : OpForm) : Leads Ordinary s (execReturnExpiryOperation form s) :=
  runForm_ordinary grantMinibar_ordinary (finishOp_ordinary effReturn fun | .ret _, _, rfl, _ => by simp [ordinary_iff]) s

theorem execReportItemOperation_ordinary (form : OpForm) : Leads Ordinary s (execReportItemOperation form s) :=
  runForm_ordinary grantMinibar_ordinary (finishOp_ordinary effItem fun | .item _ _ _, _, rfl, _ => by simp [ordinary_iff]) s

theorem execForcedCommit_ordinary (form : OpForm) : Leads Ordinary s (execForcedCommit form s) :=
  runForm_ordinary grantMinibar_ordinary (finishOp_ordinary effForced fun | .forced _, _, rfl, _ => by simp [ordinary_iff]) s

theorem execMinibarBringIntoLine_ordinary (form : OpForm) : Leads Ordinary s (execMinibarBringIntoLine form s) :=
  runForm_ordinary grantMinibar_ordinary (finishOp_ordinary effLineUp fun | .lineUp _, _, rfl, _ => by simp [ordinary_iff]) s

theorem execIssue_ordinary (form : OpForm) : Leads Ordinary s (execIssue form s) :=
  runForm_ordinary grantIssue_ordinary (finishOp_ordinary effJudge fun | .judge, _, rfl, _ => by simp [ordinary_iff]) s

theorem execComposition_ordinary (form : OpForm) : Leads Ordinary s (execComposition form s) :=
  runForm_ordinary grantIssue_ordinary
    (finishOp_ordinary effComposition fun | .composition _, _, rfl, _ => by simp [ordinary_iff]) s

theorem execIssueClosing_ordinary (form : OpForm) : Leads Ordinary s (execIssueClosing form s) :=
  runForm_ordinary grantIssue_ordinary (finishOp_ordinary effClosing fun | .closing _, _, rfl, _ => by simp [ordinary_iff]) s

theorem execRoomCheckout_ordinary (form : OpForm) : Leads Ordinary s (execRoomCheckout form s) :=
  runForm_ordinary grantSimple_ordinary
    (finishOp_ordinary effCheckout fun | .checkout, _, rfl, _ => by dsimp only; split <;> simp [ordinary_iff]) s

theorem execRoomBump_ordinary (form : OpForm) : Leads Ordinary s (execRoomBump form s) :=
  runForm_ordinary grantSimple_ordinary
    (finishOp_ordinary effBump fun | .bump, _, rfl, _ => by dsimp only; split <;> simp [ordinary_iff]) s

theorem execMinibarSettle_ordinary (form : OpForm) : Leads Ordinary s (execMinibarSettle form s) :=
  runForm_ordinary grantSimple_ordinary
    (finishOp_ordinary effSettle fun | .settle, _, rfl, _ => by dsimp only; split <;> simp [ordinary_iff]) s

theorem execDenyAdd_ordinary (form : OpForm) : Leads Ordinary s (execDenyAdd form s) :=
  runForm_ordinary grantSimple_ordinary
    (finishOp_ordinary effDenyAdd fun | .denyAdd, _, rfl, _ => by dsimp only; split <;> simp [ordinary_iff]) s

theorem execDenyRemove_ordinary (form : OpForm) : Leads Ordinary s (execDenyRemove form s) :=
  runForm_ordinary grantSimple_ordinary
    (finishOp_ordinary effDenyRemove fun | .denyRemove, _, rfl, _ => by dsimp only; split <;> simp [ordinary_iff]) s

theorem execPruneStep_ordinary (form : OpForm) : Leads Ordinary s (execPruneStep form s) :=
  runForm_ordinary grantSimple_ordinary (finishOp_ordinary effPrune fun | .prune, _, rfl, _ => by simp [ordinary_iff]) s

theorem execDrain_ordinary (form : OpForm) : Leads Ordinary s (execDrain form s) :=
  runForm_ordinary grantSimple_ordinary (finishOp_ordinary effDrain fun | .drain, _, rfl, _ => by simp [ordinary_iff]) s

theorem execStatus_ordinary (form : OpForm) : Leads Ordinary s (execStatus form s) :=
  runForm_ordinary grantSimple_ordinary (finishOp_ordinary effStatus fun | .status, _, rfl, _ => by simp [ordinary_iff]) s

theorem execReadEntries_ordinary (form : OpForm) : Leads Ordinary s (execReadEntries form s) := by
  have whole : Leads Ordinary s
      (runForm form (grantSimple .requestUnit .readEntries (requestAsks .readEntries)) (finishOp effReadEntries) s) :=
    runForm_ordinary grantSimple_ordinary (finishOp_ordinary effReadEntries fun
      | .readEntries, _, rfl, _ => by dsimp only; split <;> simp [ordinary_iff]) s
  unfold execReadEntries
  repeat' split
  · exact whole
  all_goals simp [ordinary_iff]

/-! ### Expiries (R14) -/

theorem execRelockExpiry_ordinary (n : Node) : Leads Ordinary s (execRelockExpiry n s) := by
  unfold execRelockExpiry
  split
  · next t h => simpa using (takeExpiry_ordinary h).step (by simp [ordinary_iff])
  · simp

theorem execHeldExpiry_ordinary (n : Node) : Leads Ordinary s (execHeldExpiry n s) := by
  unfold execHeldExpiry
  split
  · next t h => simpa using (takeExpiry_ordinary h).step (by simp [ordinary_iff])
  · simp

theorem execRelatchExpiry_ordinary (n : Node) : Leads Ordinary s (execRelatchExpiry n s) := by
  unfold execRelatchExpiry
  split
  · next t h => simpa using (takeExpiry_ordinary h).step (by simp [ordinary_iff])
  · simp

theorem execReturnExpiry_ordinary (n : Node) : Leads Ordinary s (execReturnExpiry n s) := by
  unfold execReturnExpiry
  split
  · next t h => simpa using (takeExpiry_ordinary h).step (by simp [ordinary_iff])
  · simp

theorem execIssueTimeoutExpiry_ordinary (n : Node) : Leads Ordinary s (execIssueTimeoutExpiry n s) := by
  unfold execIssueTimeoutExpiry
  split
  · next t h => simpa using (takeExpiry_ordinary h).step (by simp [ordinary_iff])
  · simp

theorem execMinuteEvent_ordinary : Leads Ordinary s (execMinuteEvent s) := by
  unfold execMinuteEvent
  repeat' split
  · simp
  · simp only [leads_done, ordinary_settle]
    exact ⟨rfl, rfl, id, id⟩
  · simp

/-! ### Loads (R173, R178) -/

theorem postParsed_ordinary {α : Type} {n i : Nat} {e : Option α} {place : Fin n → α → State} {s t : State}
    (hp : ∀ j x, Ordinary s (place j x)) (h : postParsed n i e place = .ok t) : Ordinary s t := by
  unfold postParsed at h
  repeat' split at h
  · cases h
  · cases h; exact hp _ _
  · cases h

theorem postRoom_ordinary {s t : State} {i : Slot} {bytes : List Byte} (h : postRoom s i bytes = .ok t) :
    Ordinary s t := by
  unfold postRoom at h
  repeat' split at h
  · cases h
  · cases h
  · cases h
    refine (ordinary_iff _ _).2 ⟨?_, by simp⟩
    unfold takeRoom
    dsimp only
    split <;> simp

theorem postAt_ordinary {s t : State} {table : TableId} {i : Nat} {bytes : List Byte}
    (h : postAt s table i bytes = .ok t) : Ordinary s t := by
  unfold postAt at h
  cases table
  case room =>
    dsimp only at h
    split at h
    · exact postRoom_ordinary h
    · cases h
  all_goals exact postParsed_ordinary (fun j x => by simp [ordinary_iff]) h

theorem examine_ordinary {s t : State} {w : LoadWindow} {e : List Byte} (h : examine s w e = .ok t) :
    Ordinary s t := by
  unfold examine at h
  repeat' split at h
  · cases h; next hp => exact postAt_ordinary hp
  all_goals cases h

theorem execPost_ordinary : Leads Ordinary s (execPost s) := by
  have load : ∀ t w ld, Ordinary t (loadAfter t w ld) := fun t w ld => by simp [ordinary_iff]
  have post : ∀ w ld e es, Ordinary s (postNext s w ld e es) := fun w ld e es => by
    unfold postNext
    split
    · next h => exact (examine_ordinary h).step (load _ _ _)
    · exact load _ _ _
  unfold execPost
  repeat' split
  · simpa using post _ _ _ _
  all_goals simp

/-! ### Every such command -/

end

/-- A command that may move the vitals: the resets, those of the Time Unit's counter and clock, and those of Start-up
Control. -/
def movesVitals : Instr → Bool
  | .powerOnReset _ => true
  | .pinReset _ => true
  | .tickEvent _ _ => true
  | .setClock => true
  | .clockCountWithoutTick => true
  | .go => true
  | .restartBegin _ => true
  | .checkingEnd => true
  | .supplyFail => true
  | _ => false

/-- Any other command is ordinary. Those without a lemma of their own either change nothing or run one operation whose frame
says so. -/
theorem exec_ordinary (c : Instr) (s : State) (hc : movesVitals c = false) : Leads Ordinary s (exec c s) := by
  cases c
  case powerOnReset | pinReset | tickEvent | setClock | clockCountWithoutTick | go | restartBegin | checkingEnd |
    supplyFail => cases hc
  case minuteEvent => exact execMinuteEvent_ordinary s
  case relockExpiry n => exact execRelockExpiry_ordinary s n
  case heldExpiry n => exact execHeldExpiry_ordinary s n
  case relatchExpiry n => exact execRelatchExpiry_ordinary s n
  case returnExpiry n => exact execReturnExpiry_ordinary s n
  case issueTimeoutExpiry n => exact execIssueTimeoutExpiry_ordinary s n
  case relatchExpiryOperation form => exact execRelatchExpiryOperation_ordinary s form
  case returnExpiryOperation form => exact execReturnExpiryOperation_ordinary s form
  case decision form => exact execDecision_ordinary s form
  case privacyWrite form => exact execPrivacyWrite_ordinary s form
  case reportItemOperation form => exact execReportItemOperation_ordinary s form
  case forcedCommit form => exact execForcedCommit_ordinary s form
  case minibarBringIntoLine form => exact execMinibarBringIntoLine_ordinary s form
  case issue form => exact execIssue_ordinary s form
  case composition form => exact execComposition_ordinary s form
  case issueClosing form => exact execIssueClosing_ordinary s form
  case roomCheckout form => exact execRoomCheckout_ordinary s form
  case roomBump form => exact execRoomBump_ordinary s form
  case minibarSettle form => exact execMinibarSettle_ordinary s form
  case denyAdd form => exact execDenyAdd_ordinary s form
  case denyRemove form => exact execDenyRemove_ordinary s form
  case pruneStep form => exact execPruneStep_ordinary s form
  case drain form => exact execDrain_ordinary s form
  case readEntries form => exact execReadEntries_ordinary s form
  case status form => exact execStatus_ordinary s form
  case post => exact execPost_ordinary s
  case lineMode | setOverride | nodePassDown =>
    simp only [exec, execLineMode, execSetOverride, execNodePassDown]
    repeat' split
    all_goals simp [ordinary_iff]
  case pollSlot | callSlot | commandSlot | answerReceived | answerWindowClose | stretchLimitExceeded |
    commandDelivered | commandNotDelivered | answerRestart | pollFrameNotDelivered | lineStuck | lineFree |
    enterHeld =>
    simp only [exec, execPollSlot, execCallSlot, execCommandSlot, execAnswerReceived, execAnswerWindowClose,
      execStretchLimitExceeded, execCommandDelivered, execCommandNotDelivered, execAnswerRestart,
      execPollFrameNotDelivered, execLineStuck, execLineFree, execEnterHeld]
    repeat' split
    all_goals simp [ordinary_iff]
  case firePinChange | issueCancel | journalPush | loadWindow | load | restart =>
    simp only [exec, execFirePinChange, execIssueCancel, execJournalPush, execLoadWindow, execLoad, execRestart]
    repeat' split
    all_goals simp [ordinary_iff]
  case upstreamFrameReceived | downstreamFrameReceived | frameEndedShort | requestTake | upstreamGrant |
    upstreamFrameFinished | relayDownSend | relayDownFinished | downstreamAbsent | downstreamPresent =>
    simp only [exec, execUpstreamFrameReceived, execDownstreamFrameReceived, execFrameEndedShort, execRequestTake,
      execUpstreamGrant, execUpstreamFrameFinished, execRelayDownSend, execRelayDownFinished, execDownstreamAbsent,
      execDownstreamPresent]
    repeat' split
    all_goals simp [ordinary_iff]
  case vddFall | vbakOutOfRange =>
    simp only [exec, execVddFall, execVbakOutOfRange]
    repeat' split
    all_goals simp [ordinary_iff]

end Sys2Proof.Machine
end

section
/-!
The commands that move the vitals, one by one, and what holds over every step: the deadline list keeps its invariant (R11 to R15),
and only the events of the rules move the phase, the tick counter, the wing clock, the clean marker and the freeze of the
journal (R1 to R5, R168, R200, R206, R208).
-/

namespace Sys2Proof.Machine

/-- What command `c` may do to the vitals, and that it keeps the deadline list. -/
structure Moves (c : Instr) (s t : State) : Prop where
  phase : t.startup.phase ≠ s.startup.phase → phaseChange c s.startup.phase t.startup.phase = true
  tick : t.time.tick ≠ s.time.tick →
    (isReset c = true ∧ t.time.tick = 0) ∨
      ((∃ fire fail, c = .tickEvent fire fail) ∧ t.time.tick = s.time.tick + 1)
  clock : t.time.clock ≠ s.time.clock → movesClock c = true
  marker : s.startup.marker = false → t.startup.marker = true → c = .supplyFail ∨ ∃ straps, c = .restartBegin straps
  frozen : s.journal.frozen = false → t.journal.frozen = true → c = .supplyFail ∧ t.startup.phase = .shutdown
  deadlines : deadlinesSound s → deadlinesSound t

theorem stopping_congr {s t : State} (hf : t.startup.failTaken = s.startup.failTaken)
    (hw : t.startup.stopWork = s.startup.stopWork) : t.stopping = s.stopping := by
  simp [State.stopping, hf, hw]

/-- The deadline list stays sound where the operation keeps it and the part does not cease to stop. -/
theorem DeadlinesKept.sound {s t : State} (h : DeadlinesKept s.time t.time)
    (hs : t.stopping = false → s.stopping = false) (g : deadlinesSound s) : deadlinesSound t := by
  rw [deadlinesSound_iff] at g ⊢
  exact ⟨h.one g.1, fun ht => h.tick ▸ h.order (g.2 (hs ht))⟩

theorem Ordinary.moves {s t : State} (h : Ordinary s t) (c : Instr) : Moves c s t := by
  obtain ⟨⟨htick, hclock, hphase, hmarker, hfail, hwork, hfrozen⟩, hd⟩ := (ordinary_iff s t).1 h
  exact
    { phase := fun hn => absurd hphase hn
      tick := fun hn => absurd htick hn
      clock := fun hn => absurd hclock hn
      marker := fun h0 h1 => by rw [hmarker, h0] at h1; cases h1
      frozen := fun h0 h1 => by rw [hfrozen, h0] at h1; cases h1
      deadlines := hd.sound fun ht => (stopping_congr hfail hwork) ▸ ht }

@[simp] theorem moves_idle (c : Instr) (s : State) : Leads (Moves c) s (idle s) := by
  rintro t ⟨⟩
  exact (Ordinary.same s).moves c

/-- Settling moves nothing of it. -/
@[simp] theorem moves_settle (c : Instr) (s t : State) : Moves c s (settle t) ↔ Moves c s t := by
  have hs : (settle t).stopping = t.stopping := by simp [State.stopping]
  constructor
  · rintro ⟨h1, h2, h3, h4, h5, h6⟩
    simp only [settle_frame, deadlinesSound, hs] at h1 h2 h3 h4 h5 h6
    exact ⟨h1, h2, h3, h4, h5, h6⟩
  · rintro ⟨h1, h2, h3, h4, h5, h6⟩
    constructor
    all_goals simp only [settle_frame, deadlinesSound, hs]
    all_goals assumption

/-! ### Resets (R200, R205) -/

/-- A reset leaves RESETTING, the tick counter at 0 and no deadline; the clock and the marker as the store it starts from `u`. -/
theorem resetPart_moves {c : Instr} {s u : State} (cause : StartCause) (straps : BitVec 5) (l : Level)
    (hc : isReset c = true) (hp : phaseChange c s.startup.phase .resetting = true)
    (hclock : u.time.clock ≠ s.time.clock → movesClock c = true)
    (hmarker : s.startup.marker = false → u.startup.marker = true → ∃ straps, c = .restartBegin straps) :
    Moves c s (resetPart u cause straps l) where
  phase _ := hp
  tick _ := .inl ⟨hc, rfl⟩
  clock := hclock
  marker h0 h1 := .inr (hmarker h0 h1)
  frozen _ h1 := by cases h1
  deadlines _ := ⟨List.nodup_nil, fun _ => ⟨.nil, by simp [resetPart]⟩⟩

theorem execPowerOnReset_moves (straps : BitVec 5) (s : State) :
    Leads (Moves (.powerOnReset straps)) s (execPowerOnReset straps s) := by
  unfold execPowerOnReset
  simp only [leads_done, moves_settle]
  refine resetPart_moves _ _ _ rfl rfl (fun _ => rfl) fun h0 h1 => ?_
  split at h1
  · cases h1
  · rw [h0] at h1; cases h1

theorem execPinReset_moves (straps : BitVec 5) (s : State) :
    Leads (Moves (.pinReset straps)) s (execPinReset straps s) := by
  unfold execPinReset
  split
  · simp only [leads_done, moves_settle]
    refine resetPart_moves _ _ _ rfl rfl (fun hn => absurd rfl hn) fun h0 h1 => ?_
    rw [h0] at h1; cases h1
  · simp

/-! ### The tick (R1, R14) -/

/-- Every entry still to come is one tick nearer (R11). -/
theorem distance_succ {tick due : Tick} (h : 1 ≤ distance tick due) :
    distance (tick + 1) due = distance tick due - 1 := by
  unfold distance at *
  bv_omega

/-- A tick that removes the entries it makes due keeps the rest in order (R14). -/
theorem inOrder.tick {tick : Tick} {l : List Deadline} (h : inOrder tick l) :
    inOrder (tick + 1) (l.filter fun d => !(d.due = tick + 1)) := by
  obtain ⟨hsorted, hbound⟩ := h
  refine ⟨(hsorted.imp_of_mem fun {a b} ha hb hab => ?_).filter _, fun d hd => ?_⟩
  · rw [distance_succ (hbound a ha).1, distance_succ (hbound b hb).1]
    omega
  · obtain ⟨hd, hdue⟩ := List.mem_filter.1 hd
    have hb := hbound d hd
    have hne : d.due ≠ tick + 1 := by simpa using hdue
    have h1 : distance tick d.due ≠ 1 := fun h1 => hne (by unfold distance at h1; bv_omega)
    rw [distance_succ hb.1]
    omega

theorem enterChecking_phase (s : State) : (enterChecking s).startup.phase = .checking := by
  have hl : ∀ t : State, (lineNos.foldl loadSweep t).startup = t.startup := fun t => by simp
  unfold enterChecking
  dsimp only
  split
  · rfl
  · simp [setPhase]

theorem enterChecking_keepsDeadlines (s : State) : DeadlinesKept s.time (enterChecking s).time := by
  unfold enterChecking
  dsimp only
  split
  · exact .same _
  · simp

/-- The entry to CHECKING clears the marker or leaves it (R202). -/
theorem enterChecking_marker (s : State) (h : (enterChecking s).startup.marker = true) : s.startup.marker = true := by
  unfold enterChecking keepWork at h
  dsimp only at h
  split at h
  · exact h
  · simp only [recomputeLevel_frame] at h
    split at h
    · simp at h
    · simpa using h

/-- The last part of a tick: the entry to CHECKING, or nothing. -/
theorem leaveResetting_cases (s : State) :
    leaveResetting s = s ∨ (s.startup.phase = .resetting ∧ leaveResetting s = enterChecking s) := by
  unfold leaveResetting
  split
  · next h => exact .inr ⟨h.1, rfl⟩
  · exact .inl rfl

theorem sampleSupply_stopping {fail : Bool} {s : State} (h : (sampleSupply fail s).stopping = false) :
    s.stopping = false := by
  unfold sampleSupply takeSupplyFail at h
  split at h
  · dsimp only at h
    split at h <;> simp [State.stopping] at h
  · exact h

/-- The counter advanced and the expiries put out keep the list (R11, R14, R15). -/
theorem expireDue_sound {fail : Bool} {s : State} (h : deadlinesSound s) :
    deadlinesSound (expireDue (sampleSupply fail (countTick s))) := by
  obtain ⟨hone, horder⟩ := h
  have ht : (sampleSupply fail (countTick s)).time = (countTick s).time := by simp
  unfold expireDue
  split
  · next hs =>
    refine ⟨by simpa [countTick] using hone, fun h => ?_⟩
    rw [hs] at h; cases h
  · next hs =>
    rw [ht]
    refine ⟨oneEach.filter hone _, fun _ => ?_⟩
    have hrun : s.stopping = false := sampleSupply_stopping (s := countTick s) (by simpa using hs)
    exact inOrder.tick (horder hrun)

theorem tickStep_moves (fire fail : Bool) (s : State) : Moves (.tickEvent fire fail) s (tickStep fire fail s) := by
  have hbase : ∀ u, u = sampleFire fire (expireDue (sampleSupply fail (countTick s))) →
      u.startup.phase = s.startup.phase ∧ u.startup.marker = s.startup.marker ∧
        (deadlinesSound s → deadlinesSound u) := by
    rintro u rfl
    refine ⟨by simp, by simp, fun h => ?_⟩
    exact DeadlinesKept.sound (s := expireDue (sampleSupply fail (countTick s))) (by simp)
      (by simp [State.stopping]) (expireDue_sound h)
  obtain ⟨hphase, hmarker, hsound⟩ := hbase _ rfl
  constructor
  case phase =>
    intro hn
    unfold tickStep at hn ⊢
    rcases leaveResetting_cases (sampleFire fire (expireDue (sampleSupply fail (countTick s)))) with h | ⟨hr, h⟩
    · rw [h, hphase] at hn
      exact absurd rfl hn
    · rw [h, enterChecking_phase, ← hphase, hr]; rfl
  case tick => exact fun _ => .inr ⟨⟨fire, fail, rfl⟩, by simp [tickStep, countTick]⟩
  case clock => exact fun _ => rfl
  case marker =>
    intro h0 h1
    unfold tickStep at h1
    rcases leaveResetting_cases (sampleFire fire (expireDue (sampleSupply fail (countTick s)))) with h | ⟨-, h⟩
    · rw [h, hmarker, h0] at h1; cases h1
    · rw [h] at h1
      have := enterChecking_marker _ h1
      rw [hmarker, h0] at this; cases this
  case frozen =>
    intro h0 h1
    rw [show (tickStep fire fail s).journal.frozen = s.journal.frozen by simp, h0] at h1; cases h1
  case deadlines =>
    intro hd
    unfold tickStep
    rcases leaveResetting_cases (sampleFire fire (expireDue (sampleSupply fail (countTick s)))) with h | ⟨-, h⟩
    · rw [h]; exact hsound hd
    · rw [h]
      exact (enterChecking_keepsDeadlines _).sound (by simp [State.stopping]) (hsound hd)

theorem execTickEvent_moves (fire fail : Bool) (s : State) :
    Leads (Moves (.tickEvent fire fail)) s (execTickEvent fire fail s) := by
  unfold execTickEvent
  split
  · simpa using tickStep_moves fire fail s
  · simp

/-! ### The wing clock set, or counting alone (R4, R5) -/

/-- A command that may move the clock and moves nothing else. -/
theorem moves_clock {c : Instr} {s t : State} (hc : movesClock c = true) (htick : t.time.tick = s.time.tick)
    (hd : t.time.deadlines = s.time.deadlines) (hs : t.startup = s.startup)
    (hf : t.journal.frozen = s.journal.frozen) : Moves c s t where
  phase hn := absurd (by rw [hs]) hn
  tick hn := absurd htick hn
  clock _ := hc
  marker h0 h1 := by rw [hs, h0] at h1; cases h1
  frozen h0 h1 := by rw [hf, h0] at h1; cases h1
  deadlines h := by
    have : t.stopping = s.stopping := stopping_congr (by rw [hs]) (by rw [hs])
    unfold deadlinesSound at *
    rwa [htick, hd, this]

theorem execSetClock_moves (s : State) : Leads (Moves .setClock) s (execSetClock s) := by
  unfold execSetClock
  repeat' split
  · simp only [leads_done, moves_settle]
    exact moves_clock rfl (by simp) (by simp [setClock]) (by simp) (by simp)
  all_goals simp

theorem execClockCountWithoutTick_moves (s : State) :
    Leads (Moves .clockCountWithoutTick) s (execClockCountWithoutTick s) := by
  unfold execClockCountWithoutTick
  split
  · simp only [leads_done, moves_settle]
    exact moves_clock rfl rfl rfl rfl rfl
  · simp

/-! ### Start-up Control (R203, R204, R206, R208) -/

/-- A command of Start-up Control that keeps the Time Unit's counter and clock and the deadlines, and does not let the part cease
to stop. -/
theorem moves_startup {c : Instr} {s t : State} (htick : t.time.tick = s.time.tick) (hclock : t.time.clock = s.time.clock)
    (hd : DeadlinesKept s.time t.time) (hs : t.stopping = false → s.stopping = false)
    (hphase : t.startup.phase ≠ s.startup.phase → phaseChange c s.startup.phase t.startup.phase = true)
    (hmarker : s.startup.marker = false → t.startup.marker = true → c = .supplyFail ∨ ∃ straps, c = .restartBegin straps)
    (hfrozen : s.journal.frozen = false → t.journal.frozen = true → c = .supplyFail ∧ t.startup.phase = .shutdown) :
    Moves c s t where
  phase := hphase
  tick hn := absurd htick hn
  clock hn := absurd hclock hn
  marker := hmarker
  frozen := hfrozen
  deadlines := hd.sound hs

/-- A phase entered by a command that may enter it, and nothing else of the vitals moved (R200). -/
theorem moves_phase {c : Instr} {s t : State} {p : Phase} (hp : phaseChange c s.startup.phase p = true)
    (htick : t.time.tick = s.time.tick) (hclock : t.time.clock = s.time.clock) (hd : DeadlinesKept s.time t.time)
    (hs : t.startup = { s.startup with phase := p }) (hf : t.journal.frozen = s.journal.frozen) : Moves c s t := by
  refine moves_startup htick hclock hd (fun h => ?_) (fun _ => ?_) (fun h0 h1 => ?_) fun h0 h1 => ?_
  · exact (stopping_congr (by rw [hs]) (by rw [hs])).symm.trans h
  · rw [hs]; exact hp
  · rw [hs] at h1; rw [h0] at h1; cases h1
  · rw [hf, h0] at h1; cases h1

theorem enterPhase_startup (s : State) (p : Phase) : (enterPhase s p).startup = { s.startup with phase := p } := by
  simp [enterPhase, setPhase]

theorem execCheckingEnd_moves (s : State) : Leads (Moves .checkingEnd) s (execCheckingEnd s) := by
  unfold execCheckingEnd
  split
  · next h =>
    simp only [Bool.and_eq_true, decide_eq_true_eq] at h
    obtain ⟨⟨-, hphase⟩, -⟩ := h
    simp only [leads_done, moves_settle]
    unfold endChecking
    repeat' split
    · exact moves_phase (p := .run) (by rw [hphase]; rfl) (by simp) (by simp) (by simp) (enterPhase_startup _ _)
        (by simp)
    · exact moves_phase (p := .awaitLoad) (by rw [hphase]; rfl) (by simp) (by simp) (by simp)
        (enterPhase_startup _ _) (by simp)
    · exact moves_phase (p := .awaitLoad) (by rw [hphase]; rfl) (by simp) (by simp) (by simp)
        (by rw [enterPhase_startup]; simp) (by simp)
  · simp

theorem execGo_moves (s : State) : Leads (Moves .go) s (execGo s) := by
  unfold execGo
  repeat' split
  · simp only [leads_done, moves_settle]
    unfold go
    split
    · next h =>
      exact moves_phase (p := .run) (by rw [h.1]; rfl) (by simp) (by simp) (by simp)
        (by simp [enterPhase_startup]) (by simp)
    · exact Ordinary.moves (by simp [ordinary_iff]) _
  all_goals simp

/-- Steps 1 to 4 of the stop work move none of the vitals (R206, R208). -/
theorem stopEarly_ordinary {sel : IssueCtx → Bool} {r : FailReason} {s t : State} (h : stopEarly sel r s = some t) :
    Ordinary s t := by
  unfold stopEarly at h
  repeat' split at h
  all_goals cases h
  all_goals simp [ordinary_iff]

theorem warmStep_moves {s t : State} {straps : BitVec 5} (hr : restartable s.startup.phase = true)
    (h : warmStep s straps = some t) : Moves (.restartBegin straps) s t := by
  have reset : Moves (.restartBegin straps) s (resetPart (writeMarker s) .warm straps s.override.requested) :=
    resetPart_moves _ _ _ rfl (by revert hr; cases s.startup.phase <;> simp [restartable, phaseChange])
      (fun hn => absurd rfl hn) fun _ _ => ⟨straps, rfl⟩
  unfold warmStep at h
  split at h
  · cases h
    exact moves_startup rfl rfl (.same _) (fun hs => by simp [State.stopping] at hs) (fun hn => absurd rfl hn)
      (fun h0 h1 => absurd (h0.symm.trans h1) (by decide)) fun h0 h1 => absurd (h0.symm.trans h1) (by decide)
  · split at h
    · cases h; exact reset
    · cases h; exact reset
    · exact (stopEarly_ordinary h).moves _

theorem execRestartBegin_moves (straps : BitVec 5) (s : State) :
    Leads (Moves (.restartBegin straps)) s (execRestartBegin straps s) := by
  unfold execRestartBegin
  split
  · next h =>
    simp only [Bool.and_eq_true] at h
    obtain ⟨⟨-, hr⟩, -⟩ := h
    split
    · simp
    · simp only [leads_done, moves_settle]
      exact resetPart_moves _ _ _ rfl (by revert hr; cases s.startup.phase <;> simp [restartable, phaseChange])
        (fun hn => absurd rfl hn) fun _ h1 => by cases h1
    · split
      · next t ht => simpa using warmStep_moves hr ht
      · simp
  · simp

theorem failStep_moves {s t : State} (h : failStep s = some t) : Moves .supplyFail s t := by
  unfold failStep at h
  split at h
  · next hw =>
    have hs : s.stopping = true := by simp [State.stopping, hw]
    split at h
    · cases h
      have hm : ∀ u, u = (if marksClean s = true then writeMarker s else s) →
          u.time = s.time ∧ u.startup.phase = s.startup.phase ∧ u.journal = s.journal ∧
            u.startup.stopWork = s.startup.stopWork := by
        rintro u rfl
        split <;> exact ⟨rfl, rfl, rfl, rfl⟩
      obtain ⟨htime, hphase, hj, hwork⟩ := hm _ rfl
      exact moves_startup (by simp [htime]) (by simp [htime]) (by simp [htime])
        (fun ht => by simp [State.stopping, hwork, hw] at ht) (fun hn => absurd (by simp [hphase]) hn)
        (fun _ _ => .inl rfl) fun h0 h1 => by simp [hj, h0] at h1
    · split at h
      · cases h
        exact moves_startup rfl rfl (.same _) (fun ht => absurd (hs.symm.trans ht) (by decide))
          (fun _ => rfl) (fun _ _ => .inl rfl) fun _ _ => ⟨rfl, rfl⟩
      · cases h
    · exact (stopEarly_ordinary h).moves _
  · cases h
    exact moves_startup rfl rfl (.same _) (fun ht => by simp [State.stopping, beginFail] at ht)
      (fun hn => absurd rfl hn) (fun _ _ => .inl rfl) fun h0 h1 => absurd (h0.symm.trans h1) (by decide)

theorem execSupplyFail_moves (s : State) : Leads (Moves .supplyFail) s (execSupplyFail s) := by
  unfold execSupplyFail
  split
  · split
    · next t ht => simpa using failStep_moves ht
    · simp
  · simp

/-! ### Every step -/

theorem exec_moves (c : Instr) (s : State) : Leads (Moves c) s (exec c s) := by
  rcases hc : movesVitals c with _ | _
  · exact fun t h => (exec_ordinary c s hc t h).moves c
  · cases c
    case powerOnReset straps => exact execPowerOnReset_moves straps s
    case pinReset straps => exact execPinReset_moves straps s
    case tickEvent fire fail => exact execTickEvent_moves fire fail s
    case setClock => exact execSetClock_moves s
    case clockCountWithoutTick => exact execClockCountWithoutTick_moves s
    case go => exact execGo_moves s
    case restartBegin straps => exact execRestartBegin_moves straps s
    case checkingEnd => exact execCheckingEnd_moves s
    case supplyFail => exact execSupplyFail_moves s
    all_goals cases hc

theorem step_cons {s : State} {c : Instr} {rest : List Instr} (h : s.pending = c :: rest) :
    step s = exec c (s.withPending rest) := by
  simp [step, h]

theorem step_nil {s : State} (h : s.pending = []) : step s = .next s := by
  simp [step, h]

/-- Settles O58: a tick brings every entry one nearer and removes those due, an arming places its entry 1 to 6,000 ahead, and a
reset empties the list. -/
theorem stepsKeepDeadlines : Obligations.StepsKeepDeadlines := by
  intro s t hs h
  rcases hp : s.pending with _ | ⟨c, rest⟩
  · rw [step_nil hp] at h
    cases h; exact hs
  · rw [step_cons hp] at h
    exact (exec_moves c _ t h).deadlines hs

/-- Settles O60: the commands that are not ordinary are taken one by one. -/
theorem onlyTheirEventsMoveThem : Obligations.OnlyTheirEventsMoveThem := by
  intro s t c rest hp h
  rw [step_cons hp] at h
  obtain ⟨hphase, htick, hclock, hmarker, hfrozen, -⟩ := exec_moves c _ t h
  exact ⟨hphase, htick, hclock, hmarker, hfrozen⟩

end Sys2Proof.Machine
end

section
/-!
Rules for the predicates that the statements are written in: what settling, an append, a notice and a reply do to them.
-/

namespace Sys2Proof.Machine

variable {s t u : State} {bs : List Block} {rs : List Record} {x : Trunk}

/-! ### Settling -/

theorem unchangedBut.settled (h : unchangedBut bs s t) : unchangedBut bs s (settle t) := by
  refine ⟨by simpa using h.1, fun b hb => ?_⟩
  have hs := h.2 b hb
  cases b
  case journal =>
    simp only [sameBlock, settle_journal] at hs ⊢
    rw [hs]
  case trunk =>
    simp only [sameBlock, settle_trunk] at hs ⊢
    rw [hs]
  all_goals simpa [sameBlock] using hs

theorem appendsAll.settled (h : appendsAll s t rs) : appendsAll s (settle t) rs := by
  simp only [appendsAll, settle_journal] at h ⊢
  rw [h]

theorem trunkIs.settled (h : trunkIs t x) : trunkIs (settle t) x := by
  simp only [trunkIs, settle_trunk] at h ⊢
  rw [h]

/-! ### Records (R159, R160) -/

theorem appendsAll_nil (h : t.journal = s.journal) : appendsAll s t [] := by
  unfold appendsAll
  rw [h]
  simp

/-- The journal takes appends after an append as before it. -/
theorem appendsAll.journals (h : appendsAll s t rs) (hc : t.trunk.chain = s.trunk.chain) : journals t = journals s := by
  unfold appendsAll at h
  simp only [Machine.journals, State.relayOnly, hc]
  rw [h]

/-- One more append. -/
theorem appendsAll.record (h : appendsAll s t rs) (hc : t.trunk.chain = s.trunk.chain) (r : Record) :
    appendsAll s (appendRecord t r) (rs ++ [r]) := by
  have hj := h.journals hc
  unfold appendsAll at h ⊢
  rw [appendRecord_eq, State.withJournal_journal, hj, h]
  cases Machine.journals s <;> simp

/-- What leaves the journal alone appends nothing. -/
theorem appendsAll.of_journal (h : appendsAll s t rs) (hu : u.journal = t.journal) : appendsAll s u rs := by
  unfold appendsAll at *
  rwa [hu]

/-! ### Notices and replies (R194, R196) -/

theorem trunkIs_refl (t : State) : trunkIs t t.trunk := rfl

theorem noticesWith_append (s : State) (bs cs : List NoticeBody) :
    noticesWith s (bs ++ cs) =
      cs.foldl
        (fun q b =>
          if q.length < 8 then q ++ [{ minute := s.time.clock.minute, second := s.time.clock.second, body := b }] else q)
        (noticesWith s bs) := by
  simp [noticesWith]

theorem trunkIs.answered {r : RequestInHand} (h : trunkIs t s.trunk) (hr : s.trunk.inHand = some r) (a : Answer) :
    answers s (answerRequest t a) r a := by
  have ht : t.trunk.inHand = some r := by rw [h]; exact hr
  unfold answers trunkIs
  rw [answerRequest_some t r a ht, State.withTrunk_trunk]
  unfold trunkIs at h
  rw [h]
  rfl

end Sys2Proof.Machine
end

section
/-!
The Time Unit (01_wing_time.md): the clock's tenth, the tick, minute events, SET_CLOCK, expiries, windows and shifts.
-/

namespace Sys2Proof.Machine

/-! ### The wing clock (R2, R3) -/

/-- A tenth advances the clock as R2 and R3 say. -/
theorem clockTenth_counts (c : Clock) : clockCounts c (clockTenth c) := by
  refine ⟨fun h => ?_, fun h ht => ?_, fun h ht hs => ?_, fun h ht hs => ?_⟩
  · simp [clockTenth, h]
  · simp [clockTenth, h, ht]
  · simp [clockTenth, h, ht, hs]
  · simp only [clockTenth, h, ht, hs, if_true]
    rfl

/-- The minute changes exactly at the turn of a minute. -/
theorem clockTenth_minute_ne (c : Clock) : (clockTenth c).minute ≠ c.minute ↔ minuteTurns c = true := by
  unfold clockTenth minuteTurns
  by_cases h : c.cond = .set <;> by_cases ht : c.tenth = 9 <;> by_cases hs : c.second = 59 <;> simp [h, ht, hs]

/-! ### The tick (R1, R6, R14, R97) -/

theorem ticking_iff (s : State) : s.ticking = true ↔ s.pins.vdd = true ∧ s.startup.phase ≠ .shutdown := by
  simp [State.ticking]

/-- The minute event that the counting of a tick raises (R6). -/
theorem countTick_minuteEvents {s t : State} (ht : s.ticking = true) (hc : t.time.clock = (countTick s).time.clock) :
    (countTick s).time.minuteEvents = s.time.minuteEvents ++ minuteRaised s t := by
  obtain ⟨-, hp⟩ := (ticking_iff s).1 ht
  have hm := clockTenth_minute_ne s.time.clock
  have hclock : t.time.clock = clockTenth s.time.clock := hc
  unfold minuteRaised
  rw [hclock]
  simp only [hm, countTick, State.withTime_time, raisesMinutes]
  by_cases h1 : minuteTurns s.time.clock = true <;> by_cases h2 : s.relayOnly = false <;>
    by_cases h3 : s.startup.phase = .resetting <;> simp [h1, h2, h3, hp]

/-- A tick of a part that stops, or has taken its supply fail: it only counts (R1, R15, R97, R206). -/
theorem tickStep_stopping {s : State} {fire fail : Bool} (hs : s.stopping = true)
    (hf : fail = false ∨ s.startup.failTaken = true)
    (hp : s.startup.phase ≠ .resetting ∨ s.startup.failTaken = true) : tickStep fire fail s = countTick s := by
  have supply : sampleSupply fail (countTick s) = countTick s := by
    unfold sampleSupply
    rcases hf with rfl | hf
    · simp
    · simp [hf]
  have hs' : (countTick s).stopping = true := hs
  have expire : expireDue (countTick s) = countTick s := by simp [expireDue, hs']
  have sample : sampleFire fire (countTick s) = countTick s := by simp [sampleFire, hs']
  unfold tickStep
  rw [supply, expire, sample]
  unfold leaveResetting
  rcases hp with hp | hp <;> simp [hp]

/-- A tick of a part that runs, up to the entry to CHECKING. -/
def ticked (s : State) (fire : Bool) : State := sampleFire fire (expireDue (countTick s))

theorem tickStep_running {s : State} {fire : Bool} : tickStep fire false s = leaveResetting (ticked s fire) := by
  simp [tickStep, ticked, sampleSupply]

/-- Due deadlines expire, in list order (R14). -/
theorem ticked_time {s : State} (fire : Bool) (hs : s.stopping = false) :
    (ticked s fire).time =
      { (countTick s).time with
        deadlines := s.time.deadlines.filter fun d => d.due != s.time.tick + 1
        expiring := s.time.expiring ++
          (s.time.deadlines.filter fun d => d.due == s.time.tick + 1).map fun d => (d.node, d.kind) } := by
  have hs' : (countTick s).stopping = false := hs
  simp only [ticked, sampleFire_frame, expireDue, hs']
  rfl

/-- FIREB is sampled, but by a relay-only part (R97). -/
theorem ticked_override {s : State} (fire : Bool) (hs : s.stopping = false) :
    (ticked s fire).override = if s.relayOnly = true then s.override else fireSampled s.override fire := by
  have hs' : (expireDue (countTick s)).stopping = false := by simpa [State.stopping] using hs
  have hr : (expireDue (countTick s)).relayOnly = s.relayOnly := by simp [State.relayOnly]
  have ho : (expireDue (countTick s)).override = s.override := by simp
  unfold ticked sampleFire
  rw [hs', hr, ho]
  cases s.relayOnly
  · simp only [Bool.or_self, Bool.false_eq_true, if_false, State.withOverride_override, fireSampled]
    by_cases hc : fire = s.override.lastSample ∧ fire ≠ s.override.pinChanges.getLast?.getD s.override.pinAsserted
    · have hp : fire = s.override.lastSample ∧ fire ≠ pinAhead s.override := hc
      rw [if_pos hp, if_pos hc]
    · have hp : ¬ (fire = s.override.lastSample ∧ fire ≠ pinAhead s.override) := hc
      rw [if_neg hp, if_neg hc, List.append_nil]
  · simp

theorem ticked_unchanged (s : State) (fire : Bool) : unchangedBut [.time, .override] s (ticked s fire) := by
  rw [unchangedBut_iff]
  simp [ticked]

theorem execTickEvent_eq {s : State} (ht : s.ticking = true) (fire fail : Bool) :
    exec (.tickEvent fire fail) s = .next (settle (tickStep fire fail s)) := by
  simp [exec, execTickEvent, ht, done]

/-- Settles O1: a tick that runs is `ticked` and no more, one that stops is `countTick` alone. -/
theorem tickCountsClockAndExpiries : Obligations.TickCountsClockAndExpiries := by
  refine ⟨fun s fire ht hs hp => ?_, fun s fire fail ht hs hf hp => ?_⟩
  · have hstep : tickStep fire false s = ticked s fire := by
      rw [tickStep_running, leaveResetting, if_neg]
      simp [ticked, hp]
    have htime := ticked_time fire hs
    have hover := ticked_override fire hs
    refine ⟨_, execTickEvent_eq ht fire false, ?_⟩
    rw [hstep]
    refine ⟨(ticked_unchanged s fire).settled, ?_⟩
    simp only [settle_frame]
    refine ⟨by rw [htime]; rfl, by rw [htime]; exact clockTenth_counts _, by rw [htime], by rw [htime], ?_,
      fun hr => by simp [hover, hr], fun hr => by simp [hover, hr]⟩
    rw [show (ticked s fire).time.minuteEvents = (countTick s).time.minuteEvents by rw [htime]]
    exact countTick_minuteEvents ht (by simp [ticked])
  · refine ⟨_, execTickEvent_eq ht fire fail, ?_⟩
    rw [tickStep_stopping hs hf hp]
    have hu : unchangedBut [.time] s (countTick s) := by
      rw [unchangedBut_iff]
      simp
    refine ⟨hu.settled, ?_, ?_⟩
    · rw [← countTick_minuteEvents ht (by simp)]
      simp only [settle_frame]
      rfl
    · simp only [settle_frame]
      exact clockTenth_counts _

/-! ### Events delivered (R4, R6, R14) -/

theorem takeExpiry_delivered {s : State} {n : Node} {k : DeadlineKind} {kinds : List DeadlineKind}
    (hk : ∀ x, sameOwner k x = kinds.contains x) (h : delivered s n k kinds) :
    takeExpiry s n k = some (s.withTime { s.time with expiring := s.time.expiring.erase (n, k) }) := by
  obtain ⟨hw, hf⟩ := h
  have : (fun x : Node × DeadlineKind => sameOwner k x.2) = fun x => kinds.contains x.2 := funext fun x => hk x.2
  unfold takeExpiry
  rw [this, hf, hw]
  simp

theorem sameOwner_ret (x : DeadlineKind) :
    sameOwner .relatch x = [DeadlineKind.relatch, .ret].contains x ∧
      sameOwner .ret x = [DeadlineKind.relatch, .ret].contains x := by
  cases x <;> decide

/-- Settles O3: each event in turn, by whether its owner takes it up. -/
theorem deliveredEventsAreTaken : Obligations.DeliveredEventsAreTaken := by
  refine ⟨fun s m ms hm => ⟨fun hw => ?_, fun hs => ?_⟩, fun s ha => ?_, fun s n => ⟨fun h => ?_, fun h => ?_⟩⟩
  · have he : exec .minuteEvent s = .next (settle ((s.withTime { s.time with minuteEvents := ms }).withPruner
        { minute := some m, cursor := 0 })) := by
      simp [exec, execMinuteEvent, hm, hw, done]
    refine ⟨_, he, unchangedBut.settled ?_, by simp, by simp⟩
    rw [unchangedBut_iff]
    simp
  · have hw : s.working = false := by simp [State.working, hs]
    exact ⟨by simp [exec, execMinuteEvent, hm, hw, idle], by simp [wants, hasWork, hs]⟩
  · have hc : clockAlone s = true := by
      unfold clockAlone
      rcases ha with ⟨hv, hb⟩ | ⟨hv, hp⟩
      · simp [hv, hb]
      · simp [hv, hp]
    have he : exec .clockCountWithoutTick s =
        .next (settle (s.withTime { s.time with clock := clockTenth s.time.clock })) := by
      simp [exec, execClockCountWithoutTick, hc, done]
    refine ⟨_, he, unchangedBut.settled ?_, by simp, by simpa using clockTenth_counts _⟩
    rw [unchangedBut_iff]
    simp
  · have he : exec (.relatchExpiry n) s = .next (settle (addMinibarWork
        (s.withTime { s.time with expiring := s.time.expiring.erase (n, .relatch) }) (.relatch n))) := by
      simp [exec, execRelatchExpiry, takeExpiry_delivered (fun x => (sameOwner_ret x).1) h, done]
    refine ⟨_, he, unchangedBut.settled ?_, by simp [expiryTaken], by simp [addMinibarWork]⟩
    rw [unchangedBut_iff]
    simp
  · have he : exec (.returnExpiry n) s = .next (settle (addMinibarWork
        (s.withTime { s.time with expiring := s.time.expiring.erase (n, .ret) }) (.ret n))) := by
      simp [exec, execReturnExpiry, takeExpiry_delivered (fun x => (sameOwner_ret x).2) h, done]
    refine ⟨_, he, unchangedBut.settled ?_, by simp [expiryTaken], by simp [addMinibarWork]⟩
    rw [unchangedBut_iff]
    simp

/-! ### SET_CLOCK (R5) -/

/-- Settles O4: the record is appended, and the reply given, after the clock is set. -/
theorem setClockTakesTheTime : Obligations.SetClockTakesTheTime := by
  rintro s ⟨req, tag, uni⟩ m second ⟨hw, hr⟩ rfl
  have he : exec .setClock s = .next (settle (setClock s m second)) := by
    simp [exec, execSetClock, hr, hw, done]
  have ht : (setClock s m second).time = { s.time with clock := clockSet m second } := by
    simp [setClock]
  refine ⟨_, he, unchangedBut.settled ?_, ?_⟩
  · rw [unchangedBut_iff]
    simp
  simp only [settle_frame, ht]
  refine ⟨trivial, rfl, rfl, rfl, rfl, appendsAll.settled ?_, trunkIs.settled ?_⟩
  · have h0 : appendsAll s (s.withTime { s.time with clock := clockSet m second }) [] := appendsAll_nil rfl
    unfold setClock
    refine (h0.record rfl _).of_journal ?_
    simp only [answerRequest_frame]
    rfl
  · unfold setClock
    dsimp only
    have htr : trunkIs (appendPlain (s.withTime { s.time with clock := clockSet m second }) .clockSet
        (.clock (clockSet m second).cond)) s.trunk := by simp [trunkIs]
    have hans := htr.answered hr (.done (be3 m ++ [byteOf (clampSecond second).val, condCode (condAt m)]))
    have hbytes : be3 m ++ [byteOf (clampSecond second).val, condCode (condAt m)] =
        [m.extractLsb' 16 8, m.extractLsb' 8 8, m.extractLsb' 0 8, BitVec.ofNat 8 (min 59 second.toNat),
          if m = 16777215 then 2 else 1] := by
      unfold clampSecond condAt byteOf be3
      rw [show Config.lastMinute = (16777215 : Minute) from rfl]
      split <;> rfl
    rw [← hbytes]
    exact hans

/-! ### Windows and shifts (R9, R10) -/

theorem clamp_le {w lo hi : Nat} (v : BitVec w) (h : lo ≤ hi) : (clamp lo hi v).toNat ≤ hi := by
  unfold clamp
  rw [BitVec.toNat_ofNat]
  exact (Nat.mod_le _ _).trans (by omega)

/-- Settles O5: by the order of a window's two ends. -/
theorem windowsAndShiftsOpen : Obligations.WindowsAndShiftsOpen := by
  refine ⟨fun w m => ⟨fun h => ?_, fun h => ?_, fun h => ?_⟩, fun bs w h => ?_, fun bs p h => ?_,
    fun p t => ⟨?_, fun h => ?_⟩⟩
  · simp [windowOpen, h]
  · simp [windowOpen, h, Nat.not_lt.2 h.le]
  · simp [windowOpen, h]
  · unfold parseWindow at h
    split at h
    · cases h
      exact ⟨clamp_le _ (by omega), clamp_le _ (by omega)⟩
    · cases h
  · unfold parseProfile at h
    split at h
    · cases h
      exact ⟨clamp_le _ (by omega), clamp_le _ (by omega)⟩
    · cases h
  · simp [shiftOpen, testedWeekday, minuteOfDay, weekday, dayNumber]
  · simp [shiftOpen, h]

end Sys2Proof.Machine
end

section
/-!
Resets and supplies (12_start_up_retention_and_supply_failure.md): what `resetPart` leaves, whatever it starts from, and the state
after the first power-on reset as one such.
-/

namespace Sys2Proof.Machine

/-- In RESETTING nothing is offered, nothing is ready and nobody asks for the table port (R162, R170, R187). -/
theorem settle_resetPart (u : State) (cause : StartCause) (straps : BitVec 5) (l : Level) :
    settle (resetPart u cause straps l) = resetPart u cause straps l := by
  have hactive : (resetPart u cause straps l).active = false := by simp [State.active, resetPart]
  have hwait : waitingNow (resetPart u cause straps l) = [] := by
    simp [waitingNow, requesters, wants, hasWork, resetPart, Trunk.initial]
  have hoffer : offerOf (resetPart u cause straps l) = .none := by simp [offerOf, State.working, State.serving, hactive]
  have hup : upReady (resetPart u cause straps l) = false := by simp [upReady, hactive]
  have hdown : downReady (resetPart u cause straps l) = false := by simp [downReady, hactive]
  unfold settle
  rw [hwait, hoffer, hup, hdown]
  rfl

/-- A reset leaves the volatile state of a fresh part (R54, R89, R199, R200). -/
theorem resetPart_fresh {s u : State} (cause : StartCause) (straps : BitVec 5) (l : Level)
    (hpending : u.pending = s.pending) (hpins : u.pins = s.pins) :
    freshPart straps cause s (resetPart u cause straps l) := by
  have hline : ∀ m, lineOf (resetPart u cause straps l) m = .initial := fun m => by simp [lineOf, resetPart]
  have hnode : ∀ n, nodeOf (resetPart u cause straps l) n = .initial := fun n => by
    simp [nodeOf, hline, LineCtl.initial]
  have htrack : ∀ n, trackOf (resetPart u cause straps l) n = .initial := fun n => by simp [trackOf, resetPart]
  have hctx : ∀ k, ctxOf (resetPart u cause straps l) k = .free := fun k => by simp [ctxOf, resetPart]
  refine ⟨hpending, rfl, fun m => by rw [hline]; rfl, fun n => by rw [hnode]; rfl, rfl,
    fun n => by rw [htrack]; rfl, rfl, rfl, fun k => by rw [hctx]; rfl, rfl, rfl, rfl, rfl, rfl, rfl, rfl, rfl, rfl,
    rfl, rfl, rfl, by rw [← hpins]; rfl⟩

/-- A reset keeps the retained store, but for the markers (R68, R205). -/
theorem resetPart_storeKept (s : State) (cause : StartCause) (straps : BitVec 5) (l : Level) :
    storeKept s (resetPart s cause straps l) :=
  ⟨rfl, fun i => by simp [dynOf, resetPart, unmarkedStore, clearMarker]⟩

/-- A reset that finds the backup lost leaves the store cleared (R56 to R63, R68, R134, R205). -/
theorem resetPart_storeCleared {u : State} (cause : StartCause) (straps : BitVec 5) (l : Level)
    (h : u.store = .cleared) : storeCleared (resetPart u cause straps l) := by
  have hs : (resetPart u cause straps l).store = unmarkedStore .cleared := by rw [← h]; rfl
  have hd : ∀ i, dynOf (resetPart u cause straps l) i = .cleared := fun i => by
    unfold dynOf
    rw [hs]
    simp [unmarkedStore, Store.cleared, clearMarker, RoomDyn.cleared]
  refine ⟨by rw [hs]; rfl, fun i => ?_, fun i => ?_, fun i => ?_, fun i => ?_, fun i => ?_, fun i => ?_,
    fun i => by rw [hd]; rfl, by rw [hs]; rfl, by rw [hs]; rfl⟩
  all_goals
    rw [hs]
    simp [unmarkedStore, Store.cleared, DoorEntry.cleared, RoomStatic.cleared]

/-! ### The state after reset -/

/-- The state after reset is what a power-on reset that finds the backup lost leaves (log 1). -/
theorem reset_eq : State.reset = resetPart (loseStore State.reset) .powerOn 0 .normal := by
  have hstore : unmarkedStore (loseStore State.reset).store = .cleared := by
    simp [loseStore, unmarkedStore, Store.cleared, clearMarker, RoomDyn.cleared]
  unfold resetPart
  rw [hstore]
  rfl

/-- A reset from a cleared store with an empty journal holds every invariant. -/
theorem resetPart_sound {u : State} (cause : StartCause) (straps : BitVec 5) (l : Level) (hstore : u.store = .cleared)
    (hjournal : u.journal.records = []) : Sound (resetPart u cause straps l) := by
  obtain ⟨-, -, hline, hnode, hqueue, -, -, hover, hctx, -, -, -, hloader, -, -, htrunk, -⟩ :=
    resetPart_fresh (s := u) cause straps l rfl rfl
  obtain ⟨-, -, -, -, -, -, -, hdyn, hdeny, hcount⟩ := resetPart_storeCleared cause straps l hstore
  have hrecords : (resetPart u cause straps l).journal.records = [] := hjournal
  have hbatch : (resetPart u cause straps l).journal.batch = none := rfl
  have hdeadlines : (resetPart u cause straps l).time.deadlines = [] := rfl
  have hwaiting : ∀ m, (lineOf (resetPart u cause straps l) m).waitingTag = none := fun m => by rw [hline]
  refine ⟨fun i => ?_, ?_, ?_, ?_, ?_, fun he => ?_, fun m => ?_, fun m => ?_, fun h0 => ?_⟩
  · rw [hdyn]
    unfold spanLaw spanOf
    decide
  · simp [denySound, hdeny, hcount]
  · rw [journalSound, hrecords]
    simp [hbatch, htrunk]
  · simp [deadlinesSound, hdeadlines]
  · simp [queuesSound, repliesOwed, hqueue, hloader, htrunk, hwaiting, passUpCount, replyCount]
  · rw [hover] at he
    cases he
  · rw [hline]
    simp [isHolding]
  · have hcommand : ∀ a, (look (lineOf (resetPart u cause straps l) m).nodes a).command = none := fun a => by
      have := hnode { line := m, addr := a }
      unfold nodeOf at this
      rw [this]
    have hfifo : (lineOf (resetPart u cause straps l) m).fifo = [] := by rw [hline]
    simp [hfifo, hcommand]
  · simp [isOpen, hctx] at h0

/-- Settles O44: the state after reset is a power-on reset's that finds the backup lost. -/
theorem resetLeavesRuleValues : Obligations.ResetLeavesRuleValues := by
  refine ⟨?_, ?_, rfl, rfl, rfl, rfl, rfl, ?_⟩
  · have h : freshPart 0 .powerOn State.reset (resetPart (loseStore State.reset) .powerOn 0 .normal) :=
      resetPart_fresh _ _ _ rfl rfl
    rwa [← reset_eq] at h
  · have h : storeCleared (resetPart (loseStore State.reset) .powerOn 0 .normal) := resetPart_storeCleared _ _ _ rfl
    rwa [← reset_eq] at h
  · have h : Sound (resetPart (loseStore State.reset) .powerOn 0 .normal) := resetPart_sound _ _ _ rfl rfl
    rwa [← reset_eq] at h

/-! ### Supplies and resets of the pins -/

theorem exec_powerOnReset (straps : BitVec 5) (s : State) :
    exec (.powerOnReset straps) s =
      .next (resetPart (if s.pins.vbakLost = true then loseStore s else s) .powerOn straps .normal) := by
  simp only [exec, execPowerOnReset, done, settle_resetPart]

theorem exec_pinReset {s : State} (straps : BitVec 5) (h : s.pins.vdd = true) :
    exec (.pinReset straps) s = .next (resetPart s .pin straps .normal) := by
  simp only [exec, execPinReset, h, if_true, done, settle_resetPart]

/-- With VDD absent the part is not active: nothing is offered and nothing is ready (R162, R187). -/
theorem settle_unpowered {s : State} (h : s.pins.vdd = false) :
    (settle s).journal = { s.journal with offer := .none } ∧
      (settle s).trunk = { s.trunk with upRo := false, downRo := false } := by
  have hactive : s.active = false := by simp [State.active, h]
  constructor
  · rw [settle_journal]
    simp [offerOf, State.working, State.serving, hactive]
  · rw [settle_trunk]
    simp [upReady, downReady, hactive]

/-- Settles O45: a reset of the pins is `resetPart`, and a part without VDD offers nothing and is ready for nothing. -/
theorem suppliesAndResets : Obligations.SuppliesAndResets := by
  intro s
  refine ⟨fun hv => ?_, fun hv => ?_, fun straps => ⟨?_, fun hv => ?_⟩⟩
  · have he : exec .vbakOutOfRange s = .next (settle (s.withPins { s.pins with vbakLost := true })) := by
      simp [exec, execVbakOutOfRange, hv, done]
    refine ⟨_, he, unchangedBut.settled ?_, by simp⟩
    rw [unchangedBut_iff]
    simp
  · obtain ⟨u, hu⟩ : ∃ u, u = ((s.withPins { s.pins with vdd := false }).withTrunk
        { s.trunk with upTx := none, downTx := none }).withJournal { s.journal with batch := none } := ⟨_, rfl⟩
    have he : exec .vddFall s = .next (settle u) := by
      rw [hu]
      simp [exec, execVddFall, hv, done]
    obtain ⟨hj, ht⟩ := settle_unpowered (s := u) (by rw [hu]; rfl)
    refine ⟨_, he, unchangedBut.settled ?_, by simp [hu], by rw [hj, hu]; rfl, by rw [ht, hu]; rfl⟩
    rw [unchangedBut_iff, hu]
    simp
  · rw [exec_powerOnReset]
    refine ⟨_, rfl, resetPart_fresh _ _ _ ?_ ?_, rfl, fun hb => ?_, fun hb => ?_⟩
    · split <;> rfl
    · split <;> rfl
    · rw [hb]
      exact ⟨resetPart_storeKept _ _ _ _, rfl, rfl, rfl, by simp [resetPart]⟩
    · rw [hb]
      exact ⟨resetPart_storeCleared _ _ _ rfl, rfl, rfl, rfl, rfl⟩
  · rw [exec_pinReset straps hv]
    exact ⟨_, rfl, resetPart_fresh _ _ _ rfl rfl, rfl, resetPart_storeKept _ _ _ _, rfl, rfl, rfl,
      by simp [resetPart]⟩

end Sys2Proof.Machine
end

section
/-!
A command delivered (03_door_lines.md, R42 to R44; 05_admission.md, R90, R95): the line it leaves, and what its acceptance does to
the door and its deadlines.
-/

namespace Sys2Proof.Machine

/-! ### Stores, nodes and doors -/

theorem put_put {α : Type} {n : Nat} (v : Vector α n) (i : Fin n) (x y : α) : put (put v i x) i y = put v i y := by
  refine store_ext fun j => ?_
  by_cases h : i = j
  · subst h; simp
  · simp [look_put_ne _ h]

theorem nodeIndex_inj {m n : Node} : nodeIndex m = nodeIndex n ↔ m = n := by
  refine ⟨fun h => ?_, fun h => by rw [h]⟩
  obtain ⟨ml, ma⟩ := m
  obtain ⟨nl, na⟩ := n
  simp only [nodeIndex, Fin.mk.injEq] at h
  simp only [Node.mk.injEq, Fin.ext_iff]
  omega

theorem trackOf_setTrack (s : State) (n m : Node) (d : DoorTrack) :
    trackOf (setTrack s n d) m = if m = n then d else trackOf s m := by
  simp [trackOf, setTrack, look_put, nodeIndex_inj, eq_comm]

/-- A DOOR entry is read from the post buffer and the store alone. -/
theorem doorOf_congr {s t : State} (hl : t.loader = s.loader) (hs : t.store = s.store) (n : Node) :
    doorOf t n = doorOf s n := by simp [doorOf, doorAt, hl, hs]

theorem classOf_congr {s t : State} (hl : t.loader = s.loader) (hs : t.store = s.store) (i : Fin 8) :
    classOf t i = classOf s i := by simp [classOf, hl, hs]

theorem doorClass_congr {s t : State} (hl : t.loader = s.loader) (hs : t.store = s.store) (n : Node) :
    doorClass t n = doorClass s n := by simp [doorClass, doorOf_congr hl hs, classOf_congr hl hs]

/-! ### What arming leaves of the Time Unit (R12) -/

/-- Arming reads the Time Unit and the node's DOOR entry alone. -/
theorem arm_congr {s t : State} {n : Node} (k : DeadlineKind) (d : Tick) (ht : t.time = s.time)
    (hd : doorOf t n = doorOf s n) : (arm t n k d).time = (arm s n k d).time := by
  unfold arm armAt
  rw [ht, hd]
  split
  · simp [setDeadlines, ht]
  · exact ht

theorem TimeUnit.eq_withDeadlines {a b : TimeUnit} (htick : b.tick = a.tick) (hclock : b.clock = a.clock)
    (hexp : b.expiring = a.expiring) (hmin : b.minuteEvents = a.minuteEvents) :
    b = { a with deadlines := b.deadlines } := by
  cases a; cases b
  simp_all

theorem belongs_isDoor {k : DeadlineKind} (hk : k = .relock ∨ k = .held) (d : DoorEntry) :
    belongs k d.kind = isDoor d := by
  rcases hk with rfl | rfl <;> rfl

theorem filter_eq_of_filter_eq {p q : Deadline → Bool} {l m : List Deadline} (h : l.filter p = m.filter p)
    (hq : ∀ x, q x = true → p x = true) : l.filter q = m.filter q := by
  have two : ∀ r : List Deadline, (r.filter p).filter q = r.filter q := fun r => by
    rw [List.filter_filter]
    refine List.filter_congr fun x _ => ?_
    cases hx : q x
    · rfl
    · simp [hq x hx]
  rw [← two l, h, two m]

/-- From `a` to `b` at most the entry of one node and kind has changed. -/
structure EntryChanged (n : Node) (k : DeadlineKind) (a b : TimeUnit) : Prop where
  time : b = { a with deadlines := b.deadlines }
  others : b.deadlines.filter (fun e => !(e.node == n && e.kind == k)) =
    a.deadlines.filter fun e => !(e.node == n && e.kind == k)

theorem EntryChanged.same (n : Node) (k : DeadlineKind) (a : TimeUnit) : EntryChanged n k a a := ⟨rfl, rfl⟩

theorem arm_entryChanged (s : State) (n : Node) (k : DeadlineKind) (d : Tick) :
    EntryChanged n k s.time (arm s n k d).time :=
  ⟨TimeUnit.eq_withDeadlines (by simp) (by simp) (by simp) (by simp), arm_others s n k d⟩

/-- A door's deadline is not armed for a node that is no door (R11). -/
theorem arm_noDoor {s : State} {n : Node} {k : DeadlineKind} (d : Tick) (hk : k = .relock ∨ k = .held)
    (h : isDoor (doorOf s n) = false) : (arm s n k d).time = s.time := by
  rw [arm, armAt_other _ _ _ _ ((belongs_isDoor hk _).trans h)]

/-! ### Acceptances at a door (R90, R95) -/

/-- The state a released door takes at the end of its hold, by its contact; any other stands (R95). -/
def holdEnded (k : DoorTrack) : DoorState :=
  match k.state, k.contact with
  | .released, none => .unknown
  | .released, some false => .locked
  | .released, some true => .opened
  | d, _ => d

/-- The state a GRANT leaves: it unlocks a door UNKNOWN or LOCKED (R90). -/
def unlockedBy : DoorState → DoorState
  | .unknown => .unlocked
  | .locked => .unlocked
  | d => d

theorem holdEnded_of_ne {k : DoorTrack} (h : k.state ≠ .released) : holdEnded k = k.state := by
  obtain ⟨state, contact, bolt⟩ := k
  cases state
  case released => exact absurd rfl h
  all_goals rfl

theorem holdEnded_ne (k : DoorTrack) : holdEnded k ≠ .released := by
  obtain ⟨state, contact, bolt⟩ := k
  cases state
  case released => rcases contact with _ | _ | _ <;> exact fun h => nomatch h
  all_goals exact fun h => nomatch h

/-- From `s` to `t` the door of node `n` takes the state `d`; its contact, its deadbolt and every other door stand. -/
structure DoorSet (n : Node) (d : DoorState) (s t : State) : Prop where
  track : trackOf t n = { trackOf s n with state := d }
  others : ∀ m, m ≠ n → trackOf t m = trackOf s m

theorem DoorSet.same (s : State) (n : Node) : DoorSet n (trackOf s n).state s s := ⟨rfl, fun _ _ => rfl⟩

theorem DoorSet.step {n : Node} {d e : DoorState} {s t u : State} (h : DoorSet n d s t) (g : DoorSet n e t u) :
    DoorSet n e s u :=
  ⟨by rw [g.track, h.track], fun m hm => (g.others m hm).trans (h.others m hm)⟩

/-- The Door Tracker alone is read. -/
theorem DoorSet.of_tracker {n : Node} {d : DoorState} {s t u : State} (h : DoorSet n d s t)
    (hu : u.tracker = t.tracker) : DoorSet n d s u :=
  ⟨by rw [← h.track]; simp [trackOf, hu], fun m hm => by rw [← h.others m hm]; simp [trackOf, hu]⟩

theorem setDoorState_door (s : State) (n : Node) (d : DoorState) : DoorSet n d s (setDoorState s n d) :=
  ⟨by simp [setDoorState, trackOf_setTrack], fun m hm => by simp [setDoorState, trackOf_setTrack, hm]⟩

/-- The end of a hold (R95). -/
theorem releaseEndAccepted_door (s : State) (n : Node) :
    DoorSet n (holdEnded (trackOf s n)) s (releaseEndAccepted s n) := by
  unfold releaseEndAccepted
  split
  · next hr =>
    have he : ∀ c, (trackOf s n).contact = c →
        holdEnded (trackOf s n) = holdEnded { state := .released, contact := c, deadbolt := false } := fun c hc => by
      unfold holdEnded; rw [hr, hc]
    split
    · next hc => rw [he _ hc]; exact setDoorState_door _ _ _
    · next hc => rw [he _ hc]; exact setDoorState_door _ _ _
    · next hc => rw [he _ hc]; exact (setDoorState_door s n .opened).of_tracker (by simp)
  · next hr => rw [holdEnded_of_ne hr]; exact .same s n

theorem grantAccepted_door (s : State) (n : Node) :
    DoorSet n (unlockedBy (trackOf s n).state) s (grantAccepted s n) := by
  have keep : ∀ d, (trackOf s n).state = d → DoorSet n d s (armRelock s n) := fun d hd => by
    subst hd
    exact (DoorSet.same s n).of_tracker (by simp)
  unfold grantAccepted
  split
  · next h => rw [h]; exact (setDoorState_door s n .unlocked).of_tracker (by simp)
  · next h => rw [h]; exact (setDoorState_door s n .unlocked).of_tracker (by simp)
  · next h => rw [h]; exact keep _ h
  · next h => rw [h]; exact keep _ h
  · next h => rw [h]; exact keep _ h
  · next h => rw [h]; exact keep _ h
  · next h =>
    have := DoorSet.same s n
    rw [h] at this ⊢
    exact this

theorem holdOpenAccepted_door (s : State) (n : Node) : DoorSet n .released s (holdOpenAccepted s n) :=
  ((DoorSet.same s n).of_tracker (by simp)).step (setDoorState_door _ _ _)

/-- The end of a hold arms HELD if the contact is open, and leaves the deadlines otherwise (R95). -/
theorem releaseEndAccepted_time (s : State) (n : Node) :
    (releaseEndAccepted s n).time =
      if (trackOf s n).state = .released ∧ (trackOf s n).contact = some true then (armHeld s n).time else s.time := by
  unfold releaseEndAccepted
  split
  · next hr =>
    split
    · next hc => simp [hc]
    · next hc => simp [hc]
    · next hc =>
      rw [if_pos ⟨hr, hc⟩]
      unfold armHeld
      rw [doorClass_congr (s := s) (by simp) (by simp)]
      exact arm_congr _ _ (by simp) (doorOf_congr (by simp) (by simp) n)
  · next hr => simp [hr]

/-- A GRANT arms RELOCK but at a released door (R90). -/
theorem grantAccepted_time (s : State) (n : Node) :
    (grantAccepted s n).time = if (trackOf s n).state = .released then s.time else (armRelock s n).time := by
  have moved : ∀ d, (armRelock (setDoorState s n d) n).time = (armRelock s n).time := fun d => by
    unfold armRelock
    rw [doorClass_congr (s := s) (by simp) (by simp)]
    exact arm_congr _ _ (by simp) (doorOf_congr (by simp) (by simp) n)
  unfold grantAccepted
  split
  all_goals next h => simp [h, moved]

theorem holdOpenAccepted_deadlines (s : State) (n : Node) :
    (holdOpenAccepted s n).time.deadlines =
      s.time.deadlines.filter fun d => !(d.node == n && (d.kind == .relock || d.kind == .held)) := by
  simp only [holdOpenAccepted, setDoorState, setTrack_frame, cancel, setDeadlines, State.withTime_time,
    List.filter_filter]
  refine List.filter_congr fun d _ => ?_
  by_cases hn : d.node = n <;> by_cases h1 : d.kind = .relock <;> by_cases h2 : d.kind = .held <;> simp [hn, h1, h2]

/-- A door node's hold ended first when its command carries the duty (R43, R95). -/
def holdEndedFirst (s : State) (n : Node) (duty : Bool) : State := if duty = true then releaseEndAccepted s n else s

theorem handAcceptance_eq {d : DoorEntry} (hd : isDoor d = true) (s : State) (n : Node) (c : Command) (duty : Bool) :
    handAcceptance s n d c duty = acceptedByDoor (holdEndedFirst s n duty) n c := by
  simp only [handAcceptance, hd, if_true, holdEndedFirst]

section
variable (s : State) (n : Node) (duty : Bool)

theorem holdEndedFirst_door :
    DoorSet n (if duty = true then holdEnded (trackOf s n) else (trackOf s n).state) s (holdEndedFirst s n duty) := by
  unfold holdEndedFirst
  cases duty
  · exact .same s n
  · exact releaseEndAccepted_door s n

theorem holdEndedFirst_time :
    (holdEndedFirst s n duty).time =
      if duty = true ∧ (trackOf s n).state = .released ∧ (trackOf s n).contact = some true then (armHeld s n).time
      else s.time := by
  unfold holdEndedFirst
  cases duty
  · simp
  · simp [releaseEndAccepted_time]

theorem holdEndedFirst_doorOf : doorOf (holdEndedFirst s n duty) n = doorOf s n := by
  unfold holdEndedFirst
  split
  · exact doorOf_congr (by simp) (by simp) n
  · rfl

theorem holdEndedFirst_doorClass : doorClass (holdEndedFirst s n duty) n = doorClass s n := by
  unfold holdEndedFirst
  split
  · exact doorClass_congr (by simp) (by simp) n
  · rfl

theorem holdEndedFirst_entryChanged : EntryChanged n .held s.time (holdEndedFirst s n duty).time := by
  rw [holdEndedFirst_time]
  split
  · exact arm_entryChanged _ _ _ _
  · exact .same _ _ _

end

/-! ### Lines -/

theorem lineOf_setLine (s : State) (l m : LineNo) (c : LineCtl) :
    lineOf (setLine s l c) m = if m = l then c else lineOf s m := by
  simp [lineOf, setLine, look_put, eq_comm]

/-- From `s` to `t` the line `l` becomes `c`, and every other line stands. -/
structure LineSet (l : LineNo) (c : LineCtl) (s t : State) : Prop where
  line : lineOf t l = c
  others : linesBut l s t

theorem LineSet.same (l : LineNo) (s : State) : LineSet l (lineOf s l) s s := ⟨rfl, fun _ _ => rfl⟩

theorem LineSet.set {l : LineNo} {c : LineCtl} {s t : State} (h : LineSet l c s t) (d : LineCtl) :
    LineSet l d s (setLine t l d) :=
  ⟨by simp [lineOf_setLine], fun m hm => by rw [lineOf_setLine, if_neg hm]; exact h.others m hm⟩

theorem LineSet.of_lines {l : LineNo} {c : LineCtl} {s t u : State} (h : LineSet l c s t) (hu : u.lines = t.lines) :
    LineSet l c s u :=
  ⟨by rw [← h.line]; simp [lineOf, hu], fun m hm => by rw [← h.others m hm]; simp [lineOf, hu]⟩

/-- A good answer's count and presence (R39, R40). -/
theorem LineSet.goodAnswer {l : LineNo} {c : LineCtl} {s t : State} (h : LineSet l c s t) (a : Addr) :
    LineSet l (c.withNode a { look c.nodes a with missed := 0, silent := false }) s
      (goodAnswer t { line := l, addr := a }) := by
  have hset := h.set (c.withNode a { look c.nodes a with missed := 0, silent := false })
  have hx : nodeOf t { line := l, addr := a } = look c.nodes a := by rw [nodeOf, h.line]
  refine hset.of_lines ?_
  unfold Machine.goodAnswer
  simp only [hx]
  split <;> simp [setNode, h.line]

theorem stampedRecord_congr {s t : State} (h : t.time.clock = s.time.clock) (k : RecordKind) :
    stampedRecord t k = stampedRecord s k := by
  unfold stampedRecord
  rw [h]

/-- A record about a node, with no detail, appended at the time of `s`. -/
theorem appendsAll.node {s t : State} {rs : List Record} (h : appendsAll s t rs) (hc : t.trunk.chain = s.trunk.chain)
    (hclock : t.time.clock = s.time.clock) (k : RecordKind) (n : Node) :
    appendsAll s (appendNode t k n .absent) (rs ++ [{ stampedRecord s k with node := some (.node n) }]) := by
  have := h.record hc { stampedRecord s k with node := some (.node n) }
  unfold appendNode
  rw [stampedRecord_congr hclock]
  exact this

/-- The record of a good answer: a SILENT node is back (R40). -/
theorem appendsAll.goodAnswer {s t : State} {rs : List Record} (n : Node) (h : appendsAll s t rs)
    (hc : t.trunk.chain = s.trunk.chain) (hclock : t.time.clock = s.time.clock)
    (hn : (nodeOf t n).silent = (nodeOf s n).silent) :
    appendsAll s (goodAnswer t n) (rs ++ backRecord s n) := by
  unfold Machine.goodAnswer backRecord
  dsimp only
  rw [hn]
  split
  · exact appendsAll.node (h.of_journal (by simp)) (by simpa using hc) (by simpa using hclock) _ _
  · rw [List.append_nil]
    exact h.of_journal (by simp)

/-! ### A delivered command -/

/-- The part after a delivered command, before its acceptance is handed on: the exchange is over, a command still pending is done
with, and a configured node has answered well (R39, R40, R44). -/
def commandHeard (s : State) (l : LineNo) (a : Addr) (d : DoorEntry) (pending : Prop) [Decidable pending] : State :=
  let s1 := endExchange s l
  let s2 := if pending then setLine s1 l (dropCommand (lineOf s1 l) a .dropped) else s1
  if configured d then goodAnswer s2 { line := l, addr := a } else s2

theorem commandAccepted_eq (s : State) (l : LineNo) (e : Exchange) (a : Addr) (c : Command) (duty : Bool) (fate : Fate) :
    commandAccepted s l e a c duty fate =
      if fate = .withdrawn ∨ fate = .dropped then
        commandHeard s l a (begunUnder s l e a) (fate = .live ∨ fate = .withdrawn)
      else
        handAcceptance (commandHeard s l a (begunUnder s l e a) (fate = .live ∨ fate = .withdrawn))
          { line := l, addr := a } (begunUnder s l e a) c duty := by
  rw [← doorDuring_eq]
  rfl

section
variable (s : State) (l : LineNo) (a : Addr) (d : DoorEntry) (pending : Prop) [Decidable pending]

theorem commandHeard_unchanged : unchangedBut [.lines, .journal] s (commandHeard s l a d pending) := by
  rw [unchangedBut_iff]
  unfold commandHeard
  dsimp only
  repeat' split
  all_goals simp

/-- The line of a delivered command. -/
theorem commandHeard_line :
    LineSet l
      { lineOf s l with
        exchange := none
        fifo := if pending then (lineOf s l).fifo.filter (fun b => b != a) else (lineOf s l).fifo
        nodes :=
          put (lineOf s l).nodes a
            (let x := look (lineOf s l).nodes a
             let heard : NodeCtl := if configured d then { x with missed := 0, silent := false } else x
             if pending then { heard with command := none, attempts := 0, duty := false } else heard) }
      s (commandHeard s l a d pending) := by
  have h1 := (LineSet.same l s).set { lineOf s l with exchange := none }
  have h2 := h1.set (dropCommand { lineOf s l with exchange := none } a .dropped)
  unfold commandHeard endExchange
  dsimp only
  rw [lineOf_setLine, if_pos rfl]
  by_cases hp : pending <;> cases hd : configured d
  · simpa [hp, hd, dropCommand, LineCtl.withNode, bne, beq_eq_decide] using h2
  · have h3 := h2.goodAnswer a
    simpa [hp, hd, dropCommand, LineCtl.withNode, bne, beq_eq_decide, put_put] using h3
  · simpa [hp, hd, put_look] using h1
  · simpa [hp, hd, LineCtl.withNode] using h1.goodAnswer a

theorem commandHeard_records :
    appendsAll s (commandHeard s l a d pending)
      (if configured d then backRecord s { line := l, addr := a } else []) := by
  unfold commandHeard
  dsimp only
  obtain ⟨u, hu⟩ : ∃ u, u = if pending then
      setLine (endExchange s l) l (dropCommand (lineOf (endExchange s l) l) a .dropped) else endExchange s l := ⟨_, rfl⟩
  have hframe : u.journal = s.journal ∧ u.trunk = s.trunk ∧ u.time = s.time := by
    rw [hu]
    split <;> simp
  obtain ⟨hj, htrunk, htime⟩ := hframe
  have hsilent : (nodeOf u { line := l, addr := a }).silent = (nodeOf s { line := l, addr := a }).silent := by
    rw [hu]
    split <;> simp [nodeOf, lineOf_setLine, endExchange, dropCommand, LineCtl.withNode]
  rw [← hu]
  split
  · exact (appendsAll_nil hj).goodAnswer _ (by rw [htrunk]) (by rw [htime]) hsilent
  · exact appendsAll_nil hj

end

theorem execCommandDelivered_eq {s : State} {l : LineNo} {e : Exchange} {a : Addr} {c : Command} {duty : Bool} {fate : Fate}
    (hf : flying s l e) (hk : e.kind = .command a c duty fate) :
    exec (.commandDelivered l) s = .next (settle (commandAccepted s l e a c duty fate)) := by
  simp [exec, execCommandDelivered, inFlight, hf.1, hf.2, hk, done]

/-! ### Its acceptance at a door -/

/-- The state of a door its acceptance is taken in: its hold ended first where the command carries the duty (R43). -/
def heardState (k : DoorTrack) (duty : Bool) : DoorState := if duty = true then holdEnded k else k.state

/-- The state a door takes on an acceptance, its hold ended first where the command carries the duty (R43, R90, R95). -/
def acceptedState (k : DoorTrack) (c : Command) (duty : Bool) : DoorState :=
  match c with
  | .grant _ => unlockedBy (heardState k duty)
  | .holdOpen => .released
  | .releaseEnd => holdEnded { k with state := heardState k duty }
  | _ => heardState k duty

/-- An acceptance ends a hold with the contact open (R95): RELEASE_END itself, or the duty of a command but HOLD_OPEN. -/
def endsOpenHold (k : DoorTrack) (c : Command) (duty : Bool) : Prop :=
  (c = .releaseEnd ∨ duty = true) ∧ c ≠ .holdOpen ∧ k.state = .released ∧ k.contact = some true

section
variable {u : State} {n : Node} {d : DoorEntry} {c : Command} {duty : Bool}

theorem handAcceptance_door (hd : isDoor d = true) :
    DoorSet n (acceptedState (trackOf u n) c duty) u (handAcceptance u n d c duty) := by
  have hv := holdEndedFirst_door u n duty
  have hs := congrArg DoorTrack.state hv.track
  rw [handAcceptance_eq hd]
  cases c
  case grant o =>
    have := hv.step (grantAccepted_door _ n)
    rwa [hs] at this
  case holdOpen => exact hv.step (holdOpenAccepted_door _ n)
  case releaseEnd =>
    have := hv.step (releaseEndAccepted_door _ n)
    rwa [hv.track] at this
  all_goals exact hv

/-- A hold ended with the contact open arms HELD; where no GRANT is accepted and no hold begins, nothing else moves the
deadlines (R95). -/
theorem handAcceptance_time_plain (hd : isDoor d = true) (hg : ∀ o, c ≠ .grant o) (ho : c ≠ .holdOpen) :
    (endsOpenHold (trackOf u n) c duty → (handAcceptance u n d c duty).time = (armHeld u n).time) ∧
      (¬ endsOpenHold (trackOf u n) c duty → (handAcceptance u n d c duty).time = u.time) := by
  have hv := holdEndedFirst_time u n duty
  rw [handAcceptance_eq hd]
  by_cases hr : c = .releaseEnd
  · subst hr
    have ht := releaseEndAccepted_time (holdEndedFirst u n duty) n
    rw [(holdEndedFirst_door u n duty).track] at ht
    simp only [acceptedByDoor, endsOpenHold, ht]
    cases duty
    · simp [holdEndedFirst]
      tauto
    · simp only [if_true, holdEnded_ne, false_and, if_false, hv, true_and]
      simp
      tauto
  · have hp : acceptedByDoor (holdEndedFirst u n duty) n c = holdEndedFirst u n duty := by
      cases c
      case grant o => exact absurd rfl (hg o)
      case holdOpen => exact absurd rfl ho
      case releaseEnd => exact absurd rfl hr
      all_goals rfl
    rw [hp, hv]
    simp [endsOpenHold, hr, ho]
    tauto

/-- An accepted GRANT arms RELOCK, but at a released door, after a hold ended first (R43, R90). -/
theorem handAcceptance_time_grant (hd : isDoor d = true) (o : Byte) :
    (handAcceptance u n d (.grant o) duty).time =
      if heardState (trackOf u n) duty = .released then (holdEndedFirst u n duty).time
      else (armRelock (holdEndedFirst u n duty) n).time := by
  rw [handAcceptance_eq hd]
  have ht := grantAccepted_time (holdEndedFirst u n duty) n
  rwa [(holdEndedFirst_door u n duty).track] at ht

/-- Only RELOCK and HELD of the door move (R90, R95). -/
theorem handAcceptance_entries (hd : isDoor d = true) :
    (handAcceptance u n d c duty).time =
        { u.time with deadlines := (handAcceptance u n d c duty).time.deadlines } ∧
      (handAcceptance u n d c duty).time.deadlines.filter
          (fun e => !(e.node == n && (e.kind == .relock || e.kind == .held))) =
        u.time.deadlines.filter fun e => !(e.node == n && (e.kind == .relock || e.kind == .held)) := by
  refine ⟨TimeUnit.eq_withDeadlines (by simp) (by simp) (by simp) (by simp), ?_⟩
  have either : ∀ k, k = .relock ∨ k = .held → ∀ a b : TimeUnit, EntryChanged n k a b →
      b.deadlines.filter (fun e => !(e.node == n && (e.kind == .relock || e.kind == .held))) =
        a.deadlines.filter fun e => !(e.node == n && (e.kind == .relock || e.kind == .held)) := fun k hk a b h =>
    filter_eq_of_filter_eq h.others fun e he => by
      rcases hk with rfl | rfl
      all_goals
        by_cases hn : e.node = n
        · simp_all
        · simp [hn]
  have hv := either _ (.inr rfl) _ _ (holdEndedFirst_entryChanged u n duty)
  by_cases hg : ∃ o, c = .grant o
  · obtain ⟨o, rfl⟩ := hg
    rw [handAcceptance_time_grant hd, ← hv]
    split
    · rfl
    · exact either _ (.inl rfl) _ _ (arm_entryChanged _ _ _ _)
  · by_cases ho : c = .holdOpen
    · subst ho
      rw [handAcceptance_eq hd, ← hv]
      simp only [acceptedByDoor, holdOpenAccepted_deadlines, List.filter_filter, Bool.and_self]
    · obtain ⟨h1, h2⟩ := handAcceptance_time_plain (u := u) (n := n) (duty := duty) hd (fun o h => hg ⟨o, h⟩) ho
      by_cases ha : endsOpenHold (trackOf u n) c duty
      · rw [h1 ha]
        exact either _ (.inr rfl) _ _ (arm_entryChanged _ _ _ _)
      · rw [h2 ha]

/-- At a node that is no door now no deadline is armed (R11, log 60). -/
theorem handAcceptance_noDoorNow (hd : isDoor d = true) (hn : isDoor (doorOf u n) = false) (ho : c ≠ .holdOpen) :
    (handAcceptance u n d c duty).time = u.time := by
  have held : (armHeld u n).time = u.time := arm_noDoor _ (.inr rfl) hn
  have hv : (holdEndedFirst u n duty).time = u.time := by
    rw [holdEndedFirst_time]
    split
    · exact held
    · rfl
  by_cases hg : ∃ o, c = .grant o
  · obtain ⟨o, rfl⟩ := hg
    rw [handAcceptance_time_grant hd]
    split
    · exact hv
    · rw [← hv]
      exact arm_noDoor _ (.inl rfl) ((holdEndedFirst_doorOf u n duty).symm ▸ hn)
  · obtain ⟨h1, h2⟩ := handAcceptance_time_plain (u := u) (n := n) (duty := duty) hd (fun o h => hg ⟨o, h⟩) ho
    by_cases ha : endsOpenHold (trackOf u n) c duty
    · exact (h1 ha).trans held
    · exact h2 ha

/-- The one RELOCK entry after a GRANT (R90). -/
theorem handAcceptance_relock (hd : isDoor d = true) (o : Byte)
    (hb : heardState (trackOf u n) duty ≠ .released)
    (hn : isDoor (doorOf u n) = true) (h1 : 1 ≤ (doorClass u n).openTime.toNat) :
    (handAcceptance u n d (.grant o) duty).time.deadlines.filter (fun e => e.node == n && e.kind == .relock) =
      [{ due := u.time.tick + (doorClass u n).openTime.setWidth 32, node := n, kind := .relock }] := by
  rw [handAcceptance_time_grant hd, if_neg hb]
  have hw : ((doorClass u n).openTime.setWidth 32).toNat = (doorClass u n).openTime.toNat := by
    simp
    omega
  have htick : (holdEndedFirst u n duty).time.tick = u.time.tick := by
    rw [(holdEndedFirst_entryChanged u n duty).time]
  have hlt := (doorClass u n).openTime.isLt
  unfold armRelock
  rw [holdEndedFirst_doorClass, ← htick]
  refine arm_entry _ _ _ _ ?_ (by omega) (by omega)
  rw [belongs_isDoor (.inl rfl), holdEndedFirst_doorOf, hn]

/-- The one HELD entry after a hold that ends with the contact open (R91, R95). -/
theorem handAcceptance_held (hd : isDoor d = true) (ha : endsOpenHold (trackOf u n) c duty)
    (hn : isDoor (doorOf u n) = true) (h1 : 1 ≤ (doorClass u n).heldLimit.toNat)
    (h2 : (doorClass u n).heldLimit.toNat ≤ 6000) :
    (handAcceptance u n d c duty).time.deadlines.filter (fun e => e.node == n && e.kind == .held) =
      [{ due := u.time.tick + (doorClass u n).heldLimit.setWidth 32, node := n, kind := .held }] := by
  have hw : ((doorClass u n).heldLimit.setWidth 32).toNat = (doorClass u n).heldLimit.toNat := by
    simp
    omega
  have entry : (armHeld u n).time.deadlines.filter (fun e => e.node == n && e.kind == .held) =
      [{ due := u.time.tick + (doorClass u n).heldLimit.setWidth 32, node := n, kind := .held }] :=
    arm_entry _ _ _ _ (by rw [belongs_isDoor (.inr rfl), hn]) (by omega) (by omega)
  obtain ⟨hend, ho, hr, hc⟩ := ha
  by_cases hg : ∃ o, c = .grant o
  · obtain ⟨o, rfl⟩ := hg
    have hduty : duty = true := hend.resolve_left nofun
    have hv : (holdEndedFirst u n duty).time = (armHeld u n).time := by
      rw [holdEndedFirst_time, if_pos ⟨hduty, hr, hc⟩]
    rw [handAcceptance_time_grant hd, heardState, if_pos hduty, if_neg (holdEnded_ne _), ← entry, ← hv]
    refine filter_eq_of_filter_eq (arm_entryChanged _ _ _ _).others fun e he => ?_
    simp_all
  · rw [(handAcceptance_time_plain hd (fun o h => hg ⟨o, h⟩) ho).1 ⟨hend, ho, hr, hc⟩, entry]

/-- A GRANT at a released door moves no deadline: no hold can have been ended first (R90). -/
theorem handAcceptance_time_released (hd : isDoor d = true) (o : Byte)
    (hb : heardState (trackOf u n) duty = .released) : (handAcceptance u n d (.grant o) duty).time = u.time := by
  have hduty : duty = false := by
    cases duty
    · rfl
    · exact absurd hb (holdEnded_ne _)
  rw [handAcceptance_time_grant hd, if_pos hb, hduty]
  rfl

/-- A GRANT at a door not released moves RELOCK alone (R90). -/
theorem handAcceptance_others_grant (hd : isDoor d = true) (o : Byte) (hk : (trackOf u n).state ≠ .released) :
    (handAcceptance u n d (.grant o) duty).time.deadlines.filter (fun e => !(e.node == n && e.kind == .relock)) =
      u.time.deadlines.filter fun e => !(e.node == n && e.kind == .relock) := by
  have hv : (holdEndedFirst u n duty).time = u.time := by
    rw [holdEndedFirst_time, if_neg fun hc => hk hc.2.1]
  rw [handAcceptance_time_grant hd, ← hv]
  split
  · rfl
  · exact arm_others _ _ _ _

/-- HOLD_OPEN cancels RELOCK and HELD (R95). -/
theorem handAcceptance_holdOpen (hd : isDoor d = true) :
    (handAcceptance u n d .holdOpen duty).time.deadlines =
      u.time.deadlines.filter fun e => !(e.node == n && (e.kind == .relock || e.kind == .held)) := by
  rw [handAcceptance_eq hd]
  refine (holdOpenAccepted_deadlines _ n).trans ?_
  refine filter_eq_of_filter_eq (holdEndedFirst_entryChanged u n duty).others fun e he => ?_
  by_cases hn : e.node = n
  · simp_all
  · simp [hn]

end

/-- RELEASE_END ends a hold once, with its duty or without. -/
theorem releaseEnd_state (k : DoorTrack) (duty : Bool) : acceptedState k .releaseEnd duty = holdEnded k := by
  cases duty
  · rfl
  · exact holdEnded_of_ne (k := { k with state := holdEnded k }) (holdEnded_ne k)

theorem acceptedState_other (k : DoorTrack) {c : Command} (duty : Bool) (hg : ∀ o, c ≠ .grant o) (ho : c ≠ .holdOpen)
    (hr : c ≠ .releaseEnd) : acceptedState k c duty = heardState k duty := by
  cases c
  case grant o => exact absurd rfl (hg o)
  case holdOpen => exact absurd rfl ho
  case releaseEnd => exact absurd rfl hr
  all_goals rfl

/-- Settles O21: the line and the record are those of `commandHeard`, and what is handed on is read off the acceptance. -/
theorem deliveredCommandIsAccepted : Obligations.DeliveredCommandIsAccepted := by
  intro s l a e c duty fate hf hk n x d k time limit pending handed heard ended base arms
  obtain ⟨u, hu⟩ : ∃ u, u = commandHeard s l a d pending := ⟨_, rfl⟩
  obtain ⟨t, ht⟩ : ∃ t, t = commandAccepted s l e a c duty fate := ⟨_, rfl⟩
  have hline : LineSet l _ s u := hu ▸ commandHeard_line s l a d pending
  have hrecords : appendsAll s u _ := hu ▸ commandHeard_records s l a d pending
  have hsame : unchangedBut _ s u := hu ▸ commandHeard_unchanged s l a d pending
  have htime : u.time = s.time := hsame.2 .time (by decide)
  have htracker : u.tracker = s.tracker := hsame.2 .tracker (by decide)
  have hstore : u.store = s.store := hsame.2 .store (by decide)
  have hloader : u.loader = s.loader := hsame.2 .loader (by decide)
  have hcases : (¬ handed ∧ t = u) ∨ (handed ∧ t = handAcceptance u n d c duty) := by
    rw [ht, commandAccepted_eq]
    split
    · next hw => exact .inl ⟨fun h => hw.elim h.2.1 h.2.2, hu.symm⟩
    · next hw =>
      rw [not_or] at hw
      rcases hd : isDoor d with _ | _
      · refine .inl ⟨fun h => absurd h.1 (by simp [hd]), ?_⟩
        rw [← hu, handAcceptance, hd]
        rfl
      · exact .inr ⟨⟨hd, hw.1, hw.2⟩, by rw [hu]⟩
  have hlines : t.lines = u.lines ∧ t.journal = u.journal ∧ t.tracker.writes = u.tracker.writes ∧
      ∀ m, m ≠ n → trackOf t m = trackOf u m := by
    rcases hcases with ⟨-, h⟩ | ⟨hh, h⟩
    · rw [h]; exact ⟨rfl, rfl, rfl, fun _ _ => rfl⟩
    · rw [h]; exact ⟨by simp, by simp, by simp, (handAcceptance_door hh.1).others⟩
  obtain ⟨htl, htj, htw, hto⟩ := hlines
  have htrack : ∀ m, trackOf u m = trackOf s m := fun m => by simp [trackOf, htracker]
  have hdoor : doorOf u n = doorOf s n := doorOf_congr hloader hstore n
  have hclass : doorClass u n = classOf s (doorOf s n).cls := doorClass_congr hloader hstore n
  refine ⟨settle t, ht ▸ execCommandDelivered_eq hf hk, unchangedBut.settled ?_, ?_, ?_, ?_,
    (hrecords.of_journal htj).settled, fun hn => ?_, fun hh => ?_⟩
  · rw [unchangedBut_iff, ht]
    simp
  · exact fun m hm => ((hline.of_lines htl).of_lines (by simp)).others m hm
  · exact ⟨by simp [htw, htracker], fun m hm => by
      rw [← htrack m, ← hto m hm]; simp [trackOf]⟩
  · exact ((hline.of_lines htl).of_lines (by simp)).line
  · rcases hcases with ⟨-, h⟩ | ⟨hh, -⟩
    · simp [h, htime, htracker]
    · exact absurd hh hn
  · rcases hcases with ⟨hn, -⟩ | ⟨-, h⟩
    · exact absurd hh hn
    have hd : isDoor d = true := hh.1
    have hset : DoorSet n (acceptedState k c duty) u t := by
      rw [h, show k = trackOf u n from (htrack n).symm]
      exact handAcceptance_door hd
    have hn : trackOf (settle t) n = { k with state := acceptedState k c duty } := by
      rw [show trackOf (settle t) n = trackOf t n by simp [trackOf], hset.track, htrack]
    simp only [hn, settle_frame]
    have hbase : heardState (trackOf u n) duty = base := by rw [htrack]; rfl
    have hplain := handAcceptance_time_plain (u := u) (n := n) (c := c) (duty := duty) hd
    rw [htrack, ← h, htime] at hplain
    have hrest := handAcceptance_entries (u := u) (n := n) (c := c) (duty := duty) hd
    rw [← h, htime] at hrest
    refine ⟨trivial, trivial, ?_, ?_, ?_, ?_, fun hdn ho => ?_, hrest.1, hrest.2, fun hg ho hr => ⟨?_, ?_⟩⟩
    · rintro o rfl
      refine ⟨rfl, fun hb => ?_, fun hb hdn h1 => ?_, fun hk => ?_⟩
      · rw [h, ← htime]
        exact handAcceptance_time_released hd o (hbase.trans hb)
      · have := handAcceptance_relock hd o (hbase.trans_ne hb) (hdoor.symm ▸ hdn) (hclass.symm ▸ h1)
        rwa [← h, hclass, htime] at this
      · rw [h, ← htime]
        exact handAcceptance_others_grant hd o (by rwa [htrack])
    · rintro rfl
      refine ⟨rfl, ?_⟩
      rw [h, ← htime]
      exact handAcceptance_holdOpen hd
    · rintro rfl
      refine ⟨?_, fun hk => (hplain nofun nofun).2 fun ⟨_, _, hne, hopen⟩ => hk.elim (· hne) (· hopen)⟩
      exact releaseEnd_state k duty
    · intro harms hdn h1 h2
      refine ⟨?_, fun hg => ?_⟩
      · have := handAcceptance_held hd (u := u) (by rw [htrack]; exact harms) (hdoor.symm ▸ hdn) (hclass.symm ▸ h1)
          (hclass.symm ▸ h2)
        rwa [← h, hclass, htime] at this
      · rw [(hplain hg harms.2.1).1 harms, ← htime]
        exact arm_others _ _ _ _
    · rw [h, ← htime]
      exact handAcceptance_noDoorNow hd (hdoor.symm ▸ hdn) ho
    · exact acceptedState_other k duty hg ho hr
    · exact fun ha => (hplain hg ho).2 ha

end Sys2Proof.Machine
end

section
/-!
The end of a session (06_issue_and_supersession.md, R112 to R115): what `endSession` leaves of the Issue Unit, the lines, the
deadlines, the journal and the notices, in the terms of the statements.
-/

namespace Sys2Proof.Machine

/-! ### Contexts of a node -/

theorem ctxOfNode_some {s : State} {n : Node} {k : Fin 2} (h : ctxOfNode s n = some k) :
    isOpen (ctxOf s k) = true ∧ (ctxOf s k).node = n := by
  simpa using List.find?_some h

theorem ctxOfNode_congr {s t : State} (h : t.issue = s.issue) (n : Node) : ctxOfNode t n = ctxOfNode s n := by
  have hc : ∀ k, ctxOf t k = ctxOf s k := fun k => by simp [ctxOf, h]
  simp only [ctxOfNode, hc]

theorem mem_endable {s : State} {n : Node} {k : Fin 2} :
    k ∈ endable s n ↔ ctxOfNode s n = some k ∧ (ctxOf s k).outcome = none := by
  simp [endable]

/-- At most one session of a node can end. -/
theorem endable_cases (s : State) (n : Node) :
    endable s n = [] ∨
      ∃ k, endable s n = [k] ∧ ctxOfNode s n = some k ∧ (ctxOf s k).outcome = none := by
  unfold endable
  rcases h : ctxOfNode s n with _ | k
  · exact .inl rfl
  · rcases ho : (ctxOf s k).outcome with _ | out
    · exact .inr ⟨k, by simp [ho], rfl, ho⟩
    · exact .inl (by simp [ho])

theorem endable_congr {s t : State} (h : t.issue = s.issue) (n : Node) : endable t n = endable s n := by
  simp [endable, ctxOfNode_congr h, ctxOf, h]

/-- With no session to end, the cause changes nothing (R112). -/
theorem endNodeSession_none {s : State} {n : Node} (h : endable s n = []) (r : FailReason) : endNodeSession s n r = s := by
  unfold endNodeSession
  split
  · rfl
  · next k hk =>
    have ho : (ctxOf s k).outcome ≠ none := fun ho => by
      have := mem_endable.2 ⟨hk, ho⟩
      rw [h] at this
      cases this
    unfold endSession
    rcases hx : (ctxOf s k).outcome with _ | out
    · exact absurd hx ho
    · simp [hx]

theorem endNodeSession_some {s : State} {n : Node} {k : Fin 2} (h : ctxOfNode s n = some k) (r : FailReason) :
    endNodeSession s n r = endSession s k r := by simp [endNodeSession, h]

/-! ### One session ended -/

theorem failOutcome_eq (c : IssueCtx) (r : FailReason) : failOutcome c r = .failed r (burns c r) := by
  unfold failOutcome burns isGuest
  congr 1
  cases c.duplicate <;> simp [Bool.and_assoc]

theorem burns_other {c : IssueCtx} (h : ¬ c.stay.cls = 1#8) (r : FailReason) : burns c r = false := by
  simp [burns, h]

/-- The timeout of a session's node cancelled, unless it was the cause of the end (R115). -/
def timeoutSpent (s : State) (n : Node) (r : FailReason) : State :=
  if r = .timeout then s else cancel s n .issueTimeout

@[simp] theorem timeoutSpent_frame (s : State) (n : Node) (r : FailReason) :
    (timeoutSpent s n r).lines = s.lines ∧ (timeoutSpent s n r).issue = s.issue ∧
      (timeoutSpent s n r).journal = s.journal ∧ (timeoutSpent s n r).trunk = s.trunk ∧
      (timeoutSpent s n r).time.clock = s.time.clock := by
  unfold timeoutSpent
  split <;> simp

/-- The part with an open session's end decided, before a context of another class than GUEST is finished. -/
def sessionDecided (s : State) (k : Fin 2) (r : FailReason) : State :=
  let c := ctxOf s k
  let s2 := withdraw (timeoutSpent s c.node r) c.node
  let s3 := setCtx s2 k { c with outcome := some (failOutcome c r), heldBlank := none }
  s3.withIssue { s3.issue with work := withoutComposition s3.issue.work k }

theorem endSession_eq {s : State} {k : Fin 2} (r : FailReason) (ho : isOpen (ctxOf s k) = true)
    (hn : (ctxOf s k).outcome = none) :
    endSession s k r =
      if isGuest (ctxOf s k) = true then
        (sessionDecided s k r).withIssue
          { (sessionDecided s k r).issue with work := (sessionDecided s k r).issue.work ++ [.closing k] }
      else finishSession (sessionDecided s k r) k (failOutcome (ctxOf s k) r) true := by
  simp only [endSession, ho, hn, Option.isNone_none, Bool.and_self, if_true]
  rfl

section
variable {s : State} {k : Fin 2} (r : FailReason)

theorem sessionDecided_ctx : ctxOf (sessionDecided s k r) k =
    { ctxOf s k with outcome := some (failOutcome (ctxOf s k) r), heldBlank := none } := by
  simp [sessionDecided, ctxOf, setCtx]

variable (ho : isOpen (ctxOf s k) = true) (hn : (ctxOf s k).outcome = none)
include ho hn

theorem endSession_issue : (endSession s k r).issue = sessionsEnded s [k] r := by
  have hwork : withoutComposition s.issue.work k =
      s.issue.work.filter fun w => !([k].any fun k => w == .composition k) := by
    simp [withoutComposition, beq_eq_decide]
  rw [endSession_eq r ho hn]
  by_cases hg : (ctxOf s k).stay.cls = 1#8
  · simp [isGuest, hg, sessionsEnded, sessionDecided, setCtx, hwork, failOutcome_eq]
  · simp [isGuest, hg, sessionsEnded, sessionDecided, setCtx, hwork, finishSession, put_put]

theorem endSession_lines : (endSession s k r).lines = linesWithdrawn s (ctxOf s k).node := by
  have hw : (sessionDecided s k r).lines = linesWithdrawn s (ctxOf s k).node := by
    simp [sessionDecided, withdraw_eq, linesWithdrawn, lineOf]
  rw [endSession_eq r ho hn]
  split <;> simp [hw]

theorem endSession_time (hr : r ≠ .timeout) : (endSession s k r).time =
    { s.time with
      deadlines := s.time.deadlines.filter fun d => !(d.node == (ctxOf s k).node && d.kind == .issueTimeout) } := by
  have hd : (sessionDecided s k r).time = (cancel s (ctxOf s k).node .issueTimeout).time := by
    simp [sessionDecided, timeoutSpent, hr]
  rw [endSession_eq r ho hn]
  split <;> simp [hd, cancel, setDeadlines, beq_eq_decide]

/-- The record of the end, of a class other than GUEST (R113, R118). -/
theorem endSession_records {b : State} {rs : List Record} (h : appendsAll b s rs) (hc : s.trunk.chain = b.trunk.chain) :
    appendsAll b (endSession s k r) (rs ++ endRecords s [k] r) := by
  have hj : (sessionDecided s k r).journal = s.journal ∧ (sessionDecided s k r).trunk = s.trunk ∧
      (sessionDecided s k r).time.clock = s.time.clock := by
    simp [sessionDecided]
  obtain ⟨hjournal, htrunk, hclock⟩ := hj
  have h0 : appendsAll b (sessionDecided s k r) rs := h.of_journal hjournal
  rw [endSession_eq r ho hn]
  by_cases hg : (ctxOf s k).stay.cls = 1#8
  · simpa [isGuest, hg, endRecords] using h0.of_journal (by simp)
  · have hrec : endRecords s [k] r =
        [{ stampedRecord s .issueFailed with
          node := some (.node (ctxOf s k).node), serial := (ctxOf s k).serial, cls := some (ctxOf s k).stay.cls,
          detail := .issue none (some (r, false)) }] := by
      simp [endRecords, hg]
    rw [hrec]
    refine (h0.record (by rw [htrunk]; exact hc) _).of_journal ?_
    simp [isGuest, hg, finishSession, sessionDecided_ctx, ctxGens, failOutcome_eq, burns_other hg, outcomeFailure,
      outcomeKind, stampedRecord_congr hclock]
    rfl

/-- The notice of the end, of a class other than GUEST (R118). -/
theorem endSession_trunk : (endSession s k r).trunk =
    { s.trunk with notices := noticesWith s (endNotices s [k] r) } := by
  have hj : (sessionDecided s k r).trunk = s.trunk ∧ (sessionDecided s k r).time.clock = s.time.clock := by
    simp [sessionDecided]
  obtain ⟨htrunk, hclock⟩ := hj
  rw [endSession_eq r ho hn]
  by_cases hg : (ctxOf s k).stay.cls = 1#8
  · simp [isGuest, hg, endNotices, noticesWith, htrunk]
  · simp [isGuest, hg, endNotices, noticesWith, htrunk, hclock, finishSession, sessionDecided_ctx, pushNotice_eq,
      noticesAfter, failOutcome_eq, burns_other hg]

end

end Sys2Proof.Machine
end

section
/-!
Answer windows (03_door_lines.md, R28 to R31, R36, R39, R40): the capture stamps, and every way an exchange ends without a good
answer.
-/

namespace Sys2Proof.Machine

/-! ### A missed answer (R39, R40) -/

/-- The count raised, and at the third miss a SILENT node; the presence of one already SILENT stands. -/
theorem nodeMissed_eq (x : NodeCtl) :
    nodeMissed x =
      if fallsSilent x then { x with missed := 3, silent := true } else { x with missed := raisedMissed x.missed } := by
  obtain ⟨silent, missed, command, attempts, duty, faulty, inSweep⟩ := x
  by_cases h2 : 2 ≤ missed.val
  · have hm : raisedMissed missed = 3 := by
      unfold raisedMissed
      split
      · rfl
      · omega
    cases silent <;> simp [nodeMissed, h2, hm]
  · have hm : raisedMissed missed = missed + 1 := if_neg fun h => h2 (by rw [h]; decide)
    simp [nodeMissed, h2, hm]

theorem raisedMissed_three (x : NodeCtl) : (raisedMissed x.missed = 3 ∧ x.silent = false) ↔ fallsSilent x := by
  unfold raisedMissed
  refine and_congr_left fun _ => ?_
  split
  · next h => simp [h]
  · omega

section
variable {s t : State} {l : LineNo} {a : Addr} {c : LineCtl}

/-- What a missed answer leaves before a session ends: its node's count and presence, and the record and the notice of one
that falls SILENT (R40). -/
def missCounted (t : State) (n : Node) : State :=
  if fallsSilent (nodeOf t n) then
    pushNotice (appendNode (setNode t n (nodeMissed (nodeOf t n))) .nodeSilent n .absent) (.nodeSilent n)
  else setNode t n (nodeMissed (nodeOf t n))

theorem setNode_setNode (t : State) (n : Node) (x y : NodeCtl) : setNode (setNode t n x) n y = setNode t n y := by
  simp [setNode, setLine, lineOf, LineCtl.withNode, put_put, State.withLines]

theorem missedAnswer_eq (t : State) (n : Node) :
    missedAnswer t n =
      if fallsSilent (nodeOf t n) then endNodeSession (missCounted t n) n .encoderSilent else missCounted t n := by
  have hx := nodeMissed_eq (nodeOf t n)
  unfold missedAnswer missCounted
  dsimp only
  by_cases h : fallsSilent (nodeOf t n)
  · have h3 := (raisedMissed_three _).2 h
    rw [if_pos h] at hx
    rw [if_pos h3, if_pos h, if_pos h, hx, nodeOf_setNode, if_pos rfl, setNode_setNode, h3.1]
  · rw [if_neg h] at hx
    rw [if_neg (mt (raisedMissed_three _).1 h), if_neg h, if_neg h, hx]

/-- The line of a missed answer. -/
theorem missCounted_line (h : LineSet l c s t) :
    LineSet l { c with nodes := put c.nodes a (nodeMissed (look c.nodes a)) } s
      (missCounted t { line := l, addr := a }) := by
  have hx : nodeOf t { line := l, addr := a } = look c.nodes a := by rw [nodeOf, h.line]
  have hset := h.set (c.withNode a (nodeMissed (look c.nodes a)))
  refine hset.of_lines ?_
  unfold missCounted
  rw [hx]
  split <;> simp [setNode, h.line]

/-- Nothing else moves but the journal and the trunk. -/
theorem missCounted_same (t : State) (n : Node) : unchangedBut [.lines, .journal, .trunk] t (missCounted t n) := by
  rw [unchangedBut_iff]
  unfold missCounted
  split <;> simp

/-- What falling SILENT reports. -/
theorem missCounted_reports (n : Node) (hj : t.journal = s.journal) (htrunk : t.trunk = s.trunk)
    (hclock : t.time.clock = s.time.clock) :
    appendsAll s (missCounted t n)
        (if fallsSilent (nodeOf t n) then [{ stampedRecord s .nodeSilent with node := some (.node n) }] else []) ∧
      (missCounted t n).trunk =
        { s.trunk with notices := noticesWith s (if fallsSilent (nodeOf t n) then [.nodeSilent n] else []) } := by
  have h0 : ∀ x, appendsAll s (setNode t n x) [] := fun x => (appendsAll_nil hj).of_journal (by simp)
  unfold missCounted
  split
  · refine ⟨((h0 (nodeMissed (nodeOf t n))).node (by simp [htrunk]) (by simp [hclock]) _ _).of_journal (by simp), ?_⟩
    simp [pushNotice_eq, noticesAfter, noticesWith, htrunk, hclock]
  · exact ⟨h0 _, by simp [noticesWith, htrunk]⟩

/-- A node with no pending command in flight has its session's command dropped by a withdrawal (R115). -/
theorem lineWithdrawn_gone (c : LineCtl) (a : Addr) (h : c.exchange = none) (x : Command)
    (hx : (look (lineWithdrawn c a).nodes a).command = some x) : isSessionCommand x = false := by
  have hf : flightFate c a ≠ some .live := by simp [flightFate, h]
  unfold lineWithdrawn at hx
  dsimp only at hx
  split at hx
  · simp at hx
  · next hs =>
    rw [hx] at hs
    simpa using hs

end


/-! ### Ends without a good answer (R28 to R31, R36) -/

/-- The exchange of a line over with no good answer: a polled node, configured by the entry it was polled under, misses one. -/
def exchangeMissed (s : State) (l : LineNo) (e : Exchange) : State :=
  match e.kind with
  | .poll a =>
    if configured (begunUnder s l e a) then missedAnswer (endExchange s l) { line := l, addr := a } else endExchange s l
  | _ => endExchange s l

section
variable {s : State} {l : LineNo} {e : Exchange}

theorem exchangeMissed_poll {a : Addr} (hk : e.kind = .poll a) :
    exchangeMissed s l e = missIf (endExchange s l) { line := l, addr := a } (doorDuring s l e a) := by
  simp [exchangeMissed, hk, missIf, doorDuring_eq]

/-- An exchange with an answer window is abandoned without a good answer (R31). -/
theorem abandon_eq (hk : e.kind = .call ∨ ∃ a, e.kind = .poll a) : abandon s l e = exchangeMissed s l e := by
  rcases hk with hk | ⟨a, hk⟩
  · simp [abandon, exchangeMissed, hk]
  · rw [exchangeMissed_poll hk]
    simp [abandon, hk]

/-- An answer that is not good, or of another node than the one polled, ends the exchange without one (R29, R36, R210). -/
theorem answerEnd_eq {chars : List Byte} (hk : e.kind = .call ∨ ∃ a, e.kind = .poll a)
    (hg : ∀ ans, parseAnswer chars = some ans →
      ((lineOf s l).mode ≠ .transparent ∧ ans.event = none) ∨ ∀ a, e.kind = .poll a → ans.addr ≠ a)
    (hc : e.kind = .call → ∀ ans, parseAnswer chars = some ans → (lineOf s l).mode ≠ .transparent ∧ ans.event = none) :
    answerEnd s l e chars = exchangeMissed s l e := by
  have none_of : ∀ ans : NodeAnswer, (lineOf s l).mode ≠ .transparent ∧ ans.event = none →
      takenEvent (lineOf s l).mode ans = none := fun ans h => by simp [takenEvent, h.1, h.2]
  rcases hk with hk | ⟨a, hk⟩
  · unfold answerEnd exchangeMissed
    simp only [hk]
    rcases hp : parseAnswer chars with _ | ans
    · rfl
    · simp only [none_of ans (hc hk ans hp)]
  · rw [exchangeMissed_poll hk]
    unfold answerEnd
    simp only [hk]
    rcases hp : parseAnswer chars with _ | ans
    · rfl
    · rcases hg ans hp with h | h
      · simp only [none_of ans h]
      · dsimp only
        split
        · simp only [h a hk, if_false]
        · rfl

theorem inFlight_of_flying (hf : flying s l e) : inFlight s l = some e := by
  simp [inFlight, hf.1, hf.2]

theorem hasWindow_of (hk : e.kind = .call ∨ ∃ a, e.kind = .poll a) : hasWindow e = true := by
  rcases hk with hk | ⟨a, hk⟩ <;> simp [hasWindow, hk]

/-- A command that ends an exchange with an answer window without a good answer. -/
def endsUnanswered (s : State) (l : LineNo) (e : Exchange) (chars : List Byte) (c : Instr) : Prop :=
  (c = .answerWindowClose l ∧ e.stamp = none) ∨ c = .stretchLimitExceeded l ∨
    (c = .answerRestart l ∧ e.stamp ≠ none ∧ e.restarted = true) ∨
    (c = .answerReceived l (.ends chars) ∧
      ∀ ans, parseAnswer chars = some ans → (lineOf s l).mode ≠ .transparent ∧ ans.event = none)

theorem exec_endsUnanswered {chars : List Byte} {c : Instr} (hf : flying s l e)
    (hk : e.kind = .call ∨ ∃ a, e.kind = .poll a) (hc : endsUnanswered s l e chars c) :
    exec c s = .next (settle (exchangeMissed s l e)) := by
  have hi := inFlight_of_flying hf
  have hw := hasWindow_of hk
  rcases hc with ⟨rfl, hs⟩ | rfl | ⟨rfl, hs, hr⟩ | ⟨rfl, hg⟩
  · simp [exec, execAnswerWindowClose, hi, hw, hs, done, abandon_eq hk]
  · simp [exec, execStretchLimitExceeded, hi, done, abandon_eq hk]
  · simp [exec, execAnswerRestart, hi, hw, Option.isSome_iff_ne_none.2 hs, hr, done, abandon_eq hk]
  · simp [exec, execAnswerReceived, hi, hw, done, answerEnd_eq hk (fun ans h => .inl (hg ans h)) fun _ => hg]

/-- The same of a POLL frame not delivered, and of an answer of another node than the one polled (R29, R36). -/
theorem exec_pollUnanswered {chars : List Byte} {c : Instr} {a : Addr} (hf : flying s l e) (hk : e.kind = .poll a)
    (hc : (c = .pollFrameNotDelivered l ∧ e.stamp = none) ∨
      (c = .answerReceived l (.ends chars) ∧ ∀ ans, parseAnswer chars = some ans → ans.addr ≠ a)) :
    exec c s = .next (settle (exchangeMissed s l e)) := by
  have hi := inFlight_of_flying hf
  have hw := hasWindow_of (.inr ⟨a, hk⟩)
  rcases hc with ⟨rfl, hs⟩ | ⟨rfl, hg⟩
  · simp [exec, execPollFrameNotDelivered, hi, hk, hs, done, abandon_eq (.inr ⟨a, hk⟩)]
  · have hother : ∀ ans, parseAnswer chars = some ans → ∀ b, e.kind = .poll b → ans.addr ≠ b := fun ans hp b hb => by
      rw [hk] at hb
      cases hb
      exact hg ans hp
    have hend : answerEnd s l e chars = exchangeMissed s l e :=
      answerEnd_eq (.inr ⟨a, hk⟩) (fun ans h => .inr (hother ans h)) fun hcall => by
        rw [hk] at hcall
        cases hcall
    simp only [exec, execAnswerReceived, hi, hw, done, hend, if_true]

/-- An exchange that misses nobody only ends. -/
theorem exchangeMissed_ends (h : e.kind = .call ∨ ∃ a, e.kind = .poll a ∧ configured (begunUnder s l e a) = false) :
    exchangeMissed s l e = endExchange s l := by
  rcases h with h | ⟨a, h, hk⟩ <;> simp [exchangeMissed, *]

/-- What an exchange that misses nobody leaves, once ready output is settled. -/
theorem endExchange_settled (s : State) (l : LineNo) :
    unchangedBut [.lines] s (settle (endExchange s l)) ∧ linesBut l s (settle (endExchange s l)) ∧
      lineOf (settle (endExchange s l)) l = { lineOf s l with exchange := none } := by
  have hl := ((LineSet.same l s).set { lineOf s l with exchange := none }).of_lines
    (u := settle (endExchange s l)) (by simp [endExchange])
  exact ⟨unchangedBut.settled (by rw [unchangedBut_iff]; simp [endExchange]), hl.others, hl.line⟩

end

/-! ### The ended session, after a missed answer -/

theorem endings_congr {s t : State} (hi : t.issue = s.issue) (hc : t.time.clock = s.time.clock) (ks : List (Fin 2))
    (r : FailReason) :
    sessionsEnded t ks r = sessionsEnded s ks r ∧ endRecords t ks r = endRecords s ks r ∧
      endNotices t ks r = endNotices s ks r := by
  have hctx : ∀ k, ctxOf t k = ctxOf s k := fun k => by simp [ctxOf, hi]
  exact ⟨by simp [sessionsEnded, hctx, hi], by simp [endRecords, hctx, stampedRecord_congr hc],
    by simp [endNotices, hctx]⟩

/-- What a count of misses leaves, over the exchange ended. -/
structure MissCounted (s : State) (l : LineNo) (a : Addr) (m : State) : Prop where
  line : LineSet l
    { lineOf s l with exchange := none, nodes := put (lineOf s l).nodes a (nodeMissed (look (lineOf s l).nodes a)) } s m
  same : unchangedBut [.lines, .journal, .trunk] s m
  records : appendsAll s m
    (if fallsSilent (look (lineOf s l).nodes a) then
      [{ stampedRecord s .nodeSilent with node := some (.node { line := l, addr := a }) }]
    else [])
  trunk : m.trunk =
    { s.trunk with
      notices := noticesWith s
        (if fallsSilent (look (lineOf s l).nodes a) then [.nodeSilent { line := l, addr := a }] else []) }

theorem missCounted_endExchange (s : State) (l : LineNo) (a : Addr) :
    MissCounted s l a (missCounted (endExchange s l) { line := l, addr := a }) := by
  have hl : LineSet l { lineOf s l with exchange := none } s (endExchange s l) := (LineSet.same l s).set _
  have hx : nodeOf (endExchange s l) { line := l, addr := a } = look (lineOf s l).nodes a := by rw [nodeOf, hl.line]
  have hr := missCounted_reports (s := s) (t := endExchange s l) { line := l, addr := a } (by simp [endExchange])
    (by simp [endExchange]) (by simp [endExchange])
  rw [hx] at hr
  refine ⟨missCounted_line hl, ?_, hr.1, hr.2⟩
  have hm := (unchangedBut_iff _ _ _).1 (missCounted_same (endExchange s l) { line := l, addr := a })
  rw [unchangedBut_iff]
  simpa [endExchange] using hm

section
variable {s : State} {l : LineNo} {a : Addr}

/-- A missed answer that ends no session. -/
theorem missedAnswer_quiet (hq : fallsSilent (look (lineOf s l).nodes a) → endable s { line := l, addr := a } = []) :
    missedAnswer (endExchange s l) { line := l, addr := a } =
      missCounted (endExchange s l) { line := l, addr := a } := by
  have hm := missCounted_endExchange s l a
  rw [missedAnswer_eq]
  split
  · next h =>
    have hx : nodeOf (endExchange s l) { line := l, addr := a } = look (lineOf s l).nodes a := by
      simp [nodeOf, endExchange, lineOf_setLine]
    rw [hx] at h
    exact endNodeSession_none ((endable_congr (hm.same.2 .issue (by decide)) _).trans (hq h)) _
  · rfl

theorem trunkIs_of_eq {t : State} {x : Trunk} (h : t.trunk = x) : trunkIs t x := by subst h; exact trunkIs_refl t

theorem MissCounted.silence {m : State} (h : MissCounted s l a m) :
    silenceReported s (settle m) { line := l, addr := a } (look (lineOf s l).nodes a) := by
  have hr := h.records.settled
  have ht := (trunkIs_of_eq h.trunk).settled
  constructor <;> intro hf
  · rw [if_pos hf] at hr ht
    exact ⟨hr, ht⟩
  · rw [if_neg hf] at hr ht
    exact ⟨hr, ht⟩

/-- A missed answer that ends its node's session. -/
theorem missedAnswer_ends (hf : fallsSilent (look (lineOf s l).nodes a)) {k : Fin 2}
    (hk : ctxOfNode s { line := l, addr := a } = some k) :
    missedAnswer (endExchange s l) { line := l, addr := a } =
      endSession (missCounted (endExchange s l) { line := l, addr := a }) k .encoderSilent := by
  have hm := missCounted_endExchange s l a
  have hx : nodeOf (endExchange s l) { line := l, addr := a } = look (lineOf s l).nodes a := by
    simp [nodeOf, endExchange, lineOf_setLine]
  rw [missedAnswer_eq, if_pos (hx.symm ▸ hf)]
  exact endNodeSession_some ((ctxOfNode_congr (hm.same.2 .issue (by decide)) _).trans hk) _

/-- What a session ended by its node's silence leaves, over the exchange ended. -/
structure SilentEnded (s : State) (l : LineNo) (a : Addr) (k : Fin 2) (t : State) : Prop where
  line : LineSet l
    (lineWithdrawn
      { lineOf s l with exchange := none, nodes := put (lineOf s l).nodes a (nodeMissed (look (lineOf s l).nodes a)) } a) s t
  same : unchangedBut [.time, .lines, .issue, .journal, .trunk] s t
  time : timeoutCancelled s t { line := l, addr := a }
  issue : t.issue = sessionsEnded s [k] .encoderSilent
  records : appendsAll s t
    ({ stampedRecord s .nodeSilent with node := some (.node { line := l, addr := a }) } :: endRecords s [k] .encoderSilent)
  trunk : trunkIs t
    { s.trunk with
      notices := noticesWith s (.nodeSilent { line := l, addr := a } :: endNotices s [k] .encoderSilent) }

theorem MissCounted.ends {m : State} (h : MissCounted s l a m) (hf : fallsSilent (look (lineOf s l).nodes a))
    {k : Fin 2} (hk : ctxOfNode s { line := l, addr := a } = some k) (hn : (ctxOf s k).outcome = none) :
    SilentEnded s l a k (settle (endSession m k .encoderSilent)) := by
  have hi : m.issue = s.issue := h.same.2 .issue (by decide)
  have htime : m.time = s.time := h.same.2 .time (by decide)
  obtain ⟨hopen, hnode⟩ := ctxOfNode_some hk
  have hctx : ctxOf m k = ctxOf s k := by simp [ctxOf, hi]
  rw [← hctx] at hopen hn hnode
  obtain ⟨hends, hrec, hnot⟩ := endings_congr hi (congrArg (·.clock) htime) [k] .encoderSilent
  have hrecords := h.records
  have htrunk := h.trunk
  rw [if_pos hf] at hrecords htrunk
  have hlines : (endSession m k .encoderSilent).lines = linesWithdrawn m { line := l, addr := a } :=
    (endSession_lines .encoderSilent hopen hn).trans (by rw [hnode])
  have hset : LineSet l _ s (endSession m k .encoderSilent) :=
    (h.line.set (lineWithdrawn (lineOf m l) a)).of_lines (by rw [hlines]; simp [linesWithdrawn, setLine])
  rw [h.line.line] at hset
  refine ⟨hset.of_lines (by simp), unchangedBut.settled ?_, ?_, ?_,
    (hrec ▸ endSession_records .encoderSilent hopen hn hrecords (by rw [htrunk])).settled, trunkIs.settled (trunkIs_of_eq ?_)⟩
  · have hs := (unchangedBut_iff _ _ _).1 h.same
    rw [unchangedBut_iff]
    simp at hs ⊢
    simp [hs]
  · simp only [timeoutCancelled, settle_frame]
    rw [endSession_time .encoderSilent hopen hn nofun, hnode, htime]
  · simp only [settle_frame]
    rw [endSession_issue .encoderSilent hopen hn, hends]
  · have happ : noticesWith s (.nodeSilent { line := l, addr := a } :: endNotices s [k] .encoderSilent) = _ :=
      noticesWith_append s [.nodeSilent { line := l, addr := a }] (endNotices s [k] .encoderSilent)
    rw [endSession_trunk .encoderSilent hopen hn, hnot, happ]
    simp only [noticesWith, htrunk, htime]

end

/-- Settles O18: every end without a good answer is `exchangeMissed`, and a polled node's missed answer is `missCounted`, with
its session's end where there is one to end. -/
theorem windowsTakeOneAnswer : Obligations.WindowsTakeOneAnswer := by
  constructor
  · intro s l e hf hcmd now
    have hi := inFlight_of_flying hf
    have hw : hasWindow e = true := hasWindow_of (by
      rcases hk : e.kind with a | _ | ⟨a, c, d, f⟩
      · exact .inr ⟨a, rfl⟩
      · exact .inl rfl
      · exact absurd hk (hcmd a c d f))
    have hset : ∀ e', unchangedBut [.lines] s (settle (setExchange s l e')) ∧ linesBut l s (settle (setExchange s l e')) ∧
        lineOf (settle (setExchange s l e')) l = { lineOf s l with exchange := some e' } := fun e' => by
      have hl := ((LineSet.same l s).set { lineOf s l with exchange := some e' }).of_lines
        (u := settle (setExchange s l e')) (by simp [setExchange])
      exact ⟨unchangedBut.settled (by rw [unchangedBut_iff]; simp [setExchange]), hl.others, hl.line⟩
    refine ⟨fun hs => ⟨_, ?_, hset _⟩, fun hs hr => ⟨_, ?_, hset _⟩⟩
    · simp [exec, execAnswerReceived, hi, hw, hs, done, captureNow, now]
    · simp [exec, execAnswerRestart, hi, hw, Option.isSome_iff_ne_none.2 hs, hr, done, captureNow, now]
  intro s l e chars c hf garbled hc
  refine ⟨fun hk => ?_, ?_⟩
  · refine ⟨_, (exec_endsUnanswered hf (.inl hk) hc).trans ?_, endExchange_settled s l⟩
    rw [exchangeMissed_ends (.inl hk)]
  · intro a d hk hd n x known
    have hexec : exec d s = .next (settle (exchangeMissed s l e)) := by
      rcases hd with rfl | hd
      · exact exec_endsUnanswered hf (.inr ⟨a, hk⟩) hc
      · exact exec_pollUnanswered hf hk hd
    have hm := missCounted_endExchange s l a
    refine ⟨fun hknown => ?_, fun hknown hq => ?_, fun hknown hsil hend => ?_⟩
    · refine ⟨_, hexec.trans ?_, endExchange_settled s l⟩
      rw [exchangeMissed_ends (.inr ⟨a, hk, hknown⟩)]
    · have hmissed : exchangeMissed s l e = missCounted (endExchange s l) n := by
        rw [← missedAnswer_quiet hq]
        simp [exchangeMissed, hk, show configured (begunUnder s l e a) = true from hknown]
      have hl := hm.line.of_lines (u := settle (missCounted (endExchange s l) n)) (by simp [n])
      exact ⟨_, hexec.trans (by rw [hmissed]), hm.same.settled, hl.others, hl.line, hm.silence⟩
    · obtain ⟨k, hks, hk2, hn⟩ := (endable_cases s n).resolve_left hend
      have hmissed : exchangeMissed s l e = endSession (missCounted (endExchange s l) n) k .encoderSilent := by
        rw [← missedAnswer_ends hsil hk2]
        simp [exchangeMissed, hk, show configured (begunUnder s l e a) = true from hknown]
      have he := hm.ends hsil hk2 hn
      refine ⟨_, hexec.trans (by rw [hmissed]), he.same, he.line.others, he.line.line, fun y hy => ?_, he.time, ?_, ?_, ?_⟩
      · rw [nodeOf, he.line.line] at hy
        refine lineWithdrawn_gone _ a ?_ y hy
        rfl
      · rw [hks]; exact he.issue
      · rw [hks]; exact he.records
      · rw [hks]; exact he.trunk

end Sys2Proof.Machine
end

section
/-!
Commands queued at the doors when the effective level changes (05_admission.md, R100, R101): the lines are those of
`doorsQueued`; a PREPARE or WRITE found pending at a door ends its session, which is all that else can change.
-/

namespace Sys2Proof.Machine

/-! ### Chains of changes -/

theorem appendsAll.trans {s t u : State} {rs qs : List Record} (h : appendsAll s t rs) (hu : appendsAll t u qs)
    (hc : t.trunk.chain = s.trunk.chain) : appendsAll s u (rs ++ qs) := by
  have hj := h.journals hc
  unfold appendsAll at *
  rw [hu, hj, h]
  cases Machine.journals s <;> simp

/-- A notice is added at the end, or lost. -/
theorem noticesWith_extends (s : State) (bs : List NoticeBody) : ∃ ns, noticesWith s bs = s.trunk.notices ++ ns := by
  induction bs using List.reverseRecOn with
  | nil => exact ⟨[], by simp [noticesWith]⟩
  | append_singleton bs b ih =>
    obtain ⟨ns, hns⟩ := ih
    rw [noticesWith_append, hns]
    simp only [List.foldl_cons, List.foldl_nil]
    split
    · exact ⟨ns ++ [_], List.append_assoc _ _ _⟩
    · exact ⟨ns, rfl⟩

theorem lineOf_eq_of_lines {s t : State} (h : t.lines = s.lines) (l : LineNo) : lineOf t l = lineOf s l := by
  simp [lineOf, h]

/-! ### What a command queued at a door leaves besides its line -/

/-- Deadlines that the end of a door's session cannot touch. -/
def notDoorTimeout (s : State) (d : Deadline) : Bool := d.kind != .issueTimeout || !isDoor (doorOf s d.node)

/-- The lines apart, only what the end of a session at a door leaves: records, notices, the sessions and an ISSUE_TIMEOUT. -/
structure DoorsTold (s t : State) : Prop where
  records : ∃ rs, appendsAll s t rs
  trunk : ∃ ns, t.trunk = { s.trunk with notices := s.trunk.notices ++ ns }
  time : t.time = { s.time with deadlines := t.time.deadlines }
  deadlines : t.time.deadlines.filter (notDoorTimeout s) = s.time.deadlines.filter (notDoorTimeout s)
  loader : t.loader = s.loader
  store : t.store = s.store

/-- No PREPARE or WRITE is pending at a door. -/
def NoDoorSession (s : State) : Prop :=
  ∀ n c, isDoor (doorOf s n) = true → (nodeOf s n).command = some c → isSessionCommand c = false

theorem notDoorTimeout_congr {s t : State} (hl : t.loader = s.loader) (hs : t.store = s.store) :
    notDoorTimeout t = notDoorTimeout s := by
  funext d
  rw [notDoorTimeout, doorOf_congr hl hs, notDoorTimeout]

theorem DoorsTold.refl (s : State) : DoorsTold s s :=
  ⟨⟨[], appendsAll_nil rfl⟩, ⟨[], by simp⟩, rfl, rfl, rfl, rfl⟩

theorem DoorsTold.trans {s t u : State} (h : DoorsTold s t) (hu : DoorsTold t u) : DoorsTold s u := by
  obtain ⟨⟨rs, hrs⟩, ⟨ns, hns⟩, htime, hdl, hl, hst⟩ := h
  obtain ⟨⟨qs, hqs⟩, ⟨ms, hms⟩, htime', hdl', hl', hst'⟩ := hu
  rw [notDoorTimeout_congr hl hst] at hdl'
  refine ⟨⟨_, hrs.trans hqs (by rw [hns])⟩, ⟨ns ++ ms, by rw [hms, hns]; simp⟩, ?_, hdl'.trans hdl, hl'.trans hl,
    hst'.trans hst⟩
  rw [htime', htime]

/-- Lines replaced, and nothing else. -/
theorem DoorsTold.withLines (s : State) (x : Vector LineCtl 4) : DoorsTold s (s.withLines x) :=
  ⟨⟨[], appendsAll_nil rfl⟩, ⟨[], by simp⟩, rfl, rfl, rfl, rfl⟩

/-- The end of a session at a door that has no PREPARE or WRITE pending any more. -/
theorem endSession_told {s : State} {n : Node} {k : Fin 2} (hd : isDoor (doorOf s n) = true)
    (hk : ctxOfNode s n = some k) (hc : ∀ c, (nodeOf s n).command = some c → isSessionCommand c = false) :
    DoorsTold s (endSession s k .encoderUnreachable) ∧ (endSession s k .encoderUnreachable).lines = s.lines := by
  obtain ⟨ho, hn⟩ := ctxOfNode_some hk
  rcases hout : (ctxOf s k).outcome with _ | out
  · have hlines := endSession_lines (s := s) (k := k) .encoderUnreachable ho hout
    have htime := endSession_time (s := s) (k := k) .encoderUnreachable ho hout nofun
    obtain ⟨ns, hns⟩ := noticesWith_extends s (endNotices s [k] .encoderUnreachable)
    rw [hn] at hlines htime
    refine ⟨⟨⟨_, endSession_records .encoderUnreachable ho hout (appendsAll_nil rfl) rfl⟩,
      ⟨ns, by rw [endSession_trunk .encoderUnreachable ho hout, hns]⟩, by rw [htime], ?_, by simp, by simp⟩, ?_⟩
    · rw [htime, List.filter_filter]
      refine List.filter_congr fun d _ => ?_
      by_cases hdn : d.node = n <;> simp [notDoorTimeout, hdn, hd]
    · have hgone : ¬ (look (lineOf s n.line).nodes n.addr).command.map isSessionCommand = some true := by
        intro h
        obtain ⟨c, hc', hs⟩ := Option.map_eq_some_iff.1 h
        rw [hc c hc'] at hs
        cases hs
      rw [hlines, linesWithdrawn, lineWithdrawn]
      simp only [hgone, if_false]
      exact put_look _ _
  · have hsame : endSession s k .encoderUnreachable = s := by simp [endSession, hout]
    rw [hsame]
    exact ⟨DoorsTold.refl s, rfl⟩

theorem issueDrop_cases (s : State) (n : Node) (c : Command) :
    issueDrop s n c = s ∨ ∃ k, ctxOfNode s n = some k ∧ issueDrop s n c = endSession s k .encoderUnreachable := by
  unfold issueDrop
  split
  · exact .inl rfl
  · next k hk =>
    split
    · exact .inr ⟨k, hk, rfl⟩
    · exact .inr ⟨k, hk, rfl⟩
    · exact .inl rfl

theorem configured_of_isDoor {d : DoorEntry} (h : isDoor d = true) : configured d = true := by
  unfold isDoor at h
  unfold configured
  rcases hk : d.kind <;> simp [hk] at h ⊢

/-- A command that replaces a session's, still live, hands that to the Issue Unit (R42). -/
theorem queueCommand_replaces (s : State) (n : Node) {c old : Command} (hd : configured (doorOf s n) = true)
    (hp : passTaken (lineOf s n.line).mode c = true) (ho : (nodeOf s n).command = some old)
    (hs : isSessionCommand old = true) (hf : flightFate (lineOf s n.line) n.addr ≠ some .withdrawn) :
    queueCommand s n c = issueDrop (s.withLines (linesQueued s n c)) n old := by
  have ho' : (look (lineOf s n.line).nodes n.addr).command = some old := ho
  have hk : keepsPending old c = false := by cases old <;> simp_all [keepsPending, isSessionCommand]
  have hk' := hk
  rw [keepsPending_eq] at hk'
  simp [queueCommand, hd, hp, hk, hs, hf, linesQueued, lineQueued, ho', hk', setLine, LineCtl.withNode, nodeOf,
    markFlight_eq, dutyAfter, Bool.and_comm]

/-! ### A level's command at a door -/

/-- A command that a level change gives the doors: nothing but itself outlasts it, and any line takes it (R42, R100, R101). -/
structure LevelCommand (c : Command) : Prop where
  replaces : ∀ old, outlasts old c = true → old = c
  taken : ∀ m, passTaken m c = true
  noSession : isSessionCommand c = false

theorem levelCommand_holdOpen : LevelCommand .holdOpen :=
  ⟨fun old h => by cases old <;> simp_all [outlasts], fun _ => rfl, rfl⟩

theorem levelCommand_releaseEnd : LevelCommand .releaseEnd :=
  ⟨fun old h => by cases old <;> simp_all [outlasts], fun _ => rfl, rfl⟩

section
variable {c : Command} (hc : LevelCommand c)
include hc

theorem lineQueued_command (d : LineCtl) (a b : Addr) :
    (look (lineQueued d a c).nodes b).command = if b = a then some c else (look d.nodes b).command := by
  unfold lineQueued
  dsimp only
  split
  · by_cases hb : b = a
    · simp [hb]
    · simp [hb, look_put_ne _ (Ne.symm hb)]
  · next old ho =>
    split
    · next hk =>
      by_cases hb : b = a
      · simp [hb, ho, hc.replaces old hk]
      · simp [hb]
    · by_cases hb : b = a
      · simp [hb]
      · simp [hb, look_put_ne _ (Ne.symm hb)]

/-- What one command queued at a door does. -/
theorem queueCommand_door (s : State) {n : Node} (hd : isDoor (doorOf s n) = true) :
    DoorsTold s (queueCommand s n c) ∧ (queueCommand s n c).lines = linesQueued s n c := by
  have hcfg := configured_of_isDoor hd
  by_cases hplain : ∀ old, (nodeOf s n).command = some old →
      isSessionCommand old = false ∨ flightFate (lineOf s n.line) n.addr = some .withdrawn
  · rw [queueCommand_plain s n c hcfg (hc.taken _) hplain]
    exact ⟨DoorsTold.withLines s _, rfl⟩
  · push Not at hplain
    obtain ⟨old, ho, hs, hf⟩ := hplain
    rw [queueCommand_replaces s n hcfg (hc.taken _) ho (by simpa using hs) hf]
    have hnode : ∀ x, (nodeOf (s.withLines (linesQueued s n c)) n).command = some x → isSessionCommand x = false := by
      intro x hx
      have hq : (nodeOf (s.withLines (linesQueued s n c)) n).command = some c := by
        simp [nodeOf, lineOf, linesQueued, lineQueued_command hc]
      rw [hq] at hx
      cases hx
      exact hc.noSession
    rcases issueDrop_cases (s.withLines (linesQueued s n c)) n old with h | ⟨k, hk, h⟩
    · rw [h]
      exact ⟨DoorsTold.withLines s _, rfl⟩
    · rw [h]
      obtain ⟨htold, hlines⟩ := endSession_told (s := s.withLines (linesQueued s n c)) hd hk hnode
      exact ⟨(DoorsTold.withLines s _).trans htold, hlines⟩

/-- The same where no session's command is pending at a door: the lines are all that changes. -/
theorem queueCommand_quiet {s : State} {n : Node} (hd : isDoor (doorOf s n) = true) (hs : NoDoorSession s) :
    queueCommand s n c = s.withLines (linesQueued s n c) :=
  queueCommand_plain s n c (configured_of_isDoor hd) (hc.taken _) fun _ ho => .inl (hs n _ hd ho)

omit hc in
theorem lineOf_of_linesQueued {s t : State} {n : Node} (h : t.lines = linesQueued s n c) (l : LineNo) :
    lineOf t l = if n.line = l then lineQueued (lineOf s l) n.addr c else lineOf s l := by
  rw [lineOf, h, linesQueued, look_put]
  split
  · next h => rw [h]
  · rfl

theorem NoDoorSession.queued {s : State} (hs : NoDoorSession s) (n : Node) :
    NoDoorSession (s.withLines (linesQueued s n c)) := by
  intro m x hm hx
  rw [nodeOf, lineOf_of_linesQueued rfl] at hx
  split at hx
  · rw [lineQueued_command hc] at hx
    split at hx
    · cases hx
      exact hc.noSession
    · exact hs m x hm hx
  · exact hs m x hm hx

/-! ### A level's command at every door (R100, R101) -/

/-- A command queued for nodes in turn. -/
def queueNodes (s : State) (ns : List Node) (c : Command) : State := ns.foldl (fun t n => queueCommand t n c) s

theorem queueNodes_told {s : State} {ns : List Node} (hns : ∀ n ∈ ns, isDoor (doorOf s n) = true) :
    DoorsTold s (queueNodes s ns c) ∧
      ∀ l, lineOf (queueNodes s ns c) l =
        (ns.filter fun n => n.line == l).foldl (fun d n => lineQueued d n.addr c) (lineOf s l) := by
  induction ns generalizing s with
  | nil => exact ⟨DoorsTold.refl s, fun _ => rfl⟩
  | cons n ns ih =>
    obtain ⟨htold, hlines⟩ := queueCommand_door hc s (hns n (by simp))
    have hdoor : ∀ m, doorOf (queueCommand s n c) m = doorOf s m := doorOf_congr htold.loader htold.store
    obtain ⟨hrest, hl⟩ := ih fun m hm => by rw [hdoor]; exact hns m (by simp [hm])
    refine ⟨htold.trans hrest, fun l => (hl l).trans ?_⟩
    have hline := lineOf_of_linesQueued hlines l
    by_cases h : n.line = l
    · simp [hline, h]
    · simp [hline, h]

theorem queueNodes_quiet {s : State} {ns : List Node} (hns : ∀ n ∈ ns, isDoor (doorOf s n) = true)
    (hs : NoDoorSession s) : queueNodes s ns c = s.withLines (queueNodes s ns c).lines := by
  induction ns generalizing s with
  | nil => rfl
  | cons n ns ih =>
    have hstep : queueNodes s (n :: ns) c = queueNodes (s.withLines (linesQueued s n c)) ns c := by
      rw [queueNodes, List.foldl_cons, queueCommand_quiet hc (hns n (by simp)) hs]
      rfl
    rw [hstep, ih (s := s.withLines (linesQueued s n c)) (fun m hm => hns m (by simp [hm])) (hs.queued hc n)]
    rfl

omit hc in
theorem nodeIndex_nodeAt (i : Slot) : nodeIndex (nodeAt i) = i := by
  simp only [nodeIndex, nodeAt, Fin.ext_iff]
  omega

omit hc in
/-- The nodes of a line, in the order of the DOOR table (R55). -/
theorem slots_of_line (l : LineNo) :
    (slots.map nodeAt).filter (fun n => n.line == l) = (List.finRange 32).map fun a => { line := l, addr := a } := by
  revert l
  decide

/-- The door nodes, line by line in ascending address. -/
def doorNodes (s : State) : List Node := (slots.map nodeAt).filter fun n => isDoor (doorOf s n)

omit hc in
theorem queueDoors_eq (s : State) : queueDoors s c = queueNodes s (doorNodes s) c := by
  have hd : ∀ i, doorAt s i = doorOf s (nodeAt i) := fun i => by rw [doorOf, nodeIndex_nodeAt]
  simp only [queueDoors, queueNodes, doorNodes, hd, List.filter_map, List.foldl_map]
  rfl

omit hc in
theorem isDoor_of_mem_doorNodes {s : State} {n : Node} (h : n ∈ doorNodes s) : isDoor (doorOf s n) = true :=
  (List.mem_filter.1 h).2

/-- The lines once every door has been given a level's command. -/
theorem queueDoors_line (s : State) (l : LineNo) :
    lineOf (queueDoors s c) l = doorsQueued s l c (lineOf s l) := by
  have hnodes : (doorNodes s).filter (fun n => n.line == l) =
      ((List.finRange 32).filter fun a => isDoor (doorOf s { line := l, addr := a })).map
        fun a => { line := l, addr := a } := by
    rw [doorNodes, List.filter_comm, slots_of_line, List.filter_map]
    rfl
  rw [queueDoors_eq, (queueNodes_told hc fun _ => isDoor_of_mem_doorNodes).2 l, hnodes, List.foldl_map,
    List.foldl_filter, doorsQueued]

theorem queueDoors_told (s : State) : DoorsTold s (queueDoors s c) := by
  rw [queueDoors_eq]
  exact (queueNodes_told hc fun _ => isDoor_of_mem_doorNodes).1

theorem queueDoors_quiet {s : State} (hs : NoDoorSession s) : queueDoors s c = s.withLines (queueDoors s c).lines := by
  rw [queueDoors_eq]
  exact queueNodes_quiet hc (fun _ => isDoor_of_mem_doorNodes) hs

/-- Every door of the line has the command. -/
theorem doorsQueued_command (s : State) (l : LineNo) (d : LineCtl) (a : Addr)
    (hd : isDoor (doorOf s { line := l, addr := a }) = true) :
    (look (doorsQueued s l c d).nodes a).command = some c := by
  have hfold : ∀ (as : List Addr) (d : LineCtl), a ∈ as ∨ (look d.nodes a).command = some c →
      (look (as.foldl (fun d b => if isDoor (doorOf s { line := l, addr := b }) then lineQueued d b c else d) d).nodes
        a).command = some c := by
    intro as
    induction as with
    | nil => exact fun d h => h.resolve_left (by simp)
    | cons b as ih =>
      intro d h
      refine ih _ ?_
      dsimp only
      by_cases hb : a = b
      · refine .inr ?_
        rw [← hb, if_pos hd, lineQueued_command hc, if_pos rfl]
      · refine h.imp (fun hm => (List.mem_cons.1 hm).resolve_left hb) fun hcmd => ?_
        split
        · rw [lineQueued_command hc, if_neg hb, hcmd]
        · exact hcmd
  exact hfold _ d (.inl (List.mem_finRange a))

omit hc in
theorem doorsQueued_mode (s : State) (l : LineNo) (d : LineCtl) : (doorsQueued s l c d).mode = d.mode := by
  have hstep : ∀ d a, (lineQueued d a c).mode = d.mode := fun d a => by
    unfold lineQueued
    dsimp only
    split
    · rfl
    · split <;> rfl
  unfold doorsQueued
  induction List.finRange 32 generalizing d with
  | nil => rfl
  | cons a as ih =>
    rw [List.foldl_cons, ih]
    split
    · exact hstep d a
    · rfl

omit hc in
theorem doorsQueued_congr {s t : State} (hl : t.loader = s.loader) (hs : t.store = s.store) (l : LineNo) (d : LineCtl) :
    doorsQueued t l c d = doorsQueued s l c d := by
  simp only [doorsQueued, doorOf_congr hl hs]

end

end Sys2Proof.Machine
end

section
/-!
Lines taken back to DECIDE when the effective level becomes RELEASE (05_admission.md, R100; 03_door_lines.md, R50, R51): what
`releaseLine` leaves of the line, the journal, the notices and the replies.
-/

namespace Sys2Proof.Machine

/-! ### A line's sweep set and PASS commands (R50) -/

@[simp] theorem look_ofFn {α : Type} {n : Nat} (f : Fin n → α) (i : Fin n) : look (Vector.ofFn f) i = f i := by
  simp [look, Vector.get_eq_getElem]

theorem tabulate_eq_ofFn {α : Type} {n : Nat} (f : Fin n → α) : tabulate f = Vector.ofFn f := store_ext (by simp)

theorem sweepFilled_congr {s t : State} (hl : t.loader = s.loader) (hs : t.store = s.store) (l : LineNo) (c : LineCtl) :
    sweepFilled t l c = sweepFilled s l c := by
  simp only [sweepFilled, doorOf_congr hl hs]

/-- An exchange in flight marked dropped when its node's command is. -/
def flightDropped (drops : Addr → Bool) (e : Exchange) : Exchange :=
  match e.kind with
  | .command a _ _ _ => if drops a then flightMarked a .dropped e else e
  | .poll _ => e
  | .call => e

/-- A line with the commands of some nodes dropped, in flight or not (R50). -/
def commandsDropped (drops : Addr → Bool) (c : LineCtl) : LineCtl :=
  { c with
    fifo := c.fifo.filter fun a => !drops a
    nodes :=
      Vector.ofFn fun a =>
        if drops a then { look c.nodes a with command := none, attempts := 0, duty := false } else look c.nodes a
    exchange := c.exchange.map (flightDropped drops) }

/-- A PASS is pending for a node. -/
def passAt (c : LineCtl) (a : Addr) : Bool := ((look c.nodes a).command.map isPass).getD false

theorem passesDropped_eq (c : LineCtl) : passesDropped c = commandsDropped (passAt c) c := rfl

theorem commandsDropped_none {drops : Addr → Bool} (h : ∀ a, drops a = false) (c : LineCtl) :
    commandsDropped drops c = c := by
  have hn : (Vector.ofFn fun a => look c.nodes a) = c.nodes := store_ext fun a => by simp
  have he : flightDropped drops = id := by
    funext e
    unfold flightDropped
    split <;> simp [h]
  simp [commandsDropped, h, hn, he]

theorem dropPass_eq (c : LineCtl) (a : Addr) : dropPass c a = if passAt c a then dropCommand c a .dropped else c := by
  unfold dropPass passAt
  split
  · next x hx => simp [hx]
  · next hx => simp [hx]

theorem flightDropped_mark {drops : Addr → Bool} {a : Addr} (h : drops a = false) (e : Exchange) :
    flightDropped drops (flightMarked a .dropped e) = flightDropped (fun b => decide (b = a) || drops b) e := by
  obtain ⟨kind, frame, rate, stretch, stamp, restarted, stale⟩ := e
  cases kind with
  | command b x duty fate =>
    by_cases hb : b = a
    · subst hb
      simp [flightDropped, flightMarked, h]
    · simp [flightDropped, flightMarked, hb]
  | poll b => rfl
  | call => rfl

/-- One node's command dropped, then those of others. -/
theorem commandsDropped_cons {drops : Addr → Bool} {a : Addr} (h : drops a = false) (c : LineCtl) :
    commandsDropped drops (dropCommand c a .dropped) = commandsDropped (fun b => decide (b = a) || drops b) c := by
  simp only [commandsDropped, dropCommand, LineCtl.withNode, LineCtl.mk.injEq, true_and]
  refine ⟨?_, ?_, ?_⟩
  · simp [List.filter_filter, Bool.and_comm]
  · cases c.exchange with
    | none => rfl
    | some e => simp [markFlight_eq, flightDropped_mark h]
  · refine store_ext fun b => ?_
    by_cases hb : b = a
    · simp [hb, h]
    · simp [hb, look_put_ne _ (Ne.symm hb)]

theorem foldl_dropPass (as : List Addr) (c : LineCtl) :
    as.foldl dropPass c = commandsDropped (fun b => decide (b ∈ as) && passAt c b) c := by
  induction as generalizing c with
  | nil => exact (commandsDropped_none (by simp) c).symm
  | cons a as ih =>
    rw [List.foldl_cons, ih, dropPass_eq]
    by_cases h : passAt c a = true
    · have hpass : ∀ b, passAt (dropCommand c a .dropped) b = (!decide (b = a) && passAt c b) := fun b => by
        by_cases hb : b = a
        · simp [passAt, dropCommand, LineCtl.withNode, hb]
        · simp [passAt, dropCommand, LineCtl.withNode, hb, look_put_ne _ (Ne.symm hb)]
      rw [if_pos h, commandsDropped_cons (by simp [hpass])]
      congr 1
      funext b
      by_cases hb : b = a <;> simp [hpass, hb, h]
    · rw [if_neg h]
      congr 1
      funext b
      by_cases hb : b = a <;> simp [hb, h]

theorem foldl_dropPass_addrs (c : LineCtl) : addrs.foldl dropPass c = passesDropped c := by
  rw [foldl_dropPass, passesDropped_eq]
  simp [addrs]

/-! ### Pieces of a line's return -/

section
variable {s t : State} {l : LineNo} {c : LineCtl}

theorem LineSet.loadSweep (h : LineSet l c s t) : LineSet l (sweepFilled t l c) s (loadSweep t l) := by
  have hs := h.set (sweepFilled t l c)
  refine hs.of_lines ?_
  simp [Machine.loadSweep, sweepFilled, h.line, tabulate_eq_ofFn]

/-- A line back in DECIDE's polling: its PASS commands dropped after TRANSPARENT, its sweep set loaded (R50). -/
def lineReturned (s : State) (l : LineNo) (fromTransparent : Bool) (c : LineCtl) : LineCtl :=
  { sweepFilled s l (if fromTransparent then passesDropped c else c) with prevSlot := none }

theorem LineSet.returnEffects (h : LineSet l c s t) (ft : Bool) :
    LineSet l (lineReturned t l ft c) s (returnEffects t l ft) := by
  obtain ⟨u, hu⟩ : ∃ u, u = (if ft then setLine t l (addrs.foldl dropPass (lineOf t l)) else t) := ⟨_, rfl⟩
  have hline : LineSet l (if ft then passesDropped c else c) s u := by
    rw [hu, foldl_dropPass_addrs, h.line]
    cases ft
    · exact h
    · exact h.set _
  have hdoors : sweepFilled u l (if ft then passesDropped c else c) = sweepFilled t l (if ft then passesDropped c else c) :=
    sweepFilled_congr (by rw [hu]; split <;> simp) (by rw [hu]; split <;> simp) l _
  have hload := hline.loadSweep
  have hset := hload.set { sweepFilled u l (if ft then passesDropped c else c) with prevSlot := none }
  rw [hdoors] at hset
  refine hset.of_lines ?_
  rw [Machine.returnEffects, restartChoice, ← hu, hload.line, hdoors]

theorem LineSet.changeMode (h : LineSet l c s t) (m : LineMode) (broken : Bool) :
    LineSet l { c with mode := m } s (changeMode t l m broken) := by
  refine (h.set { c with mode := m }).of_lines ?_
  simp [Machine.changeMode, h.line]

theorem LineSet.answerWaiting (h : LineSet l c s t) (a : Answer) :
    LineSet l { c with waitingTag := none } s (answerWaiting t l a) := by
  unfold Machine.answerWaiting
  rw [h.line]
  split
  · next hw =>
    have hc : { c with waitingTag := none } = c := by rw [← hw]
    rw [hc]
    exact h
  · exact (h.set { c with waitingTag := none }).of_lines (by simp)

theorem answerWaiting_trunk (s : State) (l : LineNo) (a : Answer) :
    (answerWaiting s l a).trunk =
      { s.trunk with
        outQueue :=
          s.trunk.outQueue ++ (lineOf s l).waitingTag.toList.map fun tag => .reply { tag := tag, code := 14, answer := a }
        reserved := s.trunk.reserved - (lineOf s l).waitingTag.toList.length } := by
  unfold answerWaiting
  split
  · next hw => simp [hw]
  · next tag hw => simp [hw, fillReply]

/-! ### A line taken back by RELEASE (R51) -/

/-- The LINE_MODE record of a line taken back. -/
def lineRecords (s : State) (l : LineNo) : List Record :=
  if (lineOf s l).mode ≠ .decide then
    [{ stampedRecord s .lineMode with
      node := some (.line l), detail := .lineMode .decide (holdBroken (lineOf s l).mode) }]
  else []

/-- The HOLD_BROKEN notice of a line taken back. -/
def lineNotices (s : State) (l : LineNo) : List NoticeBody :=
  if holdBroken (lineOf s l).mode = true then [.holdBroken l] else []

/-- The reply to a LINE_MODE request that waits for HELD. -/
def lineReplies (s : State) (l : LineNo) : List OutFrame :=
  match (lineOf s l).mode with
  | .holding _ =>
    (lineOf s l).waitingTag.toList.map fun tag => .reply { tag := tag, code := 14, answer := .refused .phase }
  | _ => []

theorem releaseRecords_eq (s : State) : releaseRecords s = (List.finRange 4).flatMap (lineRecords s) := by
  unfold releaseRecords
  induction List.finRange 4 with
  | nil => rfl
  | cons l ls ih => by_cases h : (lineOf s l).mode = .decide <;> simp_all [lineRecords]

theorem releaseNotices_eq (s : State) : releaseNotices s = (List.finRange 4).flatMap (lineNotices s) := by
  unfold releaseNotices
  induction List.finRange 4 with
  | nil => rfl
  | cons l ls ih => by_cases h : holdBroken (lineOf s l).mode = true <;> simp_all [lineNotices]

theorem releaseReplies_eq (s : State) : releaseReplies s = (List.finRange 4).flatMap (lineReplies s) := rfl

theorem changeMode_records {m : LineMode} {broken : Bool} (hj : t.journal = s.journal)
    (hclock : t.time.clock = s.time.clock) (hchain : t.trunk.chain = s.trunk.chain) :
    appendsAll s (changeMode t l m broken)
      [{ stampedRecord s .lineMode with node := some (.line l), detail := .lineMode m broken }] := by
  have h0 : appendsAll s (setLine t l { lineOf t l with mode := m }) [] := (appendsAll_nil hj).of_journal (by simp)
  have hr := h0.record (by simpa using hchain)
    { stampedRecord s .lineMode with node := some (.line l), detail := .lineMode m broken }
  rw [changeMode, appendLine, stampedRecord_congr (t := setLine t l _) (s := s) (by simpa using hclock)]
  exact hr

/-- What RELEASE does to one line. -/
structure LineReleased (s : State) (l : LineNo) (t : State) : Prop where
  line : LineSet l (lineTakenBack s l) s t
  records : appendsAll s t (lineRecords s l)
  trunk : t.trunk =
    { s.trunk with
      notices := noticesWith s (lineNotices s l), outQueue := s.trunk.outQueue ++ lineReplies s l
      reserved := s.trunk.reserved - (lineReplies s l).length }

/-- A line HOLDING or HELD taken back, its other effects made. -/
theorem breakHold_released (hb : holdBroken (lineOf s l).mode = true) (hc : LineSet l c s t)
    (hline : { c with mode := .decide } = lineTakenBack s l) (hj : t.journal = s.journal)
    (hclock : t.time.clock = s.time.clock)
    (htrunk : t.trunk =
      { s.trunk with
        outQueue := s.trunk.outQueue ++ lineReplies s l, reserved := s.trunk.reserved - (lineReplies s l).length }) :
    LineReleased s l (breakHold t l) := by
  have hm : (lineOf s l).mode ≠ .decide := fun h => by simp [h, holdBroken] at hb
  refine ⟨hline ▸ (hc.changeMode .decide true).of_lines (by simp [breakHold]), ?_, ?_⟩
  · rw [lineRecords, if_pos hm, hb]
    exact (changeMode_records hj hclock (by rw [htrunk])).of_journal (by simp [breakHold])
  · simp [breakHold, pushNotice_eq, noticesAfter, noticesWith, hclock, htrunk, lineNotices, hb]

theorem releaseLine_released (s : State) (l : LineNo) : LineReleased s l (releaseLine s l) := by
  have hsame := LineSet.same l s
  unfold releaseLine
  split
  · next hm =>
    refine ⟨?_, ?_, ?_⟩
    · simpa [lineTakenBack, hm] using hsame
    · simpa [lineRecords, hm] using appendsAll_nil (s := s) (t := s) rfl
    · simp [lineNotices, lineReplies, hm, holdBroken, noticesWith]
  · next hm =>
    refine ⟨?_, ?_, ?_⟩
    · simpa [lineTakenBack, hm, lineReturned] using (hsame.returnEffects true).changeMode .decide false
    · simpa [lineRecords, hm, holdBroken] using
        changeMode_records (s := s) (t := returnEffects s l true) (l := l) (m := .decide) (broken := false) (by simp)
          (by simp) (by simp)
    · simp [lineNotices, lineReplies, hm, holdBroken, noticesWith]
  · next ft hm =>
    have hc : LineSet l (if ft then lineReturned s l true (lineOf s l) else lineOf s l) s
        (if ft then returnEffects s l true else s) := by
      cases ft
      · exact hsame
      · exact hsame.returnEffects true
    refine breakHold_released (by simp [hm, holdBroken]) (hc.answerWaiting (.refused .phase)) ?_ ?_ ?_ ?_
    · cases ft <;> simp [lineTakenBack, hm, lineReturned]
    · cases ft <;> simp
    · cases ft <;> simp
    · rw [answerWaiting_trunk, hc.line]
      cases ft <;> simp [lineReplies, hm, lineReturned, sweepFilled, passesDropped]
  · next hm =>
    refine breakHold_released (by simp [hm, holdBroken]) (hsame.returnEffects false) ?_ (by simp) (by simp) ?_
    · simp [lineTakenBack, hm, lineReturned]
    · simp [lineReplies, hm]

/-! ### Every line taken back -/

/-- What RELEASE has done once it has taken back the lines `ls`. -/
structure LinesReleased (s : State) (ls : List LineNo) (t : State) : Prop where
  line : ∀ l, lineOf t l = if l ∈ ls then lineTakenBack s l else lineOf s l
  records : appendsAll s t (ls.flatMap (lineRecords s))
  trunk : t.trunk =
    { s.trunk with
      notices := noticesWith s (ls.flatMap (lineNotices s))
      outQueue := s.trunk.outQueue ++ ls.flatMap (lineReplies s)
      reserved := s.trunk.reserved - (ls.flatMap (lineReplies s)).length }
  same : t.time = s.time ∧ t.loader = s.loader ∧ t.store = s.store

theorem LinesReleased.next {ls : List LineNo} (h : LinesReleased s ls t) (hl : l ∉ ls) :
    LinesReleased s (ls ++ [l]) (releaseLine t l) := by
  obtain ⟨hline, hrec, htrunk⟩ := releaseLine_released t l
  obtain ⟨htime, hload, hstore⟩ := h.same
  have hlt : lineOf t l = lineOf s l := by rw [h.line, if_neg hl]
  have hsweep : ∀ c, sweepFilled t l c = sweepFilled s l c := sweepFilled_congr hload hstore l
  have hback : lineTakenBack t l = lineTakenBack s l := by simp only [lineTakenBack, hlt, hsweep]
  have hclock : t.time.clock = s.time.clock := by rw [htime]
  have hrecs : lineRecords t l = lineRecords s l := by simp only [lineRecords, hlt, stampedRecord_congr hclock]
  have hnot : lineNotices t l = lineNotices s l := by simp only [lineNotices, hlt]
  have hrep : lineReplies t l = lineReplies s l := by simp only [lineReplies, hlt]
  rw [hback] at hline
  rw [hrecs] at hrec
  rw [hnot, hrep] at htrunk
  refine ⟨fun m => ?_, ?_, ?_, ?_⟩
  · by_cases hm : m = l
    · rw [hm, hline.line]
      simp
    · rw [hline.others m hm, h.line]
      simp [hm]
  · rw [List.flatMap_append, List.flatMap_singleton]
    exact h.records.trans hrec (by rw [h.trunk])
  · rw [htrunk, List.flatMap_append, List.flatMap_singleton, List.flatMap_append, List.flatMap_singleton,
      noticesWith_append]
    simp only [noticesWith, htime, h.trunk, List.append_assoc, List.length_append, Nat.sub_sub]
  · simpa using h.same

theorem foldl_releaseLine (s : State) : LinesReleased s lineNos (lineNos.foldl releaseLine s) := by
  have h0 : LinesReleased s [] s := ⟨by simp, appendsAll_nil rfl, by simp [noticesWith], rfl, rfl, rfl⟩
  exact (((h0.next (l := 0) (by decide)).next (l := 1) (by decide)).next (l := 2) (by decide)).next (l := 3) (by decide)

end

end Sys2Proof.Machine
end

section
/-!
A change of the effective level (05_admission.md, R98, R100, R101): `recomputeLevel` leaves what `levelChanged` says.
-/

namespace Sys2Proof.Machine

/-! ### Lines taken back -/

theorem lineTakenBack_mode (s : State) (l : LineNo) : (lineTakenBack s l).mode = .decide := by
  unfold lineTakenBack
  dsimp only
  split <;> simp_all

/-- Taking a line back leaves a node its command, or drops it. -/
theorem lineTakenBack_command (s : State) (l : LineNo) (a : Addr) (x : Command)
    (h : (look (lineTakenBack s l).nodes a).command = some x) : (look (lineOf s l).nodes a).command = some x := by
  have hdrop : (look (sweepFilled s l (passesDropped (lineOf s l))).nodes a).command = some x →
      (look (lineOf s l).nodes a).command = some x := fun h => by
    simp only [sweepFilled, passesDropped, look_ofFn] at h
    split at h
    · cases h
    · exact h
  unfold lineTakenBack at h
  dsimp only at h
  split at h
  · exact h
  · exact hdrop h
  · exact hdrop h
  · exact h
  · simpa [sweepFilled] using h

/-! ### The record, the notice and the cancelled deadlines of a change -/

/-- The part once a level change has been recorded and its lines taken back, before any door is given a command. -/
structure LevelApplied (s : State) (now : Level) (u : State) : Prop where
  effective : u.override.effective = now
  records : appendsAll s u
    ({ stampedRecord s .override with detail := .levels s.override.effective now } ::
      (if now = .release then releaseRecords s else []))
  trunk : u.trunk =
    { s.trunk with
      notices := noticesWith s (.override now :: (if now = .release then releaseNotices s else []))
      outQueue := s.trunk.outQueue ++ (if now = .release then releaseReplies s else [])
      reserved := s.trunk.reserved - (if now = .release then releaseReplies s else []).length }
  lines : ∀ l, lineOf u l = if now = .release then lineTakenBack s l else lineOf s l
  time : u.time =
    { s.time with
      deadlines :=
        s.time.deadlines.filter fun d => !(decide (now = .release) && (d.kind == .relock || d.kind == .held)) }
  issue : u.issue = s.issue
  loader : u.loader = s.loader
  store : u.store = s.store

/-- The new level with its record and notice (R98). -/
def levelSet (s : State) (now : Level) : State :=
  let s2 := pushNotice (appendPlain s .override (.levels s.override.effective now)) (.override now)
  s2.withOverride { s2.override with effective := now }

theorem recomputeLevel_eq (s : State) :
    recomputeLevel s =
      if levelNow s.override = s.override.effective then s
      else
        let s4 := if s.override.effective = .release then leaveRelease (levelSet s (levelNow s.override))
          else levelSet s (levelNow s.override)
        if levelNow s.override = .release then enterRelease s4 else s4 := rfl

theorem levelSet_reports (s : State) (now : Level) :
    appendsAll s (levelSet s now) [{ stampedRecord s .override with detail := .levels s.override.effective now }] ∧
      (levelSet s now).trunk = { s.trunk with notices := noticesWith s [.override now] } := by
  refine ⟨((appendsAll_nil (s := s) (t := s) rfl).record rfl _).of_journal ?_, ?_⟩
  · simp [levelSet, appendPlain]
  · simp [levelSet, pushNotice_eq, noticesAfter, noticesWith]

theorem levelSet_frame (s : State) (now : Level) :
    (levelSet s now).lines = s.lines ∧ (levelSet s now).time = s.time ∧ (levelSet s now).issue = s.issue ∧
      (levelSet s now).loader = s.loader ∧ (levelSet s now).store = s.store ∧
      (levelSet s now).override = { s.override with effective := now } := by
  simp [levelSet]

/-- A change that takes no line back. -/
theorem levelSet_applied (s : State) {now : Level} (h : now ≠ .release) : LevelApplied s now (levelSet s now) := by
  obtain ⟨hlines, htime, hissue, hloader, hstore, hover⟩ := levelSet_frame s now
  obtain ⟨hrec, htrunk⟩ := levelSet_reports s now
  refine ⟨by rw [hover], ?_, ?_, fun l => ?_, ?_, hissue, hloader, hstore⟩
  · simpa [h] using hrec
  · simp [h, htrunk]
  · rw [if_neg h, lineOf_eq_of_lines hlines]
  · simp [h, htime]

/-- The change to RELEASE: the doors' deadlines cancelled and every line taken back. -/
theorem linesReleased_applied (s : State) :
    LevelApplied s .release (lineNos.foldl releaseLine (cancelDoors (levelSet s .release))) := by
  obtain ⟨hlines, htime, hissue, hloader, hstore, hover⟩ := levelSet_frame s .release
  obtain ⟨hrec, htrunk⟩ := levelSet_reports s .release
  obtain ⟨v, hv⟩ : ∃ v, v = cancelDoors (levelSet s .release) := ⟨_, rfl⟩
  have hvline : ∀ l, lineOf v l = lineOf s l := lineOf_eq_of_lines (by rw [hv]; simpa using hlines)
  have hclock : v.time.clock = s.time.clock := by rw [hv]; simp [htime]
  have hsweep : ∀ l c, sweepFilled v l c = sweepFilled s l c :=
    sweepFilled_congr (by rw [hv]; simpa using hloader) (by rw [hv]; simpa using hstore)
  have hback : ∀ l, lineTakenBack v l = lineTakenBack s l := fun l => by simp only [lineTakenBack, hvline, hsweep]
  have hrecs : lineRecords v = lineRecords s := by
    funext l
    simp only [lineRecords, hvline, stampedRecord_congr hclock]
  have hnot : lineNotices v = lineNotices s := by
    funext l
    simp only [lineNotices, hvline]
  have hrep : lineReplies v = lineReplies s := by
    funext l
    simp only [lineReplies, hvline]
  have hvrec : appendsAll s v _ := hrec.of_journal (by rw [hv]; simp)
  have hvtrunk : v.trunk = { s.trunk with notices := noticesWith s [.override .release] } := by rw [hv]; simpa using htrunk
  have hr := foldl_releaseLine v
  rw [← hv]
  have hline := hr.line
  have hrecords := hr.records
  have htr := hr.trunk
  rw [hrecs] at hrecords
  rw [hnot, hrep] at htr
  refine ⟨?_, ?_, ?_, fun l => ?_, ?_, ?_, ?_, ?_⟩
  · rw [hv]; simp [hover]
  · rw [if_pos rfl, releaseRecords_eq]
    exact hvrec.trans hrecords (by rw [hvtrunk])
  · have happ : noticesWith s (.override .release :: (List.finRange 4).flatMap (lineNotices s)) = _ :=
      noticesWith_append s [.override .release] ((List.finRange 4).flatMap (lineNotices s))
    rw [if_pos rfl, if_pos rfl, releaseNotices_eq, releaseReplies_eq, happ, htr, hvtrunk]
    simp only [noticesWith, hclock, hvtrunk, lineNos]
  · rw [hline, hback]
    simp [lineNos]
  · rw [hr.same.1, hv]
    simp [cancelDoors, setDeadlines, htime, beq_eq_decide]
  · rw [hv]; simp [hissue]
  · rw [hv]; simp [hloader]
  · rw [hv]; simp [hstore]

/-! ### The doors told -/

section
variable {s u t : State} {now : Level}

/-- A level change is what it applies and, at the doors, what the ends of sessions add. -/
theorem LevelApplied.changed (hu : LevelApplied s now u) (htold : DoorsTold u t) (hover : t.override = u.override)
    (hlines : ∀ l, lineOf t l = lineLevelled s now l)
    (hquiet : (now = .release ∨ s.override.effective = .release → NoDoorSession s) → t = u.withLines t.lines) :
    levelChanged s t now [] [] := by
  have hdoor : notDoorTimeout u = notDoorTimeout s := notDoorTimeout_congr hu.loader hu.store
  have hleft : t.time.deadlines.filter (notDoorTimeout s) =
      s.time.deadlines.filter fun d =>
        notDoorTimeout s d && !(decide (now = .release) && (d.kind == .relock || d.kind == .held)) := by
    rw [← hdoor, htold.deadlines, hu.time, List.filter_filter, hdoor]
  obtain ⟨rs, hrs⟩ := htold.records
  obtain ⟨ns, hns⟩ := htold.trunk
  refine ⟨hover ▸ hu.effective, ?_, ?_, ?_, hlines, fun hn => ⟨fun l => ?_, fun d hd => ?_, fun n hn' => ?_⟩,
    fun hn l => ?_, fun hb hn n hn' => ?_, ?_, hleft, fun hp => ?_⟩
  · by_cases hp : now = .release ∨ s.override.effective = .release → NoDoorSession s
    · refine ⟨[], ?_, fun _ => rfl⟩
      rw [hquiet hp]
      simpa using hu.records.of_journal (u := u.withLines t.lines) rfl
    · exact ⟨rs, hu.records.trans hrs (by rw [hu.trunk]), fun h => absurd h hp⟩
  · by_cases hp : now = .release ∨ s.override.effective = .release → NoDoorSession s
    · refine ⟨[], ?_, fun _ => rfl⟩
      rw [hquiet hp]
      simp [hu.trunk]
    · exact ⟨ns, by rw [hns, hu.trunk], fun h => absurd h hp⟩
  · refine trunkIs_of_eq ?_
    rw [hns, hu.trunk]
    simp
  · rw [hlines, lineLevelled, if_pos hn, doorsQueued_mode, lineTakenBack_mode]
  · by_contra hk
    have hmem : d ∈ t.time.deadlines.filter (notDoorTimeout s) := by
      refine List.mem_filter.2 ⟨hd, ?_⟩
      rcases hkind : d.kind <;> simp_all [notDoorTimeout]
    rw [hleft] at hmem
    rcases hkind : d.kind <;> simp_all
  · rw [nodeOf, hlines, lineLevelled, if_pos hn]
    exact doorsQueued_command levelCommand_holdOpen s _ _ _ hn'
  · rw [hlines, lineLevelled, if_neg hn]
    split
    · exact doorsQueued_mode s l _
    · rfl
  · rw [nodeOf, hlines, lineLevelled, if_neg hn, if_pos hb]
    exact doorsQueued_command levelCommand_releaseEnd s _ _ _ hn'
  · rw [htold.time, hu.time]
  · have hq := hquiet hp
    refine ⟨?_, ?_⟩
    · rw [hq]
      exact hu.issue
    · rw [hq]
      exact congrArg (·.deadlines) hu.time

end

/-- What a change of the effective level leaves (R98, R100, R101). -/
theorem recomputeLevel_levelChanged (s : State) (h : levelNow s.override ≠ s.override.effective) :
    levelChanged s (recomputeLevel s) (levelNow s.override) [] [] := by
  obtain ⟨now, hnow⟩ : ∃ now, now = levelNow s.override := ⟨_, rfl⟩
  rw [recomputeLevel_eq, if_neg h]
  rw [← hnow] at h ⊢
  by_cases hr : now = .release
  · subst hr
    have hu := linesReleased_applied s
    obtain ⟨u, hu'⟩ : ∃ u, u = lineNos.foldl releaseLine (cancelDoors (levelSet s .release)) := ⟨_, rfl⟩
    rw [← hu'] at hu
    have ht : (if s.override.effective = .release then leaveRelease (levelSet s .release) else levelSet s .release) =
        levelSet s .release := if_neg (Ne.symm h)
    simp only [ht, if_true, enterRelease, ← hu']
    refine hu.changed (queueDoors_told levelCommand_holdOpen u) (by simp) (fun l => ?_) fun hs => ?_
    · rw [queueDoors_line levelCommand_holdOpen, doorsQueued_congr hu.loader hu.store, hu.lines, if_pos rfl, lineLevelled,
        if_pos rfl]
    · refine queueDoors_quiet levelCommand_holdOpen fun n x hd hx => ?_
      rw [doorOf_congr hu.loader hu.store] at hd
      rw [nodeOf, hu.lines, if_pos rfl] at hx
      exact hs (.inl rfl) n x hd (lineTakenBack_command s _ _ x hx)
  · have hu := levelSet_applied s hr
    simp only [hr, if_false]
    by_cases hb : s.override.effective = .release
    · simp only [hb, if_true, leaveRelease]
      refine hu.changed (queueDoors_told levelCommand_releaseEnd _) (by simp) (fun l => ?_) fun hs => ?_
      · rw [queueDoors_line levelCommand_releaseEnd, doorsQueued_congr hu.loader hu.store, hu.lines, if_neg hr,
          lineLevelled, if_neg hr, if_pos hb]
      · refine queueDoors_quiet levelCommand_releaseEnd fun n x hd hx => ?_
        rw [doorOf_congr hu.loader hu.store] at hd
        rw [nodeOf, hu.lines, if_neg hr] at hx
        exact hs (.inr hb) n x hd hx
    · simp only [hb, if_false]
      refine hu.changed (DoorsTold.refl _) rfl (fun l => ?_) fun _ => rfl
      rw [hu.lines, if_neg hr, lineLevelled, if_neg hr, if_neg hb]

end Sys2Proof.Machine
end

section
/-!
The first tick after leaving reset (12_start_up_retention_and_supply_failure.md, R200, R202): the entry to CHECKING, with the
effective level it computes.
-/

namespace Sys2Proof.Machine

/-! ### A level change, told over an earlier state -/

/-- What `levelChanged` reads of the state a level changes in. -/
structure LevelBase (b s : State) : Prop where
  time : s.time = b.time
  lines : s.lines = b.lines
  trunk : s.trunk = b.trunk
  issue : s.issue = b.issue
  effective : s.override.effective = b.override.effective
  doors : ∀ n, doorOf s n = doorOf b n

section
variable {b s t : State} {now : Level} {before rs : List Record} {after : List OutFrame}

/-- Records appended before the level changed stand before those of the change. -/
theorem levelChanged.rebase (h : levelChanged s t now rs after) (hb : LevelBase b s) (hr : appendsAll b s before) :
    levelChanged b t now (before ++ rs) after := by
  obtain ⟨htime, hlines, htrunk, hissue, heff, hdoors⟩ := hb
  have hclock : s.time.clock = b.time.clock := by rw [htime]
  have hline : ∀ l, lineOf s l = lineOf b l := lineOf_eq_of_lines hlines
  have hnode : ∀ n, nodeOf s n = nodeOf b n := fun n => by simp only [nodeOf, hline]
  have hsweep : ∀ l c, sweepFilled s l c = sweepFilled b l c := fun l c => by simp only [sweepFilled, hdoors]
  have hback : ∀ l, lineTakenBack s l = lineTakenBack b l := fun l => by simp only [lineTakenBack, hline, hsweep]
  have hqueued : ∀ l c d, doorsQueued s l c d = doorsQueued b l c d := fun l c d => by simp only [doorsQueued, hdoors]
  have hlevel : ∀ l, lineLevelled s now l = lineLevelled b now l := fun l => by
    simp only [lineLevelled, hback, hqueued, heff, hline]
  have hrel : releaseRecords s = releaseRecords b := by
    simp only [releaseRecords, hline, stampedRecord_congr hclock]
  have hnot : releaseNotices s = releaseNotices b := by simp only [releaseNotices, hline]
  have hrep : releaseReplies s = releaseReplies b := by simp only [releaseReplies, hline]
  have hwith : ∀ bs, noticesWith s bs = noticesWith b bs := fun bs => by simp only [noticesWith, htime, htrunk]
  unfold levelChanged at h ⊢
  simp only [heff, hdoors, hnode, hlevel, hrel, hnot, hrep, hwith, hline, htrunk, hissue, htime,
    stampedRecord_congr hclock] at h ⊢
  obtain ⟨heffective, ⟨qs, hqs, hplain⟩, hrest⟩ := h
  refine ⟨heffective, ⟨qs, ?_, hplain⟩, hrest⟩
  have := hr.trans hqs (by rw [htrunk])
  simpa only [List.append_assoc] using this

/-- What is appended over a state is appended over any with its journal. -/
theorem appendsAll.rebase (h : appendsAll s t rs) (hj : s.journal = b.journal) (hc : s.trunk.chain = b.trunk.chain) :
    appendsAll b t rs := by
  have hjs : Machine.journals s = Machine.journals b := by simp [Machine.journals, State.relayOnly, hj, hc]
  unfold appendsAll at h ⊢
  rw [h, hjs, hj]

theorem levelChanged.settled (h : levelChanged s t now rs after) : levelChanged s (settle t) now rs after := by
  unfold levelChanged at h ⊢
  obtain ⟨heff, ⟨qs, hqs, hplain⟩, hnotices, htrunk, hrest⟩ := h
  refine ⟨by simpa using heff, ⟨qs, hqs.settled, hplain⟩, by simpa using hnotices, ?_, ?_⟩
  · have := htrunk.settled
    simpa using this
  · simpa [lineOf, nodeOf] using hrest

end

theorem recomputeLevel_override (s : State) :
    (recomputeLevel s).override = { s.override with effective := levelNow s.override } := by
  rw [recomputeLevel_eq]
  split
  · next h => rw [h]
  · dsimp only
    have hover : ∀ now, (levelSet s now).override = { s.override with effective := now } := fun now => by
      simp [levelSet]
    (repeat' split) <;> simp [leaveRelease, enterRelease, hover]

/-! ### The entry to CHECKING (R202) -/

theorem foldl_loadSweep_line (s : State) (ls : List LineNo) (hls : ls.Nodup) (l : LineNo) :
    lineOf (ls.foldl loadSweep s) l = if l ∈ ls then sweepFilled s l (lineOf s l) else lineOf s l := by
  induction ls generalizing s with
  | nil => rfl
  | cons m ls ih =>
    obtain ⟨hm, hls⟩ := List.nodup_cons.1 hls
    have hset := (LineSet.same m s).loadSweep
    have hsweep : ∀ c, sweepFilled (loadSweep s m) l c = sweepFilled s l c := sweepFilled_congr (by simp) (by simp) l
    rw [List.foldl_cons, ih _ hls, hsweep]
    by_cases h : l = m
    · subst h
      simp [hm, hset.line]
    · rw [hset.others l h]
      simp [h]

/-- The part in CHECKING, before its effective level is computed. -/
def checkingEntered (s : State) : State :=
  keepWork (rebuildDeny (recordRestart (lineNos.foldl loadSweep (setPhase s .checking))))

theorem enterChecking_eq (s : State) (h : s.relayOnly = false) :
    enterChecking s = recomputeLevel (checkingEntered s) := by
  have hr : (setPhase s .checking).relayOnly = false := by simpa [State.relayOnly] using h
  simp [enterChecking, hr, checkingEntered]

theorem enterChecking_relay (s : State) (h : s.relayOnly = true) : enterChecking s = setPhase s .checking := by
  have hr : (setPhase s .checking).relayOnly = true := by simpa [State.relayOnly] using h
  simp [enterChecking, hr]

section
variable (s : State)

theorem checkingEntered_frame :
    (checkingEntered s).pending = s.pending ∧ (checkingEntered s).time = s.time ∧
      (checkingEntered s).queue = s.queue ∧ (checkingEntered s).tracker = s.tracker ∧
      (checkingEntered s).override = s.override ∧ (checkingEntered s).issue = s.issue ∧
      (checkingEntered s).port = s.port ∧ (checkingEntered s).loader = s.loader ∧
      (checkingEntered s).trunk = s.trunk ∧ (checkingEntered s).pins = s.pins ∧
      (checkingEntered s).store.doors = s.store.doors := by
  simp [checkingEntered]

theorem checkingEntered_lines :
    (checkingEntered s).lines = Vector.ofFn fun l => sweepFilled s l (lineOf s l) := by
  refine store_ext fun l => ?_
  have h := foldl_loadSweep_line (setPhase s .checking) lineNos (List.nodup_finRange 4) l
  have hsweep : ∀ c, sweepFilled (setPhase s .checking) l c = sweepFilled s l c := sweepFilled_congr (by simp) (by simp) l
  rw [hsweep, if_pos (by simp [lineNos])] at h
  simpa [checkingEntered, lineOf] using h

theorem checkingEntered_startup :
    (checkingEntered s).startup = { s.startup with phase := .checking, marker := s.startup.marker && !s.startup.keep } := by
  unfold checkingEntered keepWork
  split
  · next h =>
    have hk : s.startup.keep = true := by simpa using h
    simp [setPhase, hk]
  · next h =>
    have hk : s.startup.keep = false := by simpa using h
    simp [setPhase, hk]

theorem checkingEntered_store : (checkingEntered s).store = { s.store with denyCount := s.store.deny.length } := by
  have hkeep : ∀ v, (keepWork v).store = v.store := fun v => by simp
  rw [checkingEntered, hkeep]
  unfold rebuildDeny
  dsimp only
  split <;> simp

theorem checkingEntered_pruner : (checkingEntered s).pruner =
    if s.time.clock.cond = .unset then s.pruner else { minute := some s.time.clock.minute, cursor := 0 } := by
  have hkeep : ∀ v, (keepWork v).pruner = v.pruner := fun v => by simp
  rw [checkingEntered, hkeep]
  unfold rebuildDeny
  dsimp only
  split <;> split <;> simp_all

theorem checkingEntered_minibar : (checkingEntered s).minibar =
    s.minibar ++
      (if s.startup.keep = true then ((List.finRange 128).filter fun i => (partOf s i).isSome).map MinibarWork.lineUp
       else []) := by
  unfold checkingEntered keepWork
  split
  · next h =>
    have hk : s.startup.keep = true := by simpa using h
    simp [hk, lineUpWork, partOf, dynOf, slots]
  · next h =>
    have hk : s.startup.keep = false := by simpa using h
    simp [hk]

/-- The RESTART record, for every cause but COLD (R166, R167). -/
theorem checkingEntered_records :
    appendsAll s (checkingEntered s)
      (if s.startup.cause = .cold then []
       else [{ stampedRecord s .restart with detail := .restart s.startup.cause true }]) := by
  obtain ⟨v, hv⟩ : ∃ v, v = lineNos.foldl loadSweep (setPhase s .checking) := ⟨_, rfl⟩
  have hj : v.journal = s.journal ∧ v.trunk = s.trunk ∧ v.startup.cause = s.startup.cause ∧
      v.time.clock = s.time.clock := by
    rw [hv]
    simp
  obtain ⟨hjournal, htrunk, hcause, hclock⟩ := hj
  have h0 : appendsAll s v [] := appendsAll_nil hjournal
  have hrec : appendsAll s (recordRestart v)
      (if s.startup.cause = .cold then []
       else [{ stampedRecord s .restart with detail := .restart s.startup.cause true }]) := by
    unfold recordRestart
    rw [hcause]
    split
    · exact h0
    · rw [appendPlain, stampedRecord_congr hclock]
      exact h0.record (by rw [htrunk]) _
  exact hrec.of_journal (by rw [hv]; simp [checkingEntered])

end

theorem ticked_frame (s : State) (fire : Bool) :
    (ticked s fire).pending = s.pending ∧ (ticked s fire).lines = s.lines ∧ (ticked s fire).queue = s.queue ∧
      (ticked s fire).tracker = s.tracker ∧ (ticked s fire).issue = s.issue ∧ (ticked s fire).minibar = s.minibar ∧
      (ticked s fire).store = s.store ∧ (ticked s fire).port = s.port ∧ (ticked s fire).loader = s.loader ∧
      (ticked s fire).pruner = s.pruner ∧ (ticked s fire).journal = s.journal ∧ (ticked s fire).trunk = s.trunk ∧
      (ticked s fire).startup = s.startup ∧ (ticked s fire).pins = s.pins := by
  simp [ticked]

/-- The Time Unit of a tick in RESETTING: the counters advance, due deadlines expire, no minute event is raised (R6, R14). -/
theorem ticked_time_resetting {s : State} (fire : Bool) (hs : s.stopping = false) (hp : s.startup.phase = .resetting) :
    (ticked s fire).time =
      { tick := s.time.tick + 1, clock := clockTenth s.time.clock, minuteEvents := s.time.minuteEvents
        deadlines := s.time.deadlines.filter fun d => d.due != s.time.tick + 1
        expiring := s.time.expiring ++
          (s.time.deadlines.filter fun d => d.due == s.time.tick + 1).map fun d => (d.node, d.kind) } := by
  rw [ticked_time fire hs]
  simp [countTick, raisesMinutes, hp]

theorem levelNow_fireSampled (o : OverrideUnit) (fire : Bool) : levelNow (fireSampled o fire) = levelNow o := rfl

theorem execTickEvent_resetting {s : State} (fire : Bool) (ht : s.ticking = true) (hs : s.stopping = false)
    (hp : s.startup.phase = .resetting) :
    exec (.tickEvent fire false) s = .next (settle (enterChecking (ticked s fire))) := by
  have hfail : s.startup.failTaken = false := by
    simp only [State.stopping, Bool.or_eq_false_iff] at hs
    exact hs.1
  rw [execTickEvent_eq ht, tickStep_running, leaveResetting, if_pos]
  simp [ticked, hp, hfail]

/-- The part entered in CHECKING is one that `levelChanged` reads as the part ticked, its sweep sets loaded. -/
theorem checkingEntered_base {b u : State} (htime : u.time = b.time)
    (hlines : (Vector.ofFn fun l => sweepFilled u l (lineOf u l)) = b.lines) (htrunk : u.trunk = b.trunk)
    (hissue : u.issue = b.issue) (heff : u.override.effective = b.override.effective) (hloader : u.loader = b.loader)
    (hstore : u.store = b.store) : LevelBase b (checkingEntered u) := by
  obtain ⟨-, ht, -, -, ho, hi, -, hl, hk, -, hd⟩ := checkingEntered_frame u
  exact ⟨ht.trans htime, (checkingEntered_lines u).trans hlines, hk.trans htrunk, hi.trans hissue, by rw [ho, heff],
    fun n => by simp [doorOf, doorAt, hl, hd, hloader, hstore]⟩

/-- Settles O2: the part entered in CHECKING is `checkingEntered` of the tick's state, and its level is recomputed over it. -/
theorem firstTickEntersChecking : Obligations.FirstTickEntersChecking := by
  intro s fire ht hs hp left
  obtain ⟨u, hu⟩ : ∃ u, u = ticked s fire := ⟨_, rfl⟩
  have hframe := ticked_frame s fire
  have hexec := execTickEvent_resetting fire ht hs hp
  have htime := ticked_time_resetting fire hs hp
  have hover := ticked_override fire hs
  rw [← hu] at hframe hexec htime hover
  clear hu
  obtain ⟨hpending, hlines, hqueue, htracker, hissue, hminibar, hstore, hport, hloader, hpruner, hjournal, htrunk,
    hstartup, hpins⟩ := hframe
  have hrelay : u.relayOnly = s.relayOnly := by simp [State.relayOnly, htrunk]
  refine ⟨_, hexec, ?_⟩
  rcases hr : s.relayOnly with _ | _
  · rw [enterChecking_eq u (hrelay.trans hr)]
    rw [hr, if_neg (by simp)] at hover
    obtain ⟨w, hw⟩ : ∃ w, w = checkingEntered u := ⟨_, rfl⟩
    have hwframe := checkingEntered_frame u
    have hwlines := checkingEntered_lines u
    have hwstartup := checkingEntered_startup u
    have hwstore := checkingEntered_store u
    have hwpruner := checkingEntered_pruner u
    have hwminibar := checkingEntered_minibar u
    have hwrecords := checkingEntered_records u
    rw [← hw] at hwframe hwlines hwstartup hwstore hwpruner hwminibar hwrecords ⊢
    obtain ⟨hwpending, hwtime, hwqueue, hwtracker, hwover, hwissue, hwport, hwloader, hwtrunk, hwpins, -⟩ := hwframe
    obtain ⟨t, ht'⟩ : ∃ t, t = settle (recomputeLevel w) := ⟨_, rfl⟩
    rw [← ht']
    have htt : t.time.tick = u.time.tick ∧ t.time.clock = u.time.clock ∧ t.time.expiring = u.time.expiring ∧
        t.time.minuteEvents = u.time.minuteEvents := by simp [ht', hwtime]
    obtain ⟨htick, hclock, hexpiring, hminutes⟩ := htt
    refine ⟨by simp [ht', hwpending, hpending], by rw [htick, htime], ?_, by simp [ht', hwstartup],
      by rw [hminutes, htime], by rw [hexpiring, htime], nofun, fun _ => ?_⟩
    · rw [hclock, htime]
      exact clockTenth_counts _
    intro now swept base restart
    have hbase : base.time = u.time := by
      show { t.time with deadlines := left } = u.time
      rw [TimeUnit.eq_withDeadlines htick hclock hexpiring hminutes, htime]
    have hlevel : levelNow w.override = now := by
      rw [hwover, hover, levelNow_fireSampled]
      rfl
    have hswept : (Vector.ofFn fun l => sweepFilled u l (lineOf u l)) = swept := by
      simp only [sweepFilled_congr hloader hstore, lineOf_eq_of_lines hlines, swept]
    have heff : w.override.effective = s.override.effective := by rw [hwover, hover]; rfl
    have hstamp : stampedRecord u .restart = stampedRecord base .restart := stampedRecord_congr (hbase ▸ rfl) _
    have hrestart : appendsAll s w restart := by
      rw [hstartup, hstamp] at hwrecords
      exact hwrecords.rebase hjournal (by rw [htrunk])
    have hl : LevelBase base w := hw ▸ checkingEntered_base hbase.symm hswept htrunk hissue
      (by rw [hover]; rfl) hloader (by rw [hstore])
    refine ⟨?_, by simp [ht', hwstartup, hstartup], by simp [ht', hwstore, hstore], ?_, ?_, ?_, fun hn => ⟨?_, ?_⟩,
      fun hn => ?_⟩
    · rw [ht']
      refine unchangedBut.settled ?_
      rw [unchangedBut_iff]
      clear hw
      simp [*]
    · simp only [ht', settle_frame, recomputeLevel_frame, hwpruner, hpruner, hwtime]
    · simp [ht', hwminibar, hminibar, hstartup, partOf, dynOf, hstore]
    · simp only [ht', settle_frame, recomputeLevel_override, hlevel]
      rw [hwover, hover]
    · have hchanged := (recomputeLevel_levelChanged w (by rw [hlevel, heff]; exact hn)).rebase hl hrestart
      rw [List.append_nil, hlevel] at hchanged
      exact ht' ▸ hchanged.settled
    · simp [ht', hwtrunk, htrunk]
    · rw [ht', recomputeLevel_same w (by rw [hlevel, heff]; exact hn)]
      refine ⟨by simp [hwlines, hswept], by simp [hwissue, hissue], ?_, (trunkIs_of_eq (hwtrunk.trans htrunk)).settled,
        hrestart.settled⟩
      simp only [settle_frame, hwtime, htime]
      rfl
  · rw [enterChecking_relay u (hrelay.trans hr)]
    simp only [settle_frame, setPhase_frame, htime, hpending]
    refine ⟨trivial, trivial, clockTenth_counts _, rfl, trivial, trivial, fun _ => ⟨unchangedBut.settled ?_, rfl⟩, nofun⟩
    rw [unchangedBut_iff]
    simp [*]

end Sys2Proof.Machine
end

section
/-!
The check code of a grant (02_card_grants.md, R23, R24, R26): the sum's terms and bound, and that a composed grant carries
its code.
-/

namespace Sys2Proof.Machine

/-- The options enter the sum by their two flags, MINIBAR 1 and PRIVACY_OVERRIDE 2 (R21). -/
theorem optionsValue_eq (o : Byte) :
    optionsValue o = (if o.getLsbD 0 then 1 else 0) + if o.getLsbD 1 then 2 else 0 := by
  simp only [optionsValue, BitVec.extractLsb'_toNat, BitVec.getLsbD, Nat.testBit_eq_decide_div_mod_eq, decide_eq_true_eq]
  split <;> split <;> omega

theorem optionsValue_le (o : Byte) : optionsValue o ≤ 3 := by
  rw [optionsValue_eq]
  split <;> split <;> omega

/-- Every field at its largest, each split term taken apart (R23). -/
theorem checkSum_le (k : Half) (g : Grant) : checkSum k g ≤ 524793 := by
  have ho := optionsValue_le g.options
  unfold checkSum
  omega

theorem checkCode_toNat (k : Half) (g : Grant) : (checkCode k g).toNat = 65535 - checkSum k g % 65536 := by
  rw [checkCode, BitVec.toNat_ofNat]
  omega

theorem verifies_iff (k : Half) (g : Grant) : verifies k g = true ↔ g.check = checkCode k g := by
  rw [← BitVec.toNat_inj, checkCode_toNat, verifies, decide_eq_true_eq]
  omega

/-- The check field is no term of the sum, so the code written into it is the code of the whole grant (R26). -/
theorem composeGrant_check (k : Half) (stay : Stay) (serial : Serial) (g : Gen) :
    (composeGrant k stay serial g).check = checkCode k (composeGrant k stay serial g) := rfl

theorem composeGrant_verifies (k : Half) (stay : Stay) (serial : Serial) (g : Gen) :
    verifies k (composeGrant k stay serial g) = true := (verifies_iff _ _).2 (composeGrant_check k stay serial g)

/-- Settles O10: the sum is its terms with the options taken by flag, and a grant verifies where check and sum make 65,535. -/
theorem checkCodeSumsFields : Obligations.CheckCodeSumsFields := by
  intro k g
  refine ⟨?_, checkSum_le k g, checkCode_toNat k g, verifies_iff k g, fun stay serial gen => ?_⟩
  · rw [checkSum, optionsValue_eq, ← Nat.add_assoc]
  · exact ⟨composeGrant_check k stay serial gen, rfl, rfl, rfl, rfl⟩

end Sys2Proof.Machine
end

section
/-!
COMPOSITION (02_card_grants.md, R26; 06_issue_and_supersession.md, R107): what queuing WRITE and arming the timeout leave, and
the completion of a composition as one state.
-/

namespace Sys2Proof.Machine

variable {s : State} {n : Node} {k : Fin 2}

/-! ### A session's command and timeout -/

/-- A HOLD_OPEN alone outlasts a session's command (R42). -/
theorem eq_holdOpen_of_outlasts {old new : Command} (hn : isSessionCommand new = true) (h : outlasts old new = true) :
    old = .holdOpen := by
  have hb : new ≠ .busy := by rintro rfl; cases hn
  cases old with
  | holdOpen => rfl
  | _ => simp [outlasts, hb] at h

/-- A session's command becomes the pending one, in place of any but a HOLD_OPEN (R42). -/
theorem lineQueued_sessionCommand (d : LineCtl) (a : Addr) {new : Command} (hn : isSessionCommand new = true)
    (hh : (look d.nodes a).command ≠ some .holdOpen) : (look (lineQueued d a new).nodes a).command = some new := by
  unfold lineQueued
  dsimp only
  split
  · simp
  · next old ho =>
    have hout : outlasts old new ≠ true := fun h => hh (ho.trans (congrArg some (eq_holdOpen_of_outlasts hn h)))
    simp [hout]

theorem nodeOf_linesQueued {t : State} {new : Command} (h : t.lines = linesQueued s n new)
    (hn : isSessionCommand new = true) (hh : (nodeOf s n).command ≠ some .holdOpen) :
    (nodeOf t n).command = some new := by
  rw [nodeOf, lineOf_of_linesQueued h, if_pos rfl]
  exact lineQueued_sessionCommand _ _ hn hh

/-- ISSUE_TIMEOUT armed for an encoder (R11, R12). -/
theorem arm_timeoutArmed {b : State} {ticks : Tick} (ht : s.time = b.time) (hd : (doorOf s n).kind = .encoder)
    (h1 : 1 ≤ ticks.toNat) (h2 : ticks.toNat ≤ 6000) : timeoutArmed b (arm s n .issueTimeout ticks) n ticks := by
  unfold timeoutArmed
  rw [← ht]
  exact ⟨TimeUnit.eq_withDeadlines (by simp) (by simp) (by simp) (by simp),
    arm_entry s n .issueTimeout ticks (by simp [belongs, hd]) h1 h2, arm_others s n .issueTimeout ticks⟩

theorem timeoutArmed.settled {t : State} {ticks : Tick} (h : timeoutArmed s t n ticks) :
    timeoutArmed s (settle t) n ticks := by simpa only [timeoutArmed, settle_frame] using h

/-- WRITE queued for the encoder of a session that is WRITING: a PREPARE still pending is replaced and ends no session (R42,
R112). -/
theorem queueCommand_write {g : Grant} (hd : (doorOf s n).kind = .encoder)
    (hp : ∀ x, (nodeOf s n).command = some x →
      x = .prepare ∨ isSessionCommand x = false ∨ flightFate (lineOf s n.line) n.addr = some .withdrawn)
    (hk : ctxOfNode s n = some k) (hw : (ctxOf s k).state = .writing) :
    queueCommand s n (.write g) = s.withLines (linesQueued s n (.write g)) := by
  have hcfg : configured (doorOf s n) = true := by simp [configured, hd]
  by_cases hplain : ∀ old, (nodeOf s n).command = some old →
      isSessionCommand old = false ∨ flightFate (lineOf s n.line) n.addr = some .withdrawn
  · exact queueCommand_plain s n _ hcfg rfl hplain
  · push Not at hplain
    obtain ⟨old, ho, hs, hf⟩ := hplain
    obtain rfl : old = .prepare := (hp old ho).resolve_right (by simp [hs, hf])
    rw [queueCommand_replaces s n hcfg rfl ho rfl hf]
    have hk' : ctxOfNode (s.withLines (linesQueued s n (.write g))) n = some k := hk
    have hw' : (ctxOf (s.withLines (linesQueued s n (.write g))) k).state = .writing := hw
    simp [issueDrop, hk', hw']

/-! ### The composition completed -/

theorem ctxOf_setCtx (s : State) (k j : Fin 2) (c : IssueCtx) :
    ctxOf (setCtx s k c) j = if k = j then c else ctxOf s j := look_put _ _ _ _

/-- A node's context replaced by an open one of the same node is still the node's (R104). -/
theorem ctxOfNode_setCtx {c : IssueCtx} (hk : ctxOfNode s n = some k) (ho : isOpen c = true)
    (hn : c.node = (ctxOf s k).node) : ctxOfNode (setCtx s k c) n = some k := by
  obtain ⟨hopen, hnode⟩ := ctxOfNode_some hk
  have same : ∀ j, (isOpen (ctxOf (setCtx s k c) j) && decide ((ctxOf (setCtx s k c) j).node = n)) =
      (isOpen (ctxOf s j) && decide ((ctxOf s j).node = n)) := fun j => by
    rw [ctxOf_setCtx]
    split
    · next hj => rw [← hj, hn, ho, hopen]
    · rfl
  simpa only [ctxOfNode, same] using hk

/-- A context with its grant composed (R107). -/
def composedCtx (c : IssueCtx) (grant : Grant) : IssueCtx :=
  { c with
    state := .writing, serial := some grant.serial, gen := some grant.gen, composed := some grant, heldBlank := none }

/-- The part with a session's grant composed and WRITE queued for its encoder (R107). -/
def grantComposed (s : State) (k : Fin 2) (grant : Grant) : State :=
  (setCtx s k (composedCtx (ctxOf s k) grant)).withLines (linesQueued s (ctxOf s k).node (.write grant))

theorem grantComposed_issue (s : State) (k : Fin 2) (grant : Grant) :
    (grantComposed s k grant).issue = { s.issue with ctxs := put s.issue.ctxs k (composedCtx (ctxOf s k) grant) } := by
  simp [grantComposed, setCtx]

theorem grantComposed_lines (s : State) (k : Fin 2) (grant : Grant) :
    (grantComposed s k grant).lines = linesQueued s (ctxOf s k).node (.write grant) := by simp [grantComposed]

@[simp] theorem grantComposed_frame (s : State) (k : Fin 2) (grant : Grant) :
    (grantComposed s k grant).pending = s.pending ∧ (grantComposed s k grant).time = s.time ∧
    (grantComposed s k grant).queue = s.queue ∧ (grantComposed s k grant).tracker = s.tracker ∧
    (grantComposed s k grant).override = s.override ∧ (grantComposed s k grant).minibar = s.minibar ∧
    (grantComposed s k grant).store = s.store ∧ (grantComposed s k grant).port = s.port ∧
    (grantComposed s k grant).loader = s.loader ∧ (grantComposed s k grant).pruner = s.pruner ∧
    (grantComposed s k grant).journal = s.journal ∧ (grantComposed s k grant).trunk = s.trunk ∧
    (grantComposed s k grant).startup = s.startup ∧ (grantComposed s k grant).pins = s.pins := by
  simp [grantComposed]

/-- No composition takes place once the outcome is decided (log 23). -/
theorem completeComposition_decided (h : (ctxOf s k).outcome ≠ none) : completeComposition s k = s := by
  simp [completeComposition, h]

/-- The generation composed: 0 but for a GUEST, whose room gives it (R26). -/
theorem composedGen_eq {c : IssueCtx} {g : Gen} (hother : c.stay.cls ≠ 1 → g = 0)
    (hguest : c.stay.cls = 1 → ∃ i, findRoom s c.stay.room = some i ∧
      g = if c.duplicate then (dynOf s i).issued else (dynOf s i).issued + 1) : composedGen s c = some g := by
  by_cases hc : c.stay.cls = 1
  · obtain ⟨i, hi, hg⟩ := hguest hc
    simp [composedGen, isGuest, hc, hi, hg]
  · rw [composedGen, if_neg (by simpa [isGuest] using hc), hother hc]

/-- A composition completed: the context is WRITING, WRITE is queued, and the timeout is armed (R107). -/
theorem completeComposition_eq {serial : Serial} {g : Gen} (ho : (ctxOf s k).outcome = none)
    (hst : (ctxOf s k).state = .awaitBlank) (hb : (ctxOf s k).heldBlank = some serial)
    (hg : composedGen s (ctxOf s k) = some g) (hd : (doorOf s (ctxOf s k).node).kind = .encoder)
    (hp : ∀ x, (nodeOf s (ctxOf s k).node).command = some x →
      x = .prepare ∨ isSessionCommand x = false ∨
        flightFate (lineOf s (ctxOf s k).node.line) (ctxOf s k).node.addr = some .withdrawn)
    (hk : ctxOfNode s (ctxOf s k).node = some k) :
    completeComposition s k =
      arm (grantComposed s k (composeGrant (configOf s).siteCode (ctxOf s k).stay serial g)) (ctxOf s k).node
        .issueTimeout Config.writingTicks := by
  obtain ⟨grant, hgrant⟩ : ∃ x, x = composeGrant (configOf s).siteCode (ctxOf s k).stay serial g := ⟨_, rfl⟩
  have hqueued : queueCommand (setCtx s k (composedCtx (ctxOf s k) grant)) (ctxOf s k).node (.write grant) =
      grantComposed s k grant :=
    queueCommand_write hd hp (ctxOfNode_setCtx hk rfl rfl) (by simp [ctxOf_setCtx, composedCtx])
  rw [completeComposition, if_pos ⟨hst, ho⟩, hb, hg, ← hgrant, ← hqueued, hgrant]
  rfl

theorem exec_composition_complete (h : opInHand s (.composition k)) :
    exec (.composition .complete) s = .next (settle (completeComposition (setInHand s none) k)) :=
  runForm_complete (grant := grantIssue selComposition) (finishOp_eq (eff := effComposition) h rfl)

/-- Settles O27: the completion is `completeComposition_eq` of the state with the operation out of hand. -/
theorem compositionWritesGrant : Obligations.CompositionWritesGrant := by
  intro s k serial g hop c n plain grant
  have hexec := exec_composition_complete hop
  refine ⟨fun ho => ⟨_, hexec, ?_⟩, fun ho hst hb hother hguest hd hp hk => ⟨_, hexec, ?_⟩⟩
  · rw [completeComposition_decided (s := setInHand s none) ho]
    exact ⟨unchangedBut.settled (by simp [unchangedBut_iff]), by simp [setInHand]⟩
  · have hdone : completeComposition (setInHand s none) k =
        arm (grantComposed (setInHand s none) k grant) n .issueTimeout Config.writingTicks :=
      completeComposition_eq ho hst hb (composedGen_eq hother hguest) hd hp hk
    have hlines : (settle (arm (grantComposed (setInHand s none) k grant) n .issueTimeout Config.writingTicks)).lines =
        linesQueued s n (.write grant) := by
      simp only [settle_frame, arm_frame, grantComposed_lines]
      rfl
    rw [hdone]
    refine ⟨unchangedBut.settled (by rw [unchangedBut_iff]; simp), by simp [setInHand], ?_, hlines,
      nodeOf_linesQueued hlines rfl, ?_, ?_⟩
    · simp only [settle_frame, arm_frame, grantComposed_issue]
      rfl
    · have hconfig : configOf (settle (arm (grantComposed (setInHand s none) k grant) n .issueTimeout
          Config.writingTicks)) = configOf s := by simp [configOf]
      rw [hconfig]
      exact composeGrant_verifies (configOf s).siteCode c.stay serial g
    · exact timeoutArmed.settled (arm_timeoutArmed (by simp) hd (by decide) (by decide))

end Sys2Proof.Machine
end

section
/-!
The lines under the shared operations (03_door_lines.md, R42 to R51): what each leaves of a line's mode, of the LINE_MODE waiting
on it, of its exchange where it is HELD, and of its FIFO.
-/

namespace Sys2Proof.Machine

/-! ### One line -/

/-- The FIFO of a line holds each node with a pending command once, and no other (R42). -/
def fifoOk (c : LineCtl) : Prop := c.fifo.Nodup ∧ ∀ a, a ∈ c.fifo ↔ (look c.nodes a).command ≠ none

/-- What `heldSound` and `fifoSound` say of one line. -/
structure LineOk (c : LineCtl) : Prop where
  held : c.mode = .held → c.exchange = none
  waiting : c.waitingTag.isSome = isHolding c.mode
  fifo : fifoOk c

/-- From `c` to `d` a line keeps its mode and the LINE_MODE waiting, begins no exchange in HOLDING and HELD, and keeps its FIFO in
step with the pending commands. -/
structure LineKept (c d : LineCtl) : Prop where
  mode : d.mode = c.mode
  tag : d.waitingTag = c.waitingTag
  held : holdBroken c.mode = true → c.exchange = none → d.exchange = none
  fifo : fifoOk c → fifoOk d

theorem LineKept.same (c : LineCtl) : LineKept c c := ⟨rfl, rfl, fun _ h => h, id⟩

theorem LineKept.step {c d e : LineCtl} (h : LineKept c d) (g : LineKept d e) : LineKept c e :=
  ⟨g.mode.trans h.mode, g.tag.trans h.tag, fun hm he => g.held (h.mode ▸ hm) (h.held hm he), g.fifo ∘ h.fifo⟩

theorem LineKept.ok {c d : LineCtl} (h : LineKept c d) (g : LineOk c) : LineOk d :=
  ⟨fun hm => h.held (by rw [← h.mode, hm]; rfl) (g.held (h.mode ▸ hm)), by rw [h.mode, h.tag]; exact g.waiting, h.fifo g.fifo⟩

/-- A line of which neither the FIFO nor whether a node has a pending command has changed. -/
theorem fifoOk_congr {c d : LineCtl} (hf : d.fifo = c.fifo)
    (hn : ∀ a, (look d.nodes a).command = none ↔ (look c.nodes a).command = none) : fifoOk d ↔ fifoOk c := by
  simp [fifoOk, hf, hn]

theorem LineKept.of_fifo {c d : LineCtl} (hm : d.mode = c.mode) (ht : d.waitingTag = c.waitingTag)
    (he : holdBroken c.mode = true → c.exchange = none → d.exchange = none) (hf : d.fifo = c.fifo)
    (hn : ∀ a, (look d.nodes a).command = none ↔ (look c.nodes a).command = none) : LineKept c d :=
  ⟨hm, ht, he, (fifoOk_congr hf hn).2⟩

theorem command_withNode (c : LineCtl) (a b : Addr) (x : NodeCtl) :
    look (c.withNode a x).nodes b = if a = b then x else look c.nodes b := by
  simp only [LineCtl.withNode, look_put]

/-- One node replaced, its having a pending command unchanged. -/
theorem withNode_kept (c : LineCtl) (a : Addr) {x : NodeCtl}
    (hx : x.command = none ↔ (look c.nodes a).command = none) : LineKept c (c.withNode a x) := by
  refine .of_fifo rfl rfl (fun _ h => h) rfl fun b => ?_
  rw [command_withNode]
  split
  · next h => exact h ▸ hx
  · rfl

/-- The exchange in flight changed by a function of it. -/
theorem mapExchange_kept (c : LineCtl) (f : Exchange → Exchange) :
    LineKept c { c with exchange := c.exchange.map f } :=
  .of_fifo rfl rfl (fun _ h => by simp [h]) rfl fun _ => Iff.rfl

/-- A pending command dropped with its FIFO place (R42). -/
theorem dropCommand_kept (c : LineCtl) (a : Addr) (f : Fate) : LineKept c (dropCommand c a f) := by
  refine ⟨rfl, rfl, fun _ h => by simp [dropCommand, h], fun h => ⟨h.1.filter _, fun b => ?_⟩⟩
  have hb : look (dropCommand c a f).nodes b = look (c.withNode a { look c.nodes a with command := none, attempts := 0, duty := false }).nodes b := rfl
  rw [hb, command_withNode]
  by_cases hba : a = b
  · simp [dropCommand, hba]
  · simp [dropCommand, hba, Ne.symm hba, h.2 b]

/-- A node's address put at the tail, the node having a pending command (R42, R44). -/
theorem fifoOk_tail {c d : LineCtl} {a : Addr} (h : fifoOk c) (hf : d.fifo = c.fifo.filter (fun b => !(b = a)) ++ [a])
    (ha : (look d.nodes a).command ≠ none)
    (hn : ∀ b, b ≠ a → ((look d.nodes b).command = none ↔ (look c.nodes b).command = none)) : fifoOk d := by
  refine ⟨?_, fun b => ?_⟩
  · rw [hf]
    exact List.nodup_append.2 ⟨h.1.filter _, by simp, by simp⟩
  · by_cases hb : b = a
    · simp [hf, hb, ha]
    · simp [hf, hb, h.2 b, hn b hb]

theorem moveToTail_kept (c : LineCtl) (a : Addr) : LineKept c (moveToTail c a) := by
  unfold moveToTail
  split
  · next h => exact ⟨rfl, rfl, fun _ h => h, fun hc => fifoOk_tail (a := a) hc rfl ((hc.2 a).1 h) fun _ _ => Iff.rfl⟩
  · exact .same c

theorem dropPass_kept (c : LineCtl) (a : Addr) : LineKept c (dropPass c a) := by
  rw [dropPass_eq]
  split
  · exact dropCommand_kept _ _ _
  · exact .same c

theorem foldl_dropPass_kept (as : List Addr) (c : LineCtl) : LineKept c (as.foldl dropPass c) := by
  induction as generalizing c with
  | nil => exact .same c
  | cons a as ih => exact (dropPass_kept c a).step (ih _)

/-! ### The four lines -/

/-- Every line kept. -/
def LinesKept (v w : Vector LineCtl 4) : Prop := ∀ l, LineKept (look v l) (look w l)

@[simp] theorem LinesKept.same (v : Vector LineCtl 4) : LinesKept v v := fun _ => .same _

theorem LinesKept.step {u v w : Vector LineCtl 4} (h : LinesKept u v) (g : LinesKept v w) : LinesKept u w :=
  fun l => (h l).step (g l)

/-- A fold whose every step keeps the lines keeps them. -/
theorem foldl_keepsLines {β : Type} {v : Vector LineCtl 4} (f : State → β → State)
    (hf : ∀ s b, LinesKept v s.lines → LinesKept v (f s b).lines) (l : List β) {s : State}
    (h : LinesKept v s.lines) : LinesKept v (l.foldl f s).lines :=
  foldl_holds (fun s => LinesKept v s.lines) f hf l s h

section
variable {v : Vector LineCtl 4} {s : State}

theorem setLine_keepsLines (l : LineNo) {c : LineCtl} (h : LinesKept v s.lines) (hc : LineKept (lineOf s l) c) :
    LinesKept v (setLine s l c).lines := fun m => by
  simp only [setLine, State.withLines_lines, look_put]
  split
  · next hm => exact hm ▸ (h _).step (hm ▸ hc)
  · exact h m

theorem setNode_keepsLines (n : Node) {x : NodeCtl} (h : LinesKept v s.lines)
    (hx : x.command = none ↔ (nodeOf s n).command = none) : LinesKept v (setNode s n x).lines :=
  setLine_keepsLines _ h (withNode_kept _ _ hx)

/-! Pending commands and sessions (R42, R112, R115) -/

@[simp] theorem setDrop_keepsLines (l : LineNo) (a : Addr) (f : Fate) (h : LinesKept v s.lines) :
    LinesKept v (setLine s l (dropCommand (lineOf s l) a f)).lines :=
  setLine_keepsLines _ h (dropCommand_kept _ _ _)

@[simp] theorem withdraw_keepsLines (n : Node) (h : LinesKept v s.lines) : LinesKept v (withdraw s n).lines := by
  unfold withdraw
  repeat' split
  · exact h
  · exact setLine_keepsLines _ h (mapExchange_kept _ _)
  · exact setLine_keepsLines _ h (dropCommand_kept _ _ _)
  · exact h

@[simp] theorem endSession_keepsLines (k : Fin 2) (r : FailReason) (h : LinesKept v s.lines) :
    LinesKept v (endSession s k r).lines := by
  have hc : LinesKept v (if r = .timeout then s else cancel s (ctxOf s k).node .issueTimeout).lines := by
    split <;> simp [h]
  unfold endSession
  dsimp only
  repeat' split
  all_goals simp_all

@[simp] theorem endNodeSession_keepsLines (n : Node) (r : FailReason) (h : LinesKept v s.lines) :
    LinesKept v (endNodeSession s n r).lines := by
  unfold endNodeSession
  split <;> simp [h]

@[simp] theorem endRoomSession_keepsLines (room : Half) (r : FailReason) (h : LinesKept v s.lines) :
    LinesKept v (endRoomSession s room r).lines := by
  unfold endRoomSession
  split <;> simp [h]

@[simp] theorem issueDrop_keepsLines (n : Node) (c : Command) (h : LinesKept v s.lines) :
    LinesKept v (issueDrop s n c).lines := by
  unfold issueDrop
  split
  · exact h
  · split <;> simp [h]

@[simp] theorem queueCommand_keepsLines (n : Node) (c : Command) (h : LinesKept v s.lines) :
    LinesKept v (queueCommand s n c).lines := by
  unfold queueCommand
  dsimp only
  split
  · split
    · refine setLine_keepsLines _ h ⟨rfl, rfl, fun _ h => h, fun hc => fifoOk_tail (a := n.addr) hc rfl ?_ ?_⟩
      · simp [LineCtl.withNode]
      · intro b hb
        simp [LineCtl.withNode, look_put, hb.symm]
    · next old hold =>
      have replaced : LinesKept v (setLine s n.line
          { ((lineOf s n.line).withNode n.addr
              { nodeOf s n with command := some c, attempts := 0, duty := dutyAfter old c (nodeOf s n).duty }) with
            exchange := (lineOf s n.line).exchange.map (markFlight n.addr .replaced) }).lines :=
        setLine_keepsLines _ h
          ((withNode_kept _ _ (by simpa [nodeOf] using hold.symm ▸ by simp)).step (mapExchange_kept _ _))
      repeat' split
      · exact h
      · exact issueDrop_keepsLines _ _ replaced
      · exact replaced
  · exact h

end

/-! ### Each operation that reaches a line -/

section
variable {v : Vector LineCtl 4} {s : State}

/-! Line modes, levels and the sweep (R34, R49, R50, R100) -/

@[simp] theorem entryEffect_keepsLines (n : Node) (h : LinesKept v s.lines) :
    LinesKept v (entryEffect s n).lines := by
  have hs : LinesKept v (if (nodeOf (unqueue s n) n).command = some .holdOpen then unqueue s n
      else setLine (unqueue s n) n.line (dropCommand (lineOf (unqueue s n) n.line) n.addr .dropped)).lines := by
    split <;> simp [h]
  unfold entryEffect
  dsimp only
  split <;> simp [hs]

@[simp] theorem entryEffects_keepsLines (l : LineNo) (h : LinesKept v s.lines) :
    LinesKept v (entryEffects s l).lines := foldl_keepsLines _ (fun _ b => entryEffect_keepsLines b) _ h

@[simp] theorem queueDoors_keepsLines (c : Command) (h : LinesKept v s.lines) :
    LinesKept v (queueDoors s c).lines :=
  foldl_keepsLines _ (fun _ i => queueCommand_keepsLines (nodeAt i) c) _ h

@[simp] theorem loadSweep_keepsLines (l : LineNo) (h : LinesKept v s.lines) : LinesKept v (loadSweep s l).lines :=
  setLine_keepsLines _ h (.of_fifo rfl rfl (fun _ h => h) rfl fun _ => by simp)

@[simp] theorem restartChoice_keepsLines (l : LineNo) (h : LinesKept v s.lines) :
    LinesKept v (restartChoice s l).lines :=
  setLine_keepsLines _ h (.of_fifo rfl rfl (fun _ h => h) rfl fun _ => Iff.rfl)

@[simp] theorem returnEffects_keepsLines (l : LineNo) (ft : Bool) (h : LinesKept v s.lines) :
    LinesKept v (returnEffects s l ft).lines := by
  have hs : LinesKept v (if ft then setLine s l (addrs.foldl dropPass (lineOf s l)) else s).lines := by
    split
    · exact setLine_keepsLines _ h (foldl_dropPass_kept _ _)
    · exact h
  unfold returnEffects
  simp [hs]

@[simp] theorem setStuck_keepsLines (l : LineNo) (b : Bool) (h : LinesKept v s.lines) :
    LinesKept v (setStuck s l b).lines :=
  setLine_keepsLines _ h (.of_fifo rfl rfl (fun _ h => h) rfl fun _ => Iff.rfl)

@[simp] theorem passDown_keepsLines (line addr : Byte) (chars : List Byte) (h : LinesKept v s.lines) :
    LinesKept v (passDown s line addr chars).lines := by
  unfold passDown
  repeat' split
  all_goals simp [h]

/-! Answers and ends of exchanges (R37 to R44) -/

@[simp] theorem endExchange_keepsLines (l : LineNo) (h : LinesKept v s.lines) :
    LinesKept v (endExchange s l).lines :=
  setLine_keepsLines _ h (.of_fifo rfl rfl (fun _ _ => rfl) rfl fun _ => Iff.rfl)

@[simp] theorem goodAnswer_keepsLines (n : Node) (h : LinesKept v s.lines) : LinesKept v (goodAnswer s n).lines := by
  have hn := setNode_keepsLines n (x := { nodeOf s n with missed := 0, silent := false }) h Iff.rfl
  unfold goodAnswer
  dsimp only
  split <;> simp [hn]

@[simp] theorem missIf_keepsLines (n : Node) (d : DoorEntry) (h : LinesKept v s.lines) :
    LinesKept v (missIf s n d).lines := by
  have hn := setNode_keepsLines n (x := { nodeOf s n with missed := raisedMissed (nodeOf s n).missed }) h Iff.rfl
  unfold missIf
  split
  · unfold missedAnswer
    dsimp only
    split
    · have hs := setNode_keepsLines n (x := { nodeOf (setNode s n
        { nodeOf s n with missed := raisedMissed (nodeOf s n).missed }) n with silent := true }) hn Iff.rfl
      simp [hs]
    · exact hn
  · exact h

@[simp] theorem handPresent_keepsLines (n : Node) (g : Grant) (c : Capture) (h : LinesKept v s.lines) :
    LinesKept v (handPresent s n g c).lines := by
  unfold handPresent handPresentation
  repeat' split
  all_goals simp [h]

@[simp] theorem writtenReport_keepsLines (n : Node) (h : LinesKept v s.lines) :
    LinesKept v (writtenReport s n).lines := by
  unfold writtenReport
  dsimp only
  repeat' split
  all_goals simp [h]

@[simp] theorem writeFailedReport_keepsLines (n : Node) (h : LinesKept v s.lines) :
    LinesKept v (writeFailedReport s n).lines := by
  unfold writeFailedReport
  repeat' split
  all_goals simp [h]

@[simp] theorem encoderStatus_keepsLines (n : Node) (b : Byte) (h : LinesKept v s.lines) :
    LinesKept v (encoderStatus s n b).lines := by
  have hn := setNode_keepsLines n (x := { nodeOf s n with faulty := some (decide (b ≠ 0)) }) h Iff.rfl
  unfold encoderStatus
  dsimp only
  split
  · exact endNodeSession_keepsLines _ _ hn
  · exact hn

@[simp] theorem handEvent_keepsLines (n : Node) (kind : NodeKind) (event : NodeEvent) (status : Byte)
    (c : Capture) (h : LinesKept v s.lines) : LinesKept v (handEvent s n kind event status c).lines := by
  cases event
  all_goals simp only [handEvent, handContact]
  all_goals try split
  all_goals simp [h]

@[simp] theorem handStatus_keepsLines (n : Node) (kind : NodeKind) (event : NodeEvent) (status : Byte)
    (h : LinesKept v s.lines) : LinesKept v (handStatus s n kind event status).lines := by
  cases kind <;> simp [handStatus, handContact, h]

@[simp] theorem takeAnswer_keepsLines (l : LineNo) (d : DoorEntry) (ans : NodeAnswer) (event : NodeEvent)
    (c : Capture) (h : LinesKept v s.lines) : LinesKept v (takeAnswer s l d ans event c).lines := by
  have good := goodAnswer_keepsLines { line := l, addr := ans.addr } h
  unfold takeAnswer handAnswer
  dsimp only
  split <;> simp [good]

@[simp] theorem answerEnd_keepsLines (l : LineNo) (e : Exchange) (chars : List Byte) (h : LinesKept v s.lines) :
    LinesKept v (answerEnd s l e chars).lines := by
  unfold answerEnd
  dsimp only
  repeat' split
  all_goals simp [h]

@[simp] theorem failedAttempt_keepsLines (n : Node) (c : Command) (duty : Bool) (fate : Fate)
    (h : LinesKept v s.lines) : LinesKept v (failedAttempt s n c duty fate).lines := by
  have tail := setLine_keepsLines n.line h (moveToTail_kept (lineOf s n.line) n.addr)
  have counted := setLine_keepsLines n.line h
    ((withNode_kept (lineOf s n.line) n.addr (x := { nodeOf s n with attempts := (nodeOf s n).attempts + 1 })
      Iff.rfl).step (moveToTail_kept _ n.addr))
  unfold failedAttempt
  dsimp only
  repeat' split
  all_goals simp [h, tail, counted]

@[simp] theorem commandFailed_keepsLines (l : LineNo) (e : Exchange) (b : Addr) (c : Command) (duty : Bool)
    (fate : Fate) (h : LinesKept v s.lines) : LinesKept v (commandFailed s l e b c duty fate).lines := by
  have ended := endExchange_keepsLines l h
  unfold commandFailed
  simp [ended]

@[simp] theorem commandAccepted_keepsLines (l : LineNo) (e : Exchange) (b : Addr) (c : Command) (duty : Bool)
    (fate : Fate) (h : LinesKept v s.lines) : LinesKept v (commandAccepted s l e b c duty fate).lines := by
  have ended := endExchange_keepsLines l h
  unfold commandAccepted handAcceptance
  dsimp only
  repeat' split
  all_goals simp [ended]

@[simp] theorem abandon_keepsLines (l : LineNo) (e : Exchange) (h : LinesKept v s.lines) :
    LinesKept v (abandon s l e).lines := by
  unfold abandon
  split <;> simp [h]

/-! Decisions and requests (R87, R106, R107, R117, R119) -/

@[simp] theorem completeDecision_keepsLines (p : Presentation) (h : LinesKept v s.lines) :
    LinesKept v (completeDecision s p).lines := by
  unfold completeDecision queueIfDecide
  dsimp only
  split <;> simp [h]

@[simp] theorem completeIssue_keepsLines (h : LinesKept v s.lines) : LinesKept v (completeIssue s).lines := by
  unfold completeIssue acceptIssue
  dsimp only
  repeat' split
  all_goals simp [h]

@[simp] theorem completeComposition_keepsLines (k : Fin 2) (h : LinesKept v s.lines) :
    LinesKept v (completeComposition s k).lines := by
  unfold completeComposition
  dsimp only
  repeat' split
  all_goals simp [h]

@[simp] theorem cancelIssue_keepsLines (b : Byte) (h : LinesKept v s.lines) :
    LinesKept v (cancelIssue s b).lines := by
  unfold cancelIssue
  repeat' split
  all_goals simp [h]

@[simp] theorem checkoutRoom_keepsLines (room : Half) (h : LinesKept v s.lines) :
    LinesKept v (checkoutRoom s room).lines := by
  have session : ∀ t : State, LinesKept v t.lines → LinesKept v (checkoutSession t room).lines := fun t ht => by
    unfold checkoutSession
    repeat' split
    all_goals simp [ht]
  unfold checkoutRoom
  dsimp only
  split <;> simp [h, session]

/-! Loads (R58, R65, R66, R203) -/

@[simp] theorem rewriteNode_keepsLines (n : Node) (old new : DoorEntry) (h : LinesKept v s.lines) :
    LinesKept v (rewriteNode s n old new).lines := by
  refine setLine_keepsLines _ h ((dropCommand_kept _ n.addr .rewritten).step ?_)
  refine .of_fifo rfl rfl (fun _ hn => by simp [hn]) rfl fun b => ?_
  simp only [LineCtl.withNode, look_put]
  split
  · next hb => rw [hb]
  · rfl

@[simp] theorem postDoor_keepsLines (i : Slot) (d : DoorEntry) (h : LinesKept v s.lines) :
    LinesKept v (postDoor s i d).lines := by
  unfold postDoor
  dsimp only
  repeat' split
  all_goals simp [h]

@[simp] theorem takeRoom_keepsLines (i : Slot) (st : RoomStatic) (restore : Option RestorePart)
    (h : LinesKept v s.lines) : LinesKept v (takeRoom s i st restore).lines := by
  unfold takeRoom keepRoom replaceRoom restoreKept
  dsimp only
  repeat' split
  all_goals simp [h]

@[simp] theorem clearStore_keepsLines (h : LinesKept v s.lines) : LinesKept v (clearStore s).lines := by
  have node : ∀ (t : State) (n : Node), LinesKept v t.lines → LinesKept v (clearNode t n).lines :=
    fun t n ht => by
      unfold clearNode
      split <;> simp [ht]
  have fold := foldl_keepsLines clearNode node (slots.map nodeAt) h
  unfold clearStore
  dsimp only
  split <;> simp [fold]

end
end Sys2Proof.Machine
end

section
/-!
Every step keeps the lines (03_door_lines.md, R42, R45, R47, R48, R51): the commands that leave every mode and the effective level
alone, then the changes of mode and of level, and the resets.
-/

namespace Sys2Proof.Machine

/-! ### The invariant, and what keeps it -/

/-- The lines invariant, line by line. -/
def linesSound (s : State) : Prop := releaseSound s ∧ ∀ l, LineOk (lineOf s l)

theorem linesSound_iff (s : State) : linesSound s ↔ releaseSound s ∧ heldSound s ∧ fifoSound s := by
  constructor
  · rintro ⟨hr, h⟩
    exact ⟨hr, fun l => ⟨(h l).held, (h l).waiting⟩, fun l => (h l).fifo⟩
  · rintro ⟨hr, hh, hf⟩
    exact ⟨hr, fun l => ⟨(hh l).1, (hh l).2, hf l⟩⟩

/-- The lines are kept, and the effective level stands. -/
structure Steady (s t : State) : Prop where
  lines : LinesKept s.lines t.lines
  effective : t.override.effective = s.override.effective

/-- From `s` to `t` the invariant is kept. -/
def KeepsLines (s t : State) : Prop := linesSound s → linesSound t

theorem Steady.same (s : State) : Steady s s := ⟨.same _, rfl⟩

theorem Steady.step {s t u : State} (h : Steady s t) (g : Steady t u) : Steady s u :=
  ⟨h.lines.step g.lines, g.effective.trans h.effective⟩

theorem Steady.keeps {s t : State} (h : Steady s t) : KeepsLines s t := fun ⟨hr, hl⟩ =>
  ⟨fun he l => (h.lines l).mode.trans (hr (h.effective ▸ he) l), fun l => (h.lines l).ok (hl l)⟩

theorem steady_iff (s t : State) :
    Steady s t ↔ LinesKept s.lines t.lines ∧ t.override.effective = s.override.effective :=
  ⟨fun h => ⟨h.lines, h.effective⟩, fun h => ⟨h.1, h.2⟩⟩

@[simp] theorem steady_idle (s : State) : Leads Steady s (idle s) := by
  rintro t ⟨⟩
  exact .same s

@[simp] theorem steady_settle (s t : State) : Steady s (settle t) ↔ Steady s t := by simp [steady_iff]

theorem KeepsLines.settled {s t : State} (h : KeepsLines s t) : KeepsLines s (settle t) := fun hs =>
  ((steady_settle t t).2 (.same t)).keeps (h hs)

/-! ### Table operations (R170) -/

theorem runForm_steady {form : OpForm} {grant complete : State → Option State}
    (hg : ∀ s t, grant s = some t → Steady s t) (hc : ∀ s t, complete s = some t → Steady s t) (s : State) :
    Leads Steady s (runForm form grant complete s) := by
  unfold runForm
  cases form
  · dsimp only
    split
    · next t h => simpa using hg s t h
    · simp
  · dsimp only
    split
    · next t h => simpa using hc s t h
    · simp
  · dsimp only
    split
    · next t h =>
      obtain ⟨g, h1, h2⟩ := Option.bind_eq_some_iff.1 h
      simpa using (hg s g h1).step (((steady_settle g g).2 (.same g)).step (hc _ t h2))
    · simp

theorem finishOp_steady {eff : PortOp → Option (State → State)}
    (he : ∀ op f, eff op = some f → ∀ s, Steady s (f s)) (s t : State) (h : finishOp eff s = some t) : Steady s t := by
  obtain ⟨-, op, f, -, hf, rfl⟩ := finishOp_some h
  have free : Steady s (setInHand s none) := by simp [steady_iff]
  exact free.step (he op f hf _)

theorem grantSimple_steady {r : Requester} {op : PortOp} {ready : State → Bool} (s t : State)
    (h : grantSimple r op ready s = some t) : Steady s t := by
  obtain ⟨-, -, rfl⟩ := grantSimple_some h
  simp [steady_iff]

theorem grantMinibar_steady {sel : MinibarWork → Option PortOp} (s t : State)
    (h : grantMinibar sel s = some t) : Steady s t := by
  unfold grantMinibar at h
  repeat' split at h
  · cases h
  · obtain ⟨op, -, rfl⟩ := Option.map_eq_some_iff.1 h
    simp [steady_iff]
  · cases h

theorem grantIssue_steady {sel : IssueWork → Option PortOp} (s t : State)
    (h : grantIssue sel s = some t) : Steady s t := by
  unfold grantIssue at h
  repeat' split at h
  · cases h
  · obtain ⟨op, -, rfl⟩ := Option.map_eq_some_iff.1 h
    simp [steady_iff]
  · cases h

theorem takeExpiry_steady {s t : State} {n : Node} {k : DeadlineKind} (h : takeExpiry s n k = some t) :
    Steady s t := by
  obtain ⟨-, -, rfl⟩ := takeExpiry_some h
  exact ⟨.same _, rfl⟩

section
variable (s : State)

theorem execDecision_steady (form : OpForm) : Leads Steady s (execDecision form s) := by
  refine runForm_steady (fun s t h => ?_) (fun s t h => ?_) s
  · unfold grantDecision at h
    repeat' split at h
    · cases h
    · obtain rfl := Option.some.inj h
      simp [steady_iff]
    · cases h
  · unfold finishDecision at h
    repeat' split at h
    · obtain rfl := Option.some.inj h
      simp [steady_iff]
    · cases h
    · cases h

theorem execPrivacyWrite_steady (form : OpForm) : Leads Steady s (execPrivacyWrite form s) := by
  refine runForm_steady (fun s t h => ?_) (fun s t h => ?_) s
  · unfold grantPrivacy at h
    repeat' split at h
    · cases h
    · obtain rfl := Option.some.inj h
      simp [steady_iff]
    · cases h
  · unfold finishPrivacy at h
    repeat' split at h
    · obtain rfl := Option.some.inj h
      simp [steady_iff]
    · cases h
    · cases h

/-- The operations granted to the Minibar Engine. -/
theorem minibarOperation_steady {form : OpForm} {sel : MinibarWork → Option PortOp} {eff : PortOp → Option (State → State)}
    (he : ∀ op f, eff op = some f → ∀ s, Steady s (f s)) :
    Leads Steady s (runForm form (grantMinibar sel) (finishOp eff) s) :=
  runForm_steady grantMinibar_steady (finishOp_steady he) s

/-- The operations granted to the Issue Unit. -/
theorem issueOperation_steady {form : OpForm} {sel : IssueWork → Option PortOp} {eff : PortOp → Option (State → State)}
    (he : ∀ op f, eff op = some f → ∀ s, Steady s (f s)) :
    Leads Steady s (runForm form (grantIssue sel) (finishOp eff) s) :=
  runForm_steady grantIssue_steady (finishOp_steady he) s

/-- The operations granted for a request, the loader and the pruner. -/
theorem simpleOperation_steady {form : OpForm} {r : Requester} {op : PortOp} {ready : State → Bool}
    {eff : PortOp → Option (State → State)} (he : ∀ op f, eff op = some f → ∀ s, Steady s (f s)) :
    Leads Steady s (runForm form (grantSimple r op ready) (finishOp eff) s) :=
  runForm_steady grantSimple_steady (finishOp_steady he) s

theorem execReadEntries_steady (form : OpForm) : Leads Steady s (execReadEntries form s) := by
  have whole : Leads Steady s
      (runForm form (grantSimple .requestUnit .readEntries (requestAsks .readEntries)) (finishOp effReadEntries) s) :=
    simpleOperation_steady s fun
      | .readEntries, _, rfl, _ => by dsimp only; split <;> simp [steady_iff]
  unfold execReadEntries
  repeat' split
  · exact whole
  all_goals simp [steady_iff]

/-- A delivered expiry. -/
theorem expiry_steady {n : Node} {k : DeadlineKind} {o : State → Outcome} (ho : ∀ t, Leads Steady t (o t)) :
    Leads Steady s (match takeExpiry s n k with | some t => o t | none => idle s) := by
  split
  · next t h => exact fun u hu => (takeExpiry_steady h).step (ho t u hu)
  · simp

/-! ### Loads (R173, R178) -/

theorem postParsed_steady {α : Type} {n i : Nat} {e : Option α} {place : Fin n → α → State} {s t : State}
    (hp : ∀ j x, Steady s (place j x)) (h : postParsed n i e place = .ok t) : Steady s t := by
  unfold postParsed at h
  repeat' split at h
  · cases h
  · cases h; exact hp _ _
  · cases h

theorem postRoom_steady {s t : State} {i : Slot} {bytes : List Byte} (h : postRoom s i bytes = .ok t) :
    Steady s t := by
  unfold postRoom at h
  repeat' split at h
  · cases h
  · cases h
  · cases h
    refine ⟨by simp, ?_⟩
    unfold takeRoom
    dsimp only
    split <;> simp

theorem postAt_steady {s t : State} {table : TableId} {i : Nat} {bytes : List Byte}
    (h : postAt s table i bytes = .ok t) : Steady s t := by
  unfold postAt at h
  cases table
  case room =>
    dsimp only at h
    split at h
    · exact postRoom_steady h
    · cases h
  all_goals exact postParsed_steady (fun j x => by simp [steady_iff]) h

theorem examine_steady {s t : State} {w : LoadWindow} {e : List Byte} (h : examine s w e = .ok t) :
    Steady s t := by
  unfold examine at h
  repeat' split at h
  · cases h; next hp => exact postAt_steady hp
  all_goals cases h

theorem execPost_steady : Leads Steady s (execPost s) := by
  have load : ∀ t w ld, Steady t (loadAfter t w ld) := fun t w ld => by simp [steady_iff]
  have post : ∀ w ld e es, Steady s (postNext s w ld e es) := fun w ld e es => by
    unfold postNext
    split
    · next h => exact (examine_steady h).step (load _ _ _)
    · exact load _ _ _
  unfold execPost
  repeat' split
  · simpa using post _ _ _ _
  all_goals simp

/-! ### Slots, answers and the stuck test -/

/-- A line that runs is neither HOLDING nor HELD: an exchange may begin on it (R32, R47, R48). -/
theorem holdBroken_of_lineRuns {l : LineNo} (h : lineRuns s l = true) : holdBroken (lineOf s l).mode = false := by
  unfold lineRuns at h
  cases hm : (lineOf s l).mode <;> simp [hm, holdBroken] at h ⊢

theorem beginning_steady {l : LineNo} {c : LineCtl} (hr : lineRuns s l = true) (hm : c.mode = (lineOf s l).mode)
    (ht : c.waitingTag = (lineOf s l).waitingTag) (hf : c.fifo = (lineOf s l).fifo)
    (hn : ∀ a, (look c.nodes a).command = none ↔ (look (lineOf s l).nodes a).command = none) :
    Steady s (setLine s l c) :=
  ⟨setLine_keepsLines _ (.same _) (.of_fifo hm ht (fun h => absurd h (by simp [holdBroken_of_lineRuns s hr])) hf hn), by simp⟩

theorem beginPoll_steady {l : LineNo} (a : Addr) (hr : lineRuns s l = true) : Steady s (beginPoll s l a) := by
  refine beginning_steady s hr rfl rfl rfl fun b => ?_
  simp only [LineCtl.withNode, look_put]
  split
  · next h => rw [h]
  · rfl

theorem execPollSlot_steady (l : LineNo) : Leads Steady s (execPollSlot l s) := by
  unfold execPollSlot
  split
  · next hr =>
    split
    · simpa using beginPoll_steady s _ hr
    · simp
    · simp
  · simp

theorem beginCall_steady {l : LineNo} (hr : lineRuns s l = true) : Steady s (beginCall s l) :=
  beginning_steady s hr rfl rfl rfl fun _ => Iff.rfl

theorem beginCommand_steady {l : LineNo} (a : Addr) (c : Command) (hr : lineRuns s l = true) :
    Steady s (beginCommand s l a c) := beginning_steady s hr rfl rfl rfl fun _ => Iff.rfl

theorem execCallSlot_steady (l : LineNo) : Leads Steady s (execCallSlot l s) := by
  unfold execCallSlot
  split
  · next hr =>
    split
    · simpa using beginCall_steady s hr
    · simp
    · simp
  · simp

theorem execCommandSlot_steady (l : LineNo) : Leads Steady s (execCommandSlot l s) := by
  unfold execCommandSlot
  split
  · next hr =>
    repeat' split
    · simpa using beginCommand_steady s _ _ hr
    all_goals simp
  · simp

theorem inFlight_exchange {s : State} {l : LineNo} {e : Exchange} (h : inFlight s l = some e) :
    (lineOf s l).exchange = some e := by
  unfold inFlight at h
  split at h
  · exact h
  · cases h

/-- The exchange in flight rewritten. -/
theorem setExchange_steady {l : LineNo} {e : Exchange} (f : Exchange) (h : inFlight s l = some e) :
    Steady s (setExchange s l f) :=
  ⟨setLine_keepsLines _ (.same _)
    (.of_fifo rfl rfl (fun _ hn => by rw [inFlight_exchange h] at hn; cases hn) rfl fun _ => Iff.rfl), by simp [setExchange]⟩

theorem execAnswerReceived_steady (l : LineNo) (part : AnswerPart) : Leads Steady s (execAnswerReceived l part s) := by
  unfold execAnswerReceived
  split
  · simp
  · next e he =>
    repeat' split
    · simpa using setExchange_steady s _ he
    · simp
    · simp [steady_iff]
    · simp

theorem execAnswerRestart_steady (l : LineNo) : Leads Steady s (execAnswerRestart l s) := by
  unfold execAnswerRestart
  split
  · simp
  · next e he =>
    repeat' split
    · simp [steady_iff]
    · simpa using setExchange_steady s _ he
    · simp

end

/-! ### Every command that changes no mode and no level -/

/-- A command that may change a line's mode or the effective level: the resets, the tick, which enters CHECKING, and those of
the Override Unit and of LINE_MODE. -/
def movesLines : Instr → Bool
  | .powerOnReset _ => true
  | .pinReset _ => true
  | .tickEvent _ _ => true
  | .firePinChange => true
  | .setOverride => true
  | .lineMode => true
  | .enterHeld _ => true
  | .restartBegin _ => true
  | _ => false

theorem stopEarly_steady {sel : IssueCtx → Bool} {r : FailReason} {s t : State} (h : stopEarly sel r s = some t) :
    Steady s t := by
  unfold stopEarly at h
  repeat' split at h
  all_goals cases h
  all_goals simp [steady_iff]

theorem failStep_steady {s t : State} (h : failStep s = some t) : Steady s t := by
  unfold failStep at h
  split at h
  · split at h
    · cases h; split <;> exact ⟨.same _, rfl⟩
    · split at h
      · cases h; exact ⟨.same _, rfl⟩
      · cases h
    · exact stopEarly_steady h
  · cases h; exact ⟨.same _, rfl⟩

theorem execSupplyFail_steady (s : State) : Leads Steady s (execSupplyFail s) := by
  unfold execSupplyFail
  split
  · split
    · next t ht => simpa using failStep_steady ht
    · simp
  · simp

/-- Those without a lemma of their own either change nothing or run one operation whose frame says so. -/
theorem exec_steady (c : Instr) (s : State) (hc : movesLines c = false) : Leads Steady s (exec c s) := by
  cases c
  case powerOnReset | pinReset | tickEvent | firePinChange | setOverride | lineMode | enterHeld | restartBegin => cases hc
  case relockExpiry n => exact expiry_steady s (o := fun t => done (relockExpired t n)) fun t => by simp [steady_iff]
  case heldExpiry n => exact expiry_steady s (o := fun t => done (heldExpired t n)) fun t => by simp [steady_iff]
  case relatchExpiry n =>
    exact expiry_steady s (o := fun t => done (addMinibarWork t (.relatch n))) fun t => by simp [steady_iff]
  case returnExpiry n =>
    exact expiry_steady s (o := fun t => done (addMinibarWork t (.ret n))) fun t => by simp [steady_iff]
  case issueTimeoutExpiry n =>
    exact expiry_steady s (o := fun t => done (endNodeSession t n .timeout)) fun t => by simp [steady_iff]
  case decision form => exact execDecision_steady s form
  case privacyWrite form => exact execPrivacyWrite_steady s form
  case relatchExpiryOperation form =>
    exact minibarOperation_steady s (eff := effRelatch) fun | .relatch _, _, rfl, _ => by simp [steady_iff]
  case returnExpiryOperation form =>
    exact minibarOperation_steady s (eff := effReturn) fun | .ret _, _, rfl, _ => by simp [steady_iff]
  case reportItemOperation form =>
    exact minibarOperation_steady s (eff := effItem) fun | .item _ _ _, _, rfl, _ => by simp [steady_iff]
  case forcedCommit form =>
    exact minibarOperation_steady s (eff := effForced) fun | .forced _, _, rfl, _ => by simp [steady_iff]
  case minibarBringIntoLine form =>
    exact minibarOperation_steady s (eff := effLineUp) fun | .lineUp _, _, rfl, _ => by simp [steady_iff]
  case issue form =>
    exact issueOperation_steady s (eff := effJudge) fun | .judge, _, rfl, _ => by simp [steady_iff]
  case composition form =>
    exact issueOperation_steady s (eff := effComposition) fun | .composition _, _, rfl, _ => by simp [steady_iff]
  case issueClosing form =>
    exact issueOperation_steady s (eff := effClosing) fun | .closing _, _, rfl, _ => by simp [steady_iff]
  case roomCheckout form =>
    exact simpleOperation_steady s (eff := effCheckout) fun
      | .checkout, _, rfl, _ => by dsimp only; split <;> simp [steady_iff]
  case roomBump form =>
    exact simpleOperation_steady s (eff := effBump) fun
      | .bump, _, rfl, _ => by dsimp only; split <;> simp [steady_iff]
  case minibarSettle form =>
    exact simpleOperation_steady s (eff := effSettle) fun
      | .settle, _, rfl, _ => by dsimp only; split <;> simp [steady_iff]
  case denyAdd form =>
    exact simpleOperation_steady s (eff := effDenyAdd) fun
      | .denyAdd, _, rfl, _ => by dsimp only; split <;> simp [steady_iff]
  case denyRemove form =>
    exact simpleOperation_steady s (eff := effDenyRemove) fun
      | .denyRemove, _, rfl, _ => by dsimp only; split <;> simp [steady_iff]
  case pruneStep form =>
    exact simpleOperation_steady s (eff := effPrune) fun | .prune, _, rfl, _ => by simp [steady_iff]
  case drain form =>
    exact simpleOperation_steady s (eff := effDrain) fun | .drain, _, rfl, _ => by simp [steady_iff]
  case status form =>
    exact simpleOperation_steady s (eff := effStatus) fun | .status, _, rfl, _ => by simp [steady_iff]
  case readEntries form => exact execReadEntries_steady s form
  case post => exact execPost_steady s
  case pollSlot l => exact execPollSlot_steady s l
  case callSlot l => exact execCallSlot_steady s l
  case commandSlot l => exact execCommandSlot_steady s l
  case answerReceived l part => exact execAnswerReceived_steady s l part
  case answerRestart l => exact execAnswerRestart_steady s l
  case supplyFail => exact execSupplyFail_steady s
  case answerWindowClose | stretchLimitExceeded | commandDelivered | commandNotDelivered | pollFrameNotDelivered |
    lineStuck | lineFree =>
    simp only [exec, execAnswerWindowClose, execStretchLimitExceeded, execCommandDelivered, execCommandNotDelivered,
      execPollFrameNotDelivered, execLineStuck, execLineFree]
    repeat' split
    all_goals simp [steady_iff]
  case nodePassDown | issueCancel | journalPush | loadWindow | load | restart | go | checkingEnd | setClock =>
    simp only [exec, execNodePassDown, execIssueCancel, execJournalPush, execLoadWindow, execLoad, execRestart, execGo,
      execCheckingEnd, endChecking, execSetClock]
    repeat' split
    all_goals simp [steady_iff]
  case minuteEvent | clockCountWithoutTick | vddFall | vbakOutOfRange =>
    simp only [exec, execMinuteEvent, execClockCountWithoutTick, execVddFall, execVbakOutOfRange]
    repeat' split
    all_goals simp [steady_iff]
  case upstreamFrameReceived | downstreamFrameReceived | frameEndedShort | requestTake | upstreamGrant |
    upstreamFrameFinished | relayDownSend | relayDownFinished | downstreamAbsent | downstreamPresent =>
    simp only [exec, execUpstreamFrameReceived, execDownstreamFrameReceived, execFrameEndedShort, execRequestTake,
      execUpstreamGrant, execUpstreamFrameFinished, execRelayDownSend, execRelayDownFinished, execDownstreamAbsent,
      execDownstreamPresent]
    repeat' split
    all_goals simp [steady_iff]


/-! ### Changes of mode (R45, R48) -/

section
variable {s : State} {l : LineNo}

/-- One line changed to a good one, the level not RELEASE. -/
theorem LineSet.sound {c : LineCtl} {t : State} (h : LineSet l c s t) (hs : linesSound s) (hc : LineOk c)
    (he : t.override.effective ≠ .release) : linesSound t := by
  refine ⟨fun hr => absurd hr he, fun m => ?_⟩
  by_cases hm : m = l
  · rw [hm, h.line]; exact hc
  · rw [h.others m hm]; exact hs.2 m

theorem waitingTag_none (h : linesSound s) (hm : isHolding (lineOf s l).mode = false) :
    (lineOf s l).waitingTag = none := by
  simpa [hm] using (h.2 l).waiting

/-- A change to a mode that no LINE_MODE waits in, where none waits. -/
theorem changeMode_sound {m : LineMode} {broken : Bool} (hs : linesSound s) (he : s.override.effective ≠ .release)
    (hheld : m = .held → (lineOf s l).exchange = none) (hw : (lineOf s l).waitingTag = none)
    (hm : isHolding m = false) : linesSound (changeMode s l m broken) := by
  refine ((LineSet.same l s).changeMode m broken).sound hs ⟨hheld, ?_, (hs.2 l).fifo⟩ (by simpa using he)
  simp [hw, hm]

theorem modeAtOnce_sound {m : LineMode} (hs : linesSound s) (he : s.override.effective ≠ .release)
    (hheld : m = .held → (lineOf s l).exchange = none) (hw : (lineOf s l).waitingTag = none)
    (hm : isHolding m = false) : linesSound (modeAtOnce s l m) := by
  have answered : Steady (changeMode s l m false) (modeAtOnce s l m) := by simp [modeAtOnce, steady_iff]
  exact answered.keeps (changeMode_sound hs he hheld hw hm)

/-- HELD entered from HOLDING, the exchange over: nothing waits any more. -/
theorem toHeld_sound (hs : linesSound s) (he : s.override.effective ≠ .release)
    (hm : isHolding (lineOf s l).mode = true) (hx : (lineOf s l).exchange = none) : linesSound (toHeld s l) := by
  have hsteady : Steady s (entryEffects s l) := by simp [steady_iff]
  have hset := ((LineSet.same l (entryEffects s l)).changeMode .held false).answerWaiting (.done [])
  have hbroken : holdBroken (lineOf s l).mode = true := by
    revert hm
    cases (lineOf s l).mode <;> simp [isHolding, holdBroken]
  have idle : (lineOf (entryEffects s l) l).exchange = none := (hsteady.lines l).held hbroken hx
  unfold toHeld
  refine hset.sound (hsteady.keeps hs) ⟨fun _ => ?_, ?_, ?_⟩ (by simpa using he)
  · simpa only using idle
  · simp [isHolding]
  · have hfifo := ((hsteady.keeps hs).2 l).fifo
    simpa only [fifoOk] using hfifo

theorem enterHolding_sound {ft : Bool} {tag : Byte} (hs : linesSound s) (he : s.override.effective ≠ .release) :
    linesSound (enterHolding s l ft tag) := by
  obtain ⟨u, hu⟩ : ∃ u, u = setLine (changeMode s l (.holding ft) false) l
      { lineOf (changeMode s l (.holding ft) false) l with waitingTag := some tag } := ⟨_, rfl⟩
  have hline := ((LineSet.same l s).changeMode (.holding ft) false).line
  have hset : LineSet l { lineOf s l with mode := .holding ft, waitingTag := some tag } s
      (u.withTrunk { u.trunk with inHand := none }) := by
    refine LineSet.of_lines (t := u) ?_ rfl
    rw [hu, hline]
    exact ((LineSet.same l s).changeMode (.holding ft) false).set _
  have hover : (u.withTrunk { u.trunk with inHand := none }).override = s.override := by simp [hu]
  have hsound : linesSound (u.withTrunk { u.trunk with inHand := none }) :=
    hset.sound hs ⟨nofun, rfl, (hs.2 l).fifo⟩ (by rwa [hover])
  unfold enterHolding
  dsimp only
  rw [← hu]
  split
  · next hx => exact toHeld_sound hsound (by rwa [hover]) (by rw [hset.line]; rfl) (by simpa using hx)
  · exact hsound

theorem takeMode_sound {m : RequestedMode} {tag : Byte} (hs : linesSound s) (he : s.override.effective ≠ .release) :
    linesSound (takeMode s l m tag) := by
  have answered : ∀ a, linesSound (answerRequest s a) := fun a => Steady.keeps (by simp [steady_iff]) hs
  have entered : linesSound (entryEffects s l) := Steady.keeps (by simp [steady_iff]) hs
  have returned : ∀ ft, linesSound (returnEffects s l ft) := fun ft => Steady.keeps (by simp [steady_iff]) hs
  have restarted : linesSound (restartChoice s l) := Steady.keeps (by simp [steady_iff]) hs
  have untagged : ∀ t, Steady s t → isHolding (lineOf s l).mode = false → (lineOf t l).waitingTag = none :=
    fun t ht hm => ((ht.lines l).tag).trans (waitingTag_none hs hm)
  unfold takeMode
  split
  · next hm =>
    cases m
    · exact answered _
    · exact modeAtOnce_sound entered (by simpa using he) nofun (untagged _ (by simp [steady_iff]) (by rw [hm]; rfl)) rfl
    · exact enterHolding_sound hs he
  · next hm =>
    cases m
    · exact modeAtOnce_sound (returned _) (by simpa using he) nofun
        (untagged _ (by simp [steady_iff]) (by rw [hm]; rfl)) rfl
    · exact answered _
    · exact enterHolding_sound hs he
  · exact answered _
  · next hm =>
    cases m
    · exact modeAtOnce_sound (returned _) (by simpa using he) nofun
        (untagged _ (by simp [steady_iff]) (by rw [hm]; rfl)) rfl
    · exact modeAtOnce_sound restarted (by simpa using he) nofun
        (untagged _ (by simp [steady_iff]) (by rw [hm]; rfl)) rfl
    · exact answered _

/-- Under RELEASE every line is in DECIDE, and only the request for DECIDE is taken (R45). -/
theorem lineMode_keeps (line mode tag : Byte) : KeepsLines s (lineMode s line mode tag) := by
  intro hs
  have answered : ∀ a, linesSound (answerRequest s a) := fun a => Steady.keeps (by simp [steady_iff]) hs
  unfold lineMode
  split
  · next l m _ _ =>
    by_cases he : s.override.effective = .release
    · split
      · exact answered _
      · next hn =>
        obtain rfl : m = .decide := by simpa [he] using hn
        rw [takeMode, hs.1 he l]
        exact answered _
    · simp only [he, false_and, if_false]
      exact takeMode_sound hs he
  · exact answered _

end

/-! ### Changes of level (R51, R100, R101) -/

theorem lineQueued_kept (c : LineCtl) (a : Addr) (x : Command) : LineKept c (lineQueued c a x) := by
  unfold lineQueued
  dsimp only
  split
  · refine ⟨rfl, rfl, fun _ h => h, fun hc => fifoOk_tail (a := a) hc (by simp [bne, BEq.beq]) (by simp) fun b hb => ?_⟩
    simp [look_put, hb.symm]
  · next old hold =>
    split
    · exact .same c
    · exact (withNode_kept c a (by simp [hold])).step (mapExchange_kept (c.withNode a _) _)

theorem doorsQueued_kept (s : State) (l : LineNo) (x : Command) (c : LineCtl) : LineKept c (doorsQueued s l x c) := by
  unfold doorsQueued
  generalize List.finRange 32 = as
  induction as generalizing c with
  | nil => exact .same c
  | cons a as ih =>
    rw [List.foldl_cons]
    refine LineKept.step ?_ (ih _)
    split
    · exact lineQueued_kept _ _ _
    · exact .same c

theorem sweepFilled_fifo (s : State) (l : LineNo) (c : LineCtl) : fifoOk (sweepFilled s l c) ↔ fifoOk c := by
  refine fifoOk_congr ?_ fun _ => ?_
  · simp only [sweepFilled]
  · simp [sweepFilled]

theorem passesDropped_fifo {c : LineCtl} (h : fifoOk c) : fifoOk (passesDropped c) := by
  have kept : LineKept c (passesDropped c) := foldl_dropPass_addrs c ▸ foldl_dropPass_kept addrs c
  exact kept.fifo h

/-- A line taken back is in DECIDE, and nothing waits for it to be HELD (R50, R51). -/
theorem lineTakenBack_ok {s : State} {l : LineNo} (h : LineOk (lineOf s l)) : LineOk (lineTakenBack s l) := by
  have hmode := lineTakenBack_mode s l
  have hw := h.waiting
  have filled : ∀ c, fifoOk { sweepFilled s l c with mode := .decide, prevSlot := none } ↔ fifoOk c :=
    fun c => by rw [← sweepFilled_fifo s l c]; simp only [fifoOk]
  have untagged : ∀ c, fifoOk { sweepFilled s l c with mode := .decide, prevSlot := none, waitingTag := none } ↔ fifoOk c :=
    fun c => by rw [← sweepFilled_fifo s l c]; simp only [fifoOk]
  refine ⟨fun hm => absurd (hmode.symm.trans hm) nofun, ?_, ?_⟩
  · rw [hmode]
    unfold lineTakenBack
    dsimp only
    split
    all_goals next hm => simp_all [isHolding, sweepFilled, passesDropped]
  · unfold lineTakenBack
    dsimp only
    split
    · exact h.fifo
    · exact (filled _).2 (passesDropped_fifo h.fifo)
    · exact (untagged _).2 (passesDropped_fifo h.fifo)
    · simpa only [fifoOk] using h.fifo
    · exact (filled _).2 h.fifo

theorem lineLevelled_ok {s : State} {now : Level} {l : LineNo} (h : LineOk (lineOf s l)) :
    LineOk (lineLevelled s now l) := by
  unfold lineLevelled
  repeat' split
  · exact (doorsQueued_kept _ _ _ _).ok (lineTakenBack_ok h)
  · exact (doorsQueued_kept _ _ _ _).ok h
  · exact h

theorem recomputeLevel_keeps (s : State) : KeepsLines s (recomputeLevel s) := by
  intro hs
  by_cases h : levelNow s.override = s.override.effective
  · rwa [recomputeLevel_same s h]
  · obtain ⟨heff, -, -, -, hlines, hrelease, -⟩ := recomputeLevel_levelChanged s h
    refine ⟨fun he => (hrelease (heff ▸ he)).1, fun l => ?_⟩
    rw [hlines]
    exact lineLevelled_ok (hs.2 l)

theorem setOverride_keeps (s : State) (b : Byte) : KeepsLines s (setOverride s b) := by
  have answered : ∀ t, KeepsLines t (answerLevels t) := fun t => Steady.keeps (by simp [answerLevels, steady_iff])
  have requested : ∀ r, KeepsLines s (s.withOverride { s.override with requested := r }) := fun r =>
    Steady.keeps (by simp [steady_iff])
  have recorded : ∀ t k d, KeepsLines t (appendPlain t k d) := fun t k d => Steady.keeps (by simp [steady_iff])
  intro hs
  unfold setOverride
  split
  · exact Steady.keeps (by simp [steady_iff]) hs
  · dsimp only
    split
    · exact answered _ hs
    · split
      · exact answered _ (recorded _ _ _ (requested _ hs))
      · exact answered _ (recomputeLevel_keeps _ (requested _ hs))

/-! ### The tick and the resets (R200, R202, R208) -/

theorem enterChecking_keeps (s : State) : KeepsLines s (enterChecking s) := by
  have phase : Steady s (setPhase s .checking) := ⟨.same _, rfl⟩
  have swept : Steady (setPhase s .checking) (lineNos.foldl loadSweep (setPhase s .checking)) :=
    ⟨foldl_keepsLines _ (fun _ l => loadSweep_keepsLines l) _ (.same _), by simp⟩
  have kept : ∀ t, Steady t (keepWork (rebuildDeny (recordRestart t))) := fun t => by simp [steady_iff]
  intro hs
  unfold enterChecking
  dsimp only
  split
  · exact phase.keeps hs
  · exact recomputeLevel_keeps _ (((phase.step swept).step (kept _)).keeps hs)

theorem tickStep_keeps (fire supplyFail : Bool) (s : State) : KeepsLines s (tickStep fire supplyFail s) := by
  have sampled : Steady s (sampleFire fire (expireDue (sampleSupply supplyFail (countTick s)))) := by
    refine (steady_iff _ _).2 ⟨by simp, ?_⟩
    unfold sampleFire
    split <;> simp
  intro hs
  unfold tickStep leaveResetting
  split
  · exact enterChecking_keeps _ (sampled.keeps hs)
  · exact sampled.keeps hs

/-- After a reset every line is in DECIDE and idle, with nothing pending (R54). -/
theorem resetPart_linesSound (u : State) (cause : StartCause) (straps : BitVec 5) (l : Level) :
    linesSound (resetPart u cause straps l) := by
  have hline : ∀ m, lineOf (resetPart u cause straps l) m = .initial := fun m => by simp [lineOf, resetPart]
  refine ⟨nofun, fun m => ?_⟩
  rw [hline]
  exact ⟨fun _ => rfl, rfl, List.nodup_nil, fun a => by simp [LineCtl.initial, NodeCtl.initial]⟩

theorem warmStep_keeps {s t : State} {straps : BitVec 5} (h : warmStep s straps = some t) : KeepsLines s t := by
  unfold warmStep at h
  split at h
  · cases h
    exact Steady.keeps ⟨.same _, rfl⟩
  · split at h
    · cases h; exact fun _ => resetPart_linesSound _ _ _ _
    · cases h; exact fun _ => resetPart_linesSound _ _ _ _
    · exact (stopEarly_steady h).keeps

theorem execRestartBegin_keeps (straps : BitVec 5) (s : State) : Leads KeepsLines s (execRestartBegin straps s) := by
  have stands : Leads KeepsLines s (idle s) := fun t h => (steady_idle s t h).keeps
  unfold execRestartBegin
  split
  · split
    · exact stands
    · exact (leads_done _ _ _).2 (KeepsLines.settled fun _ => resetPart_linesSound _ _ _ _)
    · split
      · next t ht => exact (leads_done _ _ _).2 (warmStep_keeps ht).settled
      · exact stands
  · exact stands

/-! ### Every step -/

theorem exec_keepsLines (c : Instr) (s : State) : Leads KeepsLines s (exec c s) := by
  rcases hc : movesLines c with _ | _
  · exact fun t h => (exec_steady c s hc t h).keeps
  have stands : Leads KeepsLines s (idle s) := fun t h => (steady_idle s t h).keeps
  have next : ∀ t, KeepsLines s t → Leads KeepsLines s (done t) := fun t h => (leads_done _ _ _).2 h.settled
  cases c
  case powerOnReset => exact next _ fun _ => resetPart_linesSound _ _ _ _
  case pinReset straps =>
    simp only [exec, execPinReset]
    split
    · exact next _ fun _ => resetPart_linesSound _ _ _ _
    · exact stands
  case tickEvent fire fail =>
    simp only [exec, execTickEvent]
    split
    · exact next _ (tickStep_keeps fire fail s)
    · exact stands
  case firePinChange =>
    simp only [exec, execFirePinChange]
    split
    · exact stands
    · split
      · exact next _ fun hs => recomputeLevel_keeps _ (Steady.keeps ⟨.same _, rfl⟩ hs)
      · exact stands
  case setOverride =>
    simp only [exec, execSetOverride]
    repeat' split
    · exact next _ (setOverride_keeps s _)
    · exact stands
    · exact stands
  case lineMode =>
    simp only [exec, execLineMode]
    repeat' split
    · exact next _ (lineMode_keeps _ _ _)
    · exact stands
    · exact stands
  case enterHeld l =>
    simp only [exec, execEnterHeld]
    split
    · next h =>
      simp only [Bool.and_eq_true, Option.isNone_iff_eq_none] at h
      obtain ⟨⟨⟨-, hm⟩, hx⟩, -⟩ := h
      refine next _ fun hs => toHeld_sound hs (fun he => ?_) hm hx
      rw [hs.1 he l] at hm
      cases hm
    · exact stands
  case restartBegin straps => exact execRestartBegin_keeps straps s
  all_goals cases hc

/-- Settles O59: a command that changes a mode or the level leaves the modes in step with the level, the exchange and the LINE_MODE
that waits; every other one keeps each line. -/
theorem stepsKeepLines : Obligations.StepsKeepLines := by
  intro s t hr hh hf h
  have hs : linesSound s := (linesSound_iff s).2 ⟨hr, hh, hf⟩
  refine (linesSound_iff t).1 ?_
  rcases hp : s.pending with _ | ⟨c, rest⟩
  · rw [step_nil hp] at h
    cases h; exact hs
  · rw [step_cons hp] at h
    exact exec_keepsLines c _ t h hs

end Sys2Proof.Machine
end

section
/-!
The pin state and SET_OVERRIDE (05_admission.md, R97 to R99): both recompute the effective level, whose change `levelChanged`
describes.
-/

namespace Sys2Proof.Machine

theorem levelNow_eq (o : OverrideUnit) : levelNow o = if o.pinAsserted = true then .release else o.requested := rfl

/-- The request in hand answered, after whatever else the trunk has taken. -/
theorem trunkIs.thenAnswered {t : State} {x : Trunk} {r : RequestInHand} (h : trunkIs t x)
    (hr : t.trunk.inHand = some r) (a : Answer) : trunkIs (answerRequest t a) (answeredTrunk x r a) := by
  unfold trunkIs at h ⊢
  rw [answerRequest_some t r a hr, State.withTrunk_trunk, h]
  rfl

/-- The answer that follows a change of level stands last among its replies. -/
theorem levelChanged.answered {s t : State} {now : Level} {before : List Record} {r : RequestInHand}
    (h : levelChanged s t now before []) (hr : t.trunk.inHand = some r) (a : Answer) :
    levelChanged s (answerRequest t a) now before (replyTo r a) := by
  unfold levelChanged at h ⊢
  obtain ⟨heff, ⟨rs, hrs, hplain⟩, hnotices, htrunk, hrest⟩ := h
  have hans := htrunk.thenAnswered hr a
  refine ⟨by simpa using heff, ⟨rs, hrs.of_journal (by simp), hplain⟩, by simpa using hnotices, ?_, ?_⟩
  · rw [answerRequest_some t r a hr] at hans ⊢
    simpa [answeredTrunk, Nat.sub_sub] using hans
  · simpa [lineOf, nodeOf] using hrest

/-- The level recomputed after a change of the Override Unit that leaves the effective level. -/
theorem recomputeLevel_over {s : State} {o : OverrideUnit} (ho : o.effective = s.override.effective) :
    (levelNow o = s.override.effective → recomputeLevel (s.withOverride o) = s.withOverride o) ∧
      (levelNow o ≠ s.override.effective → levelChanged s (recomputeLevel (s.withOverride o)) (levelNow o) [] []) := by
  refine ⟨fun h => recomputeLevel_same _ (by simpa [ho] using h), fun h => ?_⟩
  have hc := recomputeLevel_levelChanged (s.withOverride o) (by simpa [ho] using h)
  exact hc.rebase (b := s) ⟨rfl, rfl, rfl, rfl, ho, fun _ => rfl⟩ (appendsAll_nil rfl)

theorem recomputeLevel_over_unchanged (s : State) (o : OverrideUnit) :
    unchangedBut [.time, .lines, .override, .issue, .journal, .trunk] s (recomputeLevel (s.withOverride o)) := by
  rw [unchangedBut_iff]
  simp

/-- Settles O8: the pin state changed, the level is recomputed over it. -/
theorem firePinSetsLevel : Obligations.FirePinSetsLevel := by
  intro s p ps hw hp
  obtain ⟨o, ho⟩ : ∃ o, o = { s.override with pinAsserted := p, pinChanges := ps } := ⟨_, rfl⟩
  have he : exec .firePinChange s = .next (settle (recomputeLevel (s.withOverride o))) := by
    simp [exec, execFirePinChange, hp, hw, done, ho]
  have hlevel : levelNow o = if p = true then .release else s.override.requested := by rw [levelNow_eq, ho]
  obtain ⟨hsame, hchanged⟩ := recomputeLevel_over (s := s) (o := o) (by rw [ho])
  rw [← hlevel]
  refine ⟨_, he, (recomputeLevel_over_unchanged s o).settled, ?_, fun h => ?_, fun h => ⟨(hchanged h).settled, ?_⟩⟩
  · simp only [settle_frame, recomputeLevel_override, State.withOverride_override, ho]
  · rw [hsame h]
    refine unchangedBut.settled ?_
    rw [unchangedBut_iff]
    simp
  · simp

/-- SET_OVERRIDE as the level it names and the level it changes give it. -/
theorem exec_setOverride {s : State} {b tag : Byte} {uni : Bool}
    (h : asked s { request := .setOverride b, tag := tag, unicast := uni }) :
    exec .setOverride s = .next (settle (setOverride s b)) := by
  simp [exec, execSetOverride, h.1, h.2, done]

/-- Settles O9: the code, the level requested already, and the level in force decide in turn. -/
theorem setOverrideRequestsLevel : Obligations.SetOverrideRequestsLevel := by
  rintro s ⟨req, tag, uni⟩ b hasked rfl
  have hr := hasked.2
  have answered : ∀ (t : State) (a : Answer), trunkIs t s.trunk → answers s (settle (answerRequest t a)) _ a :=
    fun t a ht => trunkIs.settled (ht.answered hr a)
  refine ⟨_, exec_setOverride hasked, unchangedBut.settled ?_, fun hn => ?_, fun l hl => ⟨fun hs => ?_, fun hs => ?_⟩⟩
  · rw [unchangedBut_iff]
    simp
  · simp only [setOverride, hn]
    exact ⟨unchangedBut.settled (by simp [unchangedBut_iff]), answered _ _ (trunkIs_refl s)⟩
  · simp only [setOverride, hl, hs, if_true, answerLevels]
    exact ⟨unchangedBut.settled (by simp [unchangedBut_iff]), answered _ _ (trunkIs_refl s)⟩
  obtain ⟨o, ho⟩ : ∃ o, o = { s.override with requested := l } := ⟨_, rfl⟩
  have hlevel : levelNow o = if s.override.pinAsserted = true then .release else l := by rw [levelNow_eq, ho]
  obtain ⟨hsame, hchanged⟩ := recomputeLevel_over (s := s) (o := o) (by rw [ho])
  have heff : o.effective = s.override.effective := by rw [ho]
  have hover : (recomputeLevel (s.withOverride o)).override =
      { s.override with requested := l, effective := levelNow o } := by
    rw [recomputeLevel_override, State.withOverride_override, ho]
  have hset : setOverride s b =
      if levelNow o = s.override.effective then answerLevels (appendPlain (s.withOverride o) .override (.requested l))
      else answerLevels (recomputeLevel (s.withOverride o)) := by
    simp only [setOverride, hl, hs, if_false, ← ho, State.withOverride_override, heff]
  rw [← hlevel]
  refine ⟨?_, fun h => ?_, fun h => ⟨?_, ?_⟩⟩
  · simp only [settle_frame]
    rw [hset]
    split
    · next h =>
      rw [h]
      simp [answerLevels, ho]
    · simp [answerLevels, hover]
  · rw [hset, if_pos h]
    refine ⟨unchangedBut.settled ?_, ?_, ?_⟩
    · rw [unchangedBut_iff]
      simp [answerLevels]
    · have hrec : appendsAll s (appendPlain (s.withOverride o) .override (.requested l)) _ :=
        appendsAll.record (appendsAll_nil rfl) rfl _
      exact (hrec.of_journal (by simp [answerLevels])).settled
    · have hans := answered (appendPlain (s.withOverride o) .override (.requested l))
        (.done [levelCode l, levelCode s.override.effective]) (by simp [trunkIs])
      simpa [answerLevels, ho] using hans
  · rw [hset, if_neg h, answerLevels]
    have hc := ((hchanged h).answered (by simpa using hr)
      (.done [levelCode l, levelCode (levelNow o)])).settled
    simpa [hover] using hc
  · rw [hset, if_neg h, answerLevels, settle_trunk, answerRequest_some _ _ _ (by simpa using hr)]
    rfl

/-! ### LINE_STUCK and LINE_FREE (R52) -/

/-- A record about a line, appended at the time of `s`. -/
theorem appendsAll.line {s t : State} {rs : List Record} (h : appendsAll s t rs) (hc : t.trunk.chain = s.trunk.chain)
    (hclock : t.time.clock = s.time.clock) (k : RecordKind) (l : LineNo) (d : Detail) :
    appendsAll s (appendLine t k l d) (rs ++ [{ stampedRecord s k with node := some (.line l), detail := d }]) := by
  have := h.record hc { stampedRecord s k with node := some (.line l), detail := d }
  unfold appendLine
  rw [stampedRecord_congr hclock]
  exact this

/-- Settles O23. -/
theorem stuckLineIsReported : Obligations.StuckLineIsReported := by
  intro s l w hw hm hx
  have hset : ∀ b, LineSet l { lineOf s l with stuck := b } s (setStuck s l b) := fun b => (LineSet.same l s).set _
  have htests : testsWires s l = true := by simp [testsWires, hw, hm, hx]
  refine ⟨fun hs => ?_, fun hs => ?_⟩
  · have hline := (hset true).of_lines
      (u := settle (pushNotice (appendLine (setStuck s l true) .lineStuck l (.wire w)) (.lineStuck l w))) (by simp [setStuck])
    refine ⟨_, by simp [exec, execLineStuck, htests, hs, done], unchangedBut.settled ?_, hline.others, hline.line, ?_, ?_⟩
    · rw [unchangedBut_iff]
      simp [setStuck]
    · have hrec := appendsAll.line (t := setStuck s l true) (appendsAll_nil rfl) rfl rfl .lineStuck l (.wire w)
      exact (hrec.of_journal (by simp)).settled
    · refine trunkIs.settled ?_
      simp [pushNotice_eq, trunkIs, noticesAfter, noticesWith, setStuck]
  · have hline := (hset false).of_lines (u := settle (appendLine (setStuck s l false) .lineFree l .absent)) (by simp [setStuck])
    refine ⟨_, by simp [exec, execLineFree, htests, hs, done], unchangedBut.settled ?_, hline.others, hline.line, ?_⟩
    · rw [unchangedBut_iff]
      simp [setStuck]
    · exact (appendsAll.line (t := setStuck s l false) (appendsAll_nil rfl) rfl rfl .lineFree l .absent).settled

end Sys2Proof.Machine
end

section
/-!
Slot choice (03_door_lines.md, R33 to R35): the rotation's order, the frames, and the slots as the order gives them.
-/

namespace Sys2Proof.Machine

/-! ### The rotation's order (R34) -/

/-- The addresses in the order of the rotation after a poll position. -/
def rotation : Option Addr → List Addr
  | none => addrs
  | some q => addrs.filter (fun b => q < b) ++ addrs.filter fun b => b ≤ q

/-- How far an address lies ahead of a poll position. -/
def turn : Option Addr → Addr → Nat
  | none, a => a.val
  | some q, a => (a.val + 31 - q.val) % 32

theorem nextAddr_eq (pos : Option Addr) (p : Addr → Bool) : nextAddr pos p = (rotation pos).find? p := by
  cases pos <;> rfl

theorem firstAfter_iff (pos : Option Addr) (p : Addr → Prop) (a : Addr) :
    firstAfter pos p a ↔ p a ∧ ∀ b, p b → turn pos a ≤ turn pos b := by
  cases pos <;> rfl

theorem mem_rotation (pos : Option Addr) (a : Addr) : a ∈ rotation pos := by
  cases pos with
  | none => simp [rotation, addrs]
  | some q => simpa [rotation, addrs] using lt_or_ge q a

theorem addrs_sorted : addrs.Pairwise (· < ·) := List.pairwise_lt_finRange 32

theorem rotation_sorted (pos : Option Addr) : (rotation pos).Pairwise fun a b => turn pos a < turn pos b := by
  cases pos with
  | none => exact addrs_sorted.imp fun h => h
  | some q =>
    have ordered : ∀ {a b : Addr}, a < b → (q < a ∨ b ≤ q) → turn (some q) a < turn (some q) b := fun {a b} hab hq => by
      have hab : a.val < b.val := hab
      have hq : q.val < a.val ∨ b.val ≤ q.val := hq
      simp only [turn]
      omega
    refine List.pairwise_append.2 ⟨?_, ?_, fun a ha b hb => ?_⟩
    · refine (addrs_sorted.filter _).imp_of_mem fun {a b} ha _ hab => ordered hab (.inl ?_)
      simpa using (List.mem_filter.1 ha).2
    · refine (addrs_sorted.filter _).imp_of_mem fun {a b} _ hb hab => ordered hab (.inr ?_)
      simpa using (List.mem_filter.1 hb).2
    · have hqa : q.val < a.val := by simpa using (List.mem_filter.1 ha).2
      have hbq : b.val ≤ q.val := by simpa using (List.mem_filter.1 hb).2
      simp only [turn]
      omega

theorem turn_inj {pos : Option Addr} {a b : Addr} (h : turn pos a = turn pos b) : a = b := by
  refine Fin.ext ?_
  cases pos <;> simp only [turn] at h <;> omega

/-- The address that slot choice finds is the first after the poll position. -/
theorem nextAddr_of_firstAfter {pos : Option Addr} {p : Addr → Bool} {a : Addr}
    (h : firstAfter pos (fun b => p b = true) a) : nextAddr pos p = some a := by
  obtain ⟨ha, hfirst⟩ := (firstAfter_iff _ _ _).1 h
  rcases hb : nextAddr pos p with _ | b
  · rw [nextAddr_none.1 hb a] at ha
    cases ha
  · rw [nextAddr_eq, List.find?_eq_some_iff_append] at hb
    obtain ⟨hpb, before, after, hsplit, hbefore⟩ := hb
    have hmem : a ∈ before ++ b :: after := hsplit ▸ mem_rotation pos a
    have hsorted := hsplit ▸ rotation_sorted pos
    have hle : turn pos b ≤ turn pos a := by
      rcases List.mem_append.1 hmem with h | h
      · simpa [ha] using hbefore a h
      · rcases List.mem_cons.1 h with rfl | h
        · exact Nat.le_refl _
        · exact Nat.le_of_lt (List.rel_of_pairwise_cons (List.pairwise_append.1 hsorted).2.1 h)
    rw [turn_inj (Nat.le_antisymm hle (hfirst b hpb))]

/-! ### The frames (R28, R210) -/

theorem pollFrame_eq (a : Addr) : pollFrame a = [BitVec.ofNat 8 (32 + a.val), BitVec.ofNat 8 (223 - a.val)] := by
  revert a
  decide

theorem callFrame_eq : callFrame = [64, 191] := by decide

/-- A frame's check character makes its characters sum to 255 modulo 256. -/
theorem withLineCheck_sum (chars : List Byte) :
    ∃ check : Byte, withLineCheck chars = chars ++ [check] ∧ byteSum (chars ++ [check]) % 256 = 255 := by
  refine ⟨_, rfl, ?_⟩
  simp only [byteSum, byteOf, List.map_append, List.sum_append, List.map_cons, List.map_nil, List.sum_cons, List.sum_nil,
    BitVec.toNat_ofNat]
  omega

/-- The characters of a COMMAND before its check. -/
def commandChars (a : Addr) : Command → List Byte
  | .grant time => [BitVec.ofNat 8 (96 + a.val), 1, time]
  | .refuse why => [BitVec.ofNat 8 (96 + a.val), 2, reasonCode why]
  | .defer => [BitVec.ofNat 8 (96 + a.val), 3]
  | .busy => [BitVec.ofNat 8 (96 + a.val), 4]
  | .holdOpen => [BitVec.ofNat 8 (96 + a.val), 5]
  | .releaseEnd => [BitVec.ofNat 8 (96 + a.val), 6]
  | .prepare => [BitVec.ofNat 8 (96 + a.val), 7]
  | .write g => [BitVec.ofNat 8 (96 + a.val), 8] ++ grantBytes g
  | .pass cs => cs

theorem commandFrame_eq (a : Addr) (c : Command) : commandFrame a c = withLineCheck (commandChars a c) := by
  cases c <;> rfl

/-! ### Slot choice (R33) -/

section
variable {s : State} {l : LineNo}

theorem lineRuns_of_slotFree (h : slotFree s l) : lineRuns s l = true := by
  obtain ⟨hw, hm, hs, hx⟩ := h
  simpa [lineRuns, hw, hs, hx] using hm

theorem nextSweep_none (h : ∀ a, ¬ (look (lineOf s l).nodes a).inSweep = true) : nextSweep (lineOf s l) = none :=
  nextAddr_none.2 fun a => by simpa using h a

theorem nextSweep_some (h : ∃ a, (look (lineOf s l).nodes a).inSweep = true) : ∃ a, nextSweep (lineOf s l) = some a := by
  rcases hn : nextSweep (lineOf s l) with _ | a
  · obtain ⟨a, ha⟩ := h
    rw [nextAddr_none.1 hn a] at ha
    cases ha
  · exact ⟨a, rfl⟩

theorem nextRotation_none (h : ∀ a, ¬ configured (doorOf s { line := l, addr := a }) = true) : nextRotation s l = none :=
  nextAddr_none.2 fun a => by simpa using h a

theorem nextRotation_some (h : ∃ a, configured (doorOf s { line := l, addr := a }) = true) :
    ∃ a, nextRotation s l = some a := by
  rcases hn : nextRotation s l with _ | a
  · obtain ⟨a, ha⟩ := h
    rw [nextAddr_none.1 hn a] at ha
    cases ha
  · exact ⟨a, rfl⟩

theorem chooseSlot_uncalled (h : ¬ (lineOf s l).prevSlot = some .call) : chooseSlot s l = .call := by
  simp [chooseSlot, h]

theorem chooseSlot_called (h : (lineOf s l).prevSlot = some .call) :
    chooseSlot s l =
      match nextSweep (lineOf s l), (lineOf s l).fifo, nextRotation s l with
      | some a, _, _ => .poll a
      | none, a :: _, _ => .command a
      | none, [], some a => .poll a
      | none, [], none => .call := by
  simp only [chooseSlot, h, ne_eq, not_true_eq_false, if_false]
  repeat' split
  all_goals simp_all

/-- A slot in its turn begins, the line alone changed. -/
theorem slotBegun {c : Instr} {d : LineCtl} (he : exec c s = done (setLine s l d)) :
    ∃ t, exec c s = .next t ∧ unchangedBut [.lines] s t ∧ linesBut l s t ∧ lineOf t l = d := by
  have hset := ((LineSet.same l s).set d).of_lines (u := settle (setLine s l d)) (by simp)
  refine ⟨_, he, unchangedBut.settled ?_, hset.others, hset.line⟩
  rw [unchangedBut_iff]
  simp

end

/-- Settles O17: each slot's command runs where slot choice gives that slot, and no other does. -/
theorem slotsFollowTheOrder : Obligations.SlotsFollowTheOrder := by
  intro s l hfree
  have hr := lineRuns_of_slotFree hfree
  have polled : ∀ a, chooseSlot s l = .poll a → exec (.pollSlot l) s = done (beginPoll s l a) := fun a ha => by
    simp [exec, execPollSlot, hr, ha]
  dsimp only
  refine ⟨fun h => ?_, fun hc h => ?_, fun a hc ha => ?_, fun h => ?_, fun a rest x hc hs hf hx => ?_, fun h => ?_,
    fun a hc hs hf ha => ?_⟩
  · have hchoice : chooseSlot s l = .call := by
      rcases h with h | ⟨hs, hf, hk⟩
      · exact chooseSlot_uncalled h
      · by_cases hc : (lineOf s l).prevSlot = some .call
        · rw [chooseSlot_called hc, nextSweep_none hs, hf, nextRotation_none hk]
        · exact chooseSlot_uncalled hc
    rw [← callFrame_eq]
    exact slotBegun (by simp only [exec, execCallSlot, hr, hchoice, if_true]; rfl)
  · have hchoice : chooseSlot s l ≠ .call := by
      rw [chooseSlot_called hc]
      repeat' split
      · simp
      · simp
      · simp
      · next hs hf hk =>
        rcases h with h | h | h
        · obtain ⟨a, ha⟩ := nextSweep_some h
          cases ha.symm.trans hs
        · exact absurd hf h
        · obtain ⟨a, ha⟩ := nextRotation_some h
          cases ha.symm.trans hk
    simp only [exec, execCallSlot, hr, if_true]
    split
    · next hcall => exact absurd hcall hchoice
    · rfl
    · rfl
  · have hchoice : chooseSlot s l = .poll a := by
      have hsweep : nextSweep (lineOf s l) = some a := nextAddr_of_firstAfter ha
      rw [chooseSlot_called hc, hsweep]
    rw [← pollFrame_eq]
    exact slotBegun (polled a hchoice)
  · have hchoice : ∀ a, chooseSlot s l ≠ .poll a := fun a => by
      rcases h with h | ⟨hs, h⟩
      · simp [chooseSlot_uncalled h]
      · by_cases hc : (lineOf s l).prevSlot = some .call
        · rw [chooseSlot_called hc, nextSweep_none hs]
          rcases hf : (lineOf s l).fifo with _ | ⟨b, bs⟩
          · have hk := h.resolve_left (by simp [hf])
            rw [nextRotation_none hk]
            simp
          · simp
        · simp [chooseSlot_uncalled hc]
    simp only [exec, execPollSlot, hr, if_true]
    split
    · next a hpoll => exact absurd hpoll (hchoice a)
    · rfl
    · rfl
  · have hchoice : chooseSlot s l = .command a := by
      rw [chooseSlot_called hc, nextSweep_none hs, hf]
    obtain ⟨check, hframe, hsum⟩ := withLineCheck_sum (commandChars a x)
    obtain ⟨t, he, hunchanged, hothers, hline⟩ := slotBegun (c := .commandSlot l) (s := s) (l := l)
      (d := { lineOf s l with
        prevSlot := some .command
        exchange := some (freshExchange s l (.command a x (look (lineOf s l).nodes a).duty .live)
          (commandChars a x ++ [check])) }) (by
        simp only [exec, execCommandSlot, hr, hchoice, hx, if_true, ← hframe, ← commandFrame_eq]
        rfl)
    refine ⟨t, he, hunchanged, hothers, check, ?_, ?_⟩
    · cases x <;> exact hsum
    · cases x <;> exact hline
  · have hchoice : ∀ a, chooseSlot s l ≠ .command a := fun a => by
      by_cases hc : (lineOf s l).prevSlot = some .call
      · rcases h with h | h | h
        · exact absurd hc h
        · obtain ⟨b, hb⟩ := nextSweep_some h
          rw [chooseSlot_called hc, hb]
          simp
        · rw [chooseSlot_called hc, h]
          repeat' split
          all_goals simp_all
      · simp [chooseSlot_uncalled hc]
    simp only [exec, execCommandSlot, hr, if_true]
    split
    · next a hcommand => exact absurd hcommand (hchoice a)
    · rfl
    · rfl
  · have hchoice : chooseSlot s l = .poll a := by
      have hnext : nextRotation s l = some a := nextAddr_of_firstAfter ha
      rw [chooseSlot_called hc, nextSweep_none hs, hf, hnext]
    obtain ⟨t, he, hunchanged, hothers, hline⟩ := slotBegun (c := .pollSlot l) (polled a hchoice)
    refine ⟨t, he, hunchanged, hothers, ?_⟩
    rw [hline, ← pollFrame_eq]
    exact ⟨rfl, rfl, rfl⟩

end Sys2Proof.Machine
end

section
/-!
CHECKING_END, GO and RESTART (12_start_up_retention_and_supply_failure.md, R203, R204, R208), and what a rewrite of a DOOR entry
leaves of a node and its line (R34, R40, R53).
-/

namespace Sys2Proof.Machine

/-! ### A node's line under a rewrite of its DOOR entry (R34, R40, R53) -/

/-- A node under a rewrite: its command, its counts, its presence and its status gone, its sweep membership by the entries. -/
def rewrittenNode (old new : DoorEntry) (x : NodeCtl) : NodeCtl :=
  { silent := false, missed := 0, command := none, attempts := 0, duty := false, faulty := none,
    inSweep := sweepAfter old new x.inSweep }

/-- A line under a rewrite of the entry of its node `a`. -/
def rewrittenLine (a : Addr) (old new : DoorEntry) (c : LineCtl) : LineCtl :=
  { c with
    fifo := c.fifo.filter fun b => b != a
    nodes := put c.nodes a (rewrittenNode old new (look c.nodes a))
    exchange := c.exchange.map fun e => noteStale a old (flightMarked a .rewritten e) }

theorem rewriteNode_eq (s : State) (n : Node) (old new : DoorEntry) :
    rewriteNode s n old new = setLine s n.line (rewrittenLine n.addr old new (lineOf s n.line)) := by
  unfold rewriteNode
  simp [rewrittenLine, rewrittenNode, dropCommand, LineCtl.withNode, put_put, markFlight_eq, Function.comp_def, bne,
    BEq.beq]

theorem flightMarked_stale (a : Addr) (f : Fate) (e : Exchange) : (flightMarked a f e).stale = e.stale := by
  unfold flightMarked
  split
  · split <;> rfl
  · rfl
  · rfl

theorem flightMarked_withStale (a : Addr) (f : Fate) (e : Exchange) (x : List (Addr × DoorEntry)) :
    flightMarked a f { e with stale := x } = { flightMarked a f e with stale := x } := by
  unfold flightMarked
  dsimp only
  split
  · split <;> rfl
  · rfl
  · rfl

theorem foldl_flightMarked_withStale (f : Fate) (as : List Addr) (e : Exchange) (x : List (Addr × DoorEntry)) :
    as.foldl (fun x a => flightMarked a f x) { e with stale := x } =
      { as.foldl (fun x a => flightMarked a f x) e with stale := x } := by
  induction as generalizing e with
  | nil => rfl
  | cons a as ih => rw [List.foldl_cons, List.foldl_cons, flightMarked_withStale, ih]

/-- An exchange in flight under the rewrites of several nodes' entries (R34). -/
def flightRewritten (door : Addr → DoorEntry) (as : List Addr) (e : Exchange) : Exchange :=
  { as.foldl (fun x a => flightMarked a .rewritten x) e with
    stale := e.stale ++ (as.filter fun a => !e.stale.any fun z => z.1 == a).map fun a => (a, door a) }

theorem noteStale_eq (a : Addr) (old : DoorEntry) (e : Exchange) :
    noteStale a old e =
      { e with stale := e.stale ++ if e.stale.any (fun z => z.1 == a) then [] else [(a, old)] } := by
  unfold noteStale
  split
  · next h =>
    have : e.stale.any (fun z => z.1 == a) = true := h
    simp [this]
  · next h =>
    have : e.stale.any (fun z => z.1 == a) = false := Bool.eq_false_iff.2 h
    simp [this]

theorem flightRewritten_nil (door : Addr → DoorEntry) (e : Exchange) : flightRewritten door [] e = e := by
  simp [flightRewritten]

theorem flightRewritten_cons (door : Addr → DoorEntry) {a : Addr} {as : List Addr} (ha : a ∉ as) (e : Exchange) :
    flightRewritten door (a :: as) e =
      flightRewritten door as (noteStale a (door a) (flightMarked a .rewritten e)) := by
  obtain ⟨x, hx⟩ : ∃ x, x = e.stale ++ if e.stale.any (fun z => z.1 == a) then [] else [(a, door a)] := ⟨_, rfl⟩
  have hfilter : (as.filter fun b => !x.any fun z => z.1 == b) = as.filter fun b => !e.stale.any fun z => z.1 == b := by
    refine List.filter_congr fun b hb => ?_
    have hab : (a == b) = false := by simpa using fun h : a = b => ha (h ▸ hb)
    rw [hx]
    split <;> simp [hab]
  rw [noteStale_eq, flightMarked_stale, ← hx]
  simp only [flightRewritten, List.foldl_cons, foldl_flightMarked_withStale, hfilter]
  congr 1
  rw [hx]
  cases h : e.stale.any (fun z => z.1 == a) <;> simp [h]

/-- Several nodes of a line rewritten to UNUSED. -/
theorem foldl_rewrittenLine (door : Addr → DoorEntry) (as : List Addr) (hn : as.Nodup) (c : LineCtl) :
    as.foldl (fun d a => rewrittenLine a (door a) .cleared d) c =
      { c with
        fifo := c.fifo.filter fun a => !decide (a ∈ as)
        nodes := tabulate fun b => if b ∈ as then rewrittenNode .cleared .cleared .initial else look c.nodes b
        exchange := c.exchange.map (flightRewritten door as) } := by
  induction as generalizing c with
  | nil =>
    have hx : c.exchange.map (flightRewritten door []) = c.exchange := by
      rw [show flightRewritten door [] = id from funext (flightRewritten_nil door), Option.map_id]; rfl
    have hnodes : (tabulate fun b => look c.nodes b) = c.nodes := store_ext (by simp)
    simp [hx, hnodes]
  | cons a as ih =>
    obtain ⟨ha, hn⟩ := List.nodup_cons.1 hn
    have hclear : ∀ o x, rewrittenNode o .cleared x = rewrittenNode .cleared .cleared .initial := fun _ _ => rfl
    rw [List.foldl_cons, ih hn]
    simp only [rewrittenLine, List.filter_filter, Option.map_map, hclear]
    congr 1
    · refine List.filter_congr fun b _ => ?_
      by_cases hb : b = a <;> simp [hb]
    · congr 1
      funext e
      exact (flightRewritten_cons door ha e).symm
    · refine store_ext fun b => ?_
      by_cases hb : b = a
      · subst hb; simp [ha]
      · simp [hb, look_put_ne _ (Ne.symm hb)]

/-! ### The clear of the store (R203) -/

/-- What clearing nodes leaves of the lines, the Door Tracker and the deadlines. -/
structure NodesCleared (s : State) (ns : List Node) (t : State) : Prop where
  line : ∀ l, lineOf t l =
    ((ns.filter fun n => n.line == l).filter fun n => configured (doorOf s n)).foldl
      (fun c n => rewrittenLine n.addr (doorOf s n) .cleared c) (lineOf s l)
  track : ∀ m, trackOf t m = if m ∈ ns ∧ configured (doorOf s m) = true then .initial else trackOf s m
  time : t.time =
    { s.time with
      deadlines := s.time.deadlines.filter fun d => !(decide (d.node ∈ ns) && configured (doorOf s d.node)) }

theorem clearNode_cleared (s : State) (n : Node) : NodesCleared s [n] (clearNode s n) := by
  unfold clearNode
  split
  · next hc =>
    refine ⟨fun l => ?_, fun m => ?_, ?_⟩
    · rw [rewriteNode_eq]
      have hl : ∀ t : State, lineOf (setTrack t n .initial) l = lineOf t l := fun t => by simp [lineOf]
      have hd : lineOf (cancelNode s n) = lineOf s := by funext m; simp [lineOf]
      rw [hl, lineOf_setLine, hd]
      by_cases h : n.line = l
      · subst h; simp [hc]
      · have hne : (n.line == l) = false := by simpa using h
        simp [hne, Ne.symm h]
    · rw [trackOf_setTrack]
      by_cases h : m = n
      · subst h; simp [hc]
      · simp [h, trackOf]
    · have hfilter : (s.time.deadlines.filter fun d => !decide (d.node = n)) =
          s.time.deadlines.filter fun d => !(decide (d.node ∈ [n]) && configured (doorOf s d.node)) := by
        refine List.filter_congr fun d _ => ?_
        by_cases h : d.node = n
        · simp [h, hc]
        · simp [h]
      simp only [setTrack_frame, rewriteNode_frame, cancelNode, setDeadlines, State.withTime_time, hfilter]
  · next hc =>
    have hc : configured (doorOf s n) = false := by simpa using hc
    refine ⟨fun l => ?_, fun m => ?_, ?_⟩
    · have hnone : ((([n] : List Node).filter fun n => n.line == l).filter fun n => configured (doorOf s n)) = [] := by
        refine List.filter_eq_nil_iff.2 fun m hm => ?_
        obtain rfl : m = n := by simpa using List.mem_of_mem_filter hm
        simp [hc]
      rw [hnone]
      rfl
    · have : ¬ (m ∈ [n] ∧ configured (doorOf s m) = true) := by
        rintro ⟨hm, h⟩
        obtain rfl : m = n := by simpa using hm
        rw [hc] at h; cases h
      rw [if_neg this]
    · have hall : (s.time.deadlines.filter fun d => !(decide (d.node ∈ [n]) && configured (doorOf s d.node))) =
          s.time.deadlines := by
        refine List.filter_eq_self.2 fun d _ => ?_
        by_cases h : d.node = n
        · simp [h, hc]
        · simp [h]
      rw [hall]

theorem foldl_clearNode_cleared (ns : List Node) (s : State) : NodesCleared s ns (ns.foldl clearNode s) := by
  induction ns generalizing s with
  | nil => exact ⟨fun _ => rfl, fun _ => by simp, by simp⟩
  | cons n ns ih =>
    obtain ⟨hline, htrack, htime⟩ := clearNode_cleared s n
    obtain ⟨iline, itrack, itime⟩ := ih (clearNode s n)
    have hd : ∀ m, doorOf (clearNode s n) m = doorOf s m := doorOf_congr (by simp) (by simp)
    simp only [hd] at iline itrack itime
    refine ⟨fun l => ?_, fun m => ?_, ?_⟩
    · rw [List.foldl_cons, iline, hline, ← List.foldl_append, ← List.filter_append, ← List.filter_append]
      rfl
    · rw [List.foldl_cons, itrack, htrack]
      by_cases hm : m ∈ ns
      · by_cases hc : configured (doorOf s m) = true
        · simp [hm, hc]
        · simp [hc]
      · simp [hm]
    · rw [List.foldl_cons, itime, htime]
      simp only [List.filter_filter]
      congr 1
      refine List.filter_congr fun d _ => ?_
      simp only [List.mem_cons, Bool.decide_or]
      cases configured (doorOf s d.node) <;> simp [Bool.and_comm]

theorem mem_nodes (n : Node) : n ∈ slots.map nodeAt := by
  have h := slots_of_line n.line
  have hn : n ∈ (slots.map nodeAt).filter fun m => m.line == n.line := by
    rw [h]
    exact List.mem_map.2 ⟨n.addr, List.mem_finRange _, rfl⟩
  exact List.mem_of_mem_filter hn

/-- The nodes cleared with the store (R203). -/
def nodesCleared (s : State) : State := (slots.map nodeAt).foldl clearNode s

theorem nodesCleared_track (s : State) (n : Node) :
    trackOf (nodesCleared s) n = if configured (doorOf s n) = true then .initial else trackOf s n := by
  simp [nodesCleared, (foldl_clearNode_cleared (slots.map nodeAt) s).track, mem_nodes]

theorem nodesCleared_time (s : State) :
    (nodesCleared s).time =
      { s.time with deadlines := s.time.deadlines.filter fun d => !configured (doorOf s d.node) } := by
  simp [nodesCleared, (foldl_clearNode_cleared (slots.map nodeAt) s).time, mem_nodes]

theorem nodesCleared_line (s : State) (l : LineNo) :
    lineOf (nodesCleared s) l =
      lineCleared s l (tabulate fun a =>
        if configured (doorOf s { line := l, addr := a }) = true then rewrittenNode .cleared .cleared .initial
        else look (lineOf s l).nodes a) := by
  have hfold := (foldl_clearNode_cleared (slots.map nodeAt) s).line l
  rw [slots_of_line, List.filter_map] at hfold
  have hrew := foldl_rewrittenLine (fun a => doorOf s { line := l, addr := a })
    ((List.finRange 32).filter fun a => configured (doorOf s { line := l, addr := a }))
    ((List.nodup_finRange 32).filter _) (lineOf s l)
  have hmem : ∀ a, (a ∈ (List.finRange 32).filter fun a => configured (doorOf s { line := l, addr := a })) ↔
      configured (doorOf s { line := l, addr := a }) = true := fun a => by simp
  refine hfold.trans (List.foldl_map.trans (hrew.trans ?_))
  simp only [hmem, lineCleared, Bool.decide_eq_true, LineCtl.mk.injEq, true_and, and_true]
  refine congrArg (fun f => (lineOf s l).exchange.map f) (funext fun e => ?_)
  have hstale : ((List.finRange 32).filter fun a => configured (doorOf s { line := l, addr := a })).filter
        (fun a => !e.stale.any fun z => z.1 == a) =
      (List.finRange 32).filter fun a =>
        configured (doorOf s { line := l, addr := a }) && !e.stale.any fun z => z.1 == a := by
    rw [List.filter_filter]
    exact List.filter_congr fun a _ => Bool.and_comm _ _
  rw [flightRewritten, hstale]

/-- The store cleared at the end of CHECKING, block by block (R166, R190, R203). -/
theorem clearStore_blocks (s : State) :
    (clearStore s).lines = (nodesCleared s).lines ∧ (clearStore s).tracker = (nodesCleared s).tracker ∧
      (clearStore s).time = (nodesCleared s).time ∧ (clearStore s).store = .cleared ∧
      (clearStore s).journal =
        { s.journal with
          records := [{ stampedRecord s .restart with detail := .restart s.startup.cause false }], batch := none } ∧
      (clearStore s).trunk =
        { s.trunk with upTx := if s.trunk.upTx.map Prod.fst = some .journal then none else s.trunk.upTx } := by
  have hj : (nodesCleared s).journal = s.journal := by simp [nodesCleared]
  have ht : (nodesCleared s).trunk = s.trunk := by simp [nodesCleared]
  have hu : (nodesCleared s).startup = s.startup := by simp [nodesCleared]
  have hclock : (nodesCleared s).time.clock = s.time.clock := by rw [nodesCleared_time]
  unfold clearStore
  dsimp only
  rw [← nodesCleared]
  split
  · next h =>
    have h : s.trunk.upTx.map Prod.fst = some .journal := by simpa [ht] using h
    simp [hj, ht, hu, h, stampedRecord, hclock]
  · next h =>
    have h : ¬ s.trunk.upTx.map Prod.fst = some .journal := by simpa [ht] using h
    simp [hj, ht, hu, h, stampedRecord, hclock]


/-! ### A phase entered (R200) -/

theorem enterPhase_trunk (s : State) (p : Phase) :
    (enterPhase s p).trunk = { s.trunk with notices := noticesAfter s (.phase p) } := by
  simp [enterPhase, setPhase, pushNotice_eq, noticesAfter, noticesWith]

theorem enterPhase_unchanged (s : State) (p : Phase) : unchangedBut [.trunk, .startup] s (enterPhase s p) := by
  rw [unchangedBut_iff]
  simp

theorem noticesAfter_congr {s t : State} (ht : t.trunk.notices = s.trunk.notices) (hc : t.time.clock = s.time.clock)
    (b : NoticeBody) : noticesAfter t b = noticesAfter s b := by
  simp only [noticesAfter, noticesWith, ht, hc]

/-- A phase entered and nothing else (R200). -/
theorem phaseEntered {c : Instr} {s : State} {p : Phase} (he : exec c s = done (enterPhase s p)) :
    ∃ t, exec c s = .next t ∧ unchangedBut [.trunk, .startup] s t ∧ t.startup = { s.startup with phase := p } ∧
      notifies s t (.phase p) :=
  ⟨_, he, (enterPhase_unchanged s p).settled, by simp [enterPhase_startup], (trunkIs_of_eq (enterPhase_trunk s p)).settled⟩

/-- The store cleared is that of `storeCleared`. -/
theorem storeCleared_of_eq {t : State} (h : t.store = .cleared) : storeCleared t := by
  have hd : ∀ i, dynOf t i = .cleared := fun i => by simp [dynOf, h, Store.cleared]
  refine ⟨by rw [h]; rfl, fun i => ?_, fun i => ?_, fun i => ?_, fun i => ?_, fun i => ?_, fun i => ?_,
    fun i => by rw [hd]; rfl, by rw [h]; rfl, by rw [h]; rfl⟩
  all_goals
    rw [h]
    simp [Store.cleared, DoorEntry.cleared, RoomStatic.cleared]

/-- Settles O46: CHECKING ends by path and cause, GO by phase and clock, RESTART by its code. -/
theorem startUpChangesPhase : Obligations.StartUpChangesPhase := by
  refine ⟨fun s hw hp hpass hevents hport => ⟨fun hk hline => ?_, fun hk hcause => ?_, fun hk hcause => ?_⟩, ?_, ?_⟩
  · have hdone : s.minibar.any isLineUp = false := by
      refine List.any_eq_false.2 fun w hmem => ?_
      cases w <;> simp only [isLineUp, Bool.false_eq_true, not_false_eq_true]
      exact absurd hmem (hline _)
    exact phaseEntered (by simp [exec, execCheckingEnd, checksDone, endChecking, hw, hp, hpass, hevents, hport, hk, hdone])
  · exact phaseEntered
      (by simp [exec, execCheckingEnd, checksDone, endChecking, hw, hp, hpass, hevents, hport, hk, hcause])
  · have he : exec .checkingEnd s = done (enterPhase (clearStore s) .awaitLoad) := by
      simp [exec, execCheckingEnd, checksDone, endChecking, hw, hp, hpass, hevents, hport, hk, hcause]
    obtain ⟨hlines, htracker, htime, hstore, hjournal, htrunk⟩ := clearStore_blocks s
    have htrack : ∀ n, trackOf (settle (enterPhase (clearStore s) .awaitLoad)) n =
        if configured (doorOf s n) = true then .initial else trackOf s n := fun n => by
      rw [← nodesCleared_track]
      simp [trackOf, htracker]
    have hline : ∀ l, lineOf (settle (enterPhase (clearStore s) .awaitLoad)) l = lineOf (nodesCleared s) l :=
      lineOf_eq_of_lines (by simp [hlines])
    have hnode : ∀ n, nodeOf (settle (enterPhase (clearStore s) .awaitLoad)) n =
        if configured (doorOf s n) = true then rewrittenNode .cleared .cleared .initial else nodeOf s n := fun n => by
      rw [nodeOf, hline, nodesCleared_line]
      simp [lineCleared, nodeOf]
    refine ⟨_, he, unchangedBut.settled ?_, ?_, ?_, ?_, ?_, fun l => ?_, fun n hc => ⟨?_, ?_⟩, fun n hc => ⟨?_, ?_⟩, ?_, ?_⟩
    · rw [unchangedBut_iff]
      simp
    · simp [enterPhase_startup]
    · exact storeCleared_of_eq (by simp [hstore])
    · simp [htime, nodesCleared_time]
    · simp
    · rw [hline, nodesCleared_line]
      simp only [lineCleared]
    · rw [hnode, if_pos hc]; rfl
    · rw [htrack, if_pos hc]; rfl
    · rw [hnode, if_neg (by simp [hc])]
    · rw [htrack, if_neg (by simp [hc])]
    · rw [settle_journal]
      simp [enterPhase, setPhase, hjournal]
    · refine (trunkIs_of_eq ?_).settled
      have hnotices : (clearStore s).trunk.notices = s.trunk.notices := by simp
      have hclock : (clearStore s).time.clock = s.time.clock := by simp
      rw [enterPhase_trunk, noticesAfter_congr hnotices hclock, htrunk]
  · rintro s ⟨req, tag, uni⟩ ⟨hw, hr⟩ rfl
    refine ⟨fun hp hc => ?_, fun h => ?_⟩
    · have he : exec .go s = done (answerRequest (enterPhase s .run) (.done [phaseCode .run])) := by
        simp [exec, execGo, hr, hw, go, hp, hc]
      have htrunk := (trunkIs_of_eq (enterPhase_trunk s .run)).thenAnswered (by rw [enterPhase_trunk]; exact hr)
        (.done [phaseCode .run])
      refine ⟨_, he, unchangedBut.settled ?_, by simp [enterPhase_startup], htrunk.settled⟩
      rw [unchangedBut_iff]
      simp
    · have hno : ¬ (s.startup.phase = .awaitLoad ∧ s.time.clock.cond ≠ .unset) := by tauto
      have he : exec .go s = done (answerRequest s (.refused .phase)) := by
        simp only [exec, execGo, hr, hw, go, if_neg hno, if_true]
      refine ⟨_, he, unchangedBut.settled ?_, trunkIs.settled ((trunkIs_refl s).answered hr _)⟩
      rw [unchangedBut_iff]
      simp
  · rintro s ⟨req, tag, uni⟩ b ⟨hw, hr⟩ rfl
    have he : exec .restart s = done (restart s b) := by simp [exec, execRestart, hr, hw]
    refine ⟨fun hb => ?_, fun hb => ?_⟩
    · have hmode : restartModeOf b = some (if b = 0 then .warm else .cold) := by
        have hcases : b = 0 ∨ b = 1 := by bv_omega
        rcases hcases with rfl | rfl <;> rfl
      refine ⟨_, he, unchangedBut.settled ?_, ?_, trunkIs.settled ?_⟩
      · rw [unchangedBut_iff]
        simp [restart, hmode]
      · simp [restart, hmode]
      · have hans := (trunkIs_refl s).answered hr (.done [])
        simpa [restart, hmode, answers, trunkIs] using hans
    · have hmode : restartModeOf b = none := by
        unfold restartModeOf
        split
        · omega
        · omega
        · rfl
      rw [he, restart, hmode]
      refine ⟨_, rfl, unchangedBut.settled ?_, trunkIs.settled ((trunkIs_refl s).answered hr _)⟩
      rw [unchangedBut_iff]
      simp

end Sys2Proof.Machine
end

section
/-!
A command queued in place of a session's (R42, R112), and the end of the session of a node, in the terms of the statements.
-/

namespace Sys2Proof.Machine

/-! ### The end of a node's session (R112 to R115) -/

/-- What the end of the sessions `ks`, one at most, on a node leaves. -/
structure EndedAt (s : State) (n : Node) (ks : List (Fin 2)) (why : FailReason) (t : State) : Prop where
  same : unchangedBut [.time, .lines, .issue, .journal, .trunk] s t
  lines : t.lines = if ks = [] then s.lines else linesWithdrawn s n
  ended : endedOn s t n ks why
  records : ∀ {b : State} {rs : List Record}, appendsAll b s rs → s.trunk.chain = b.trunk.chain →
    appendsAll b t (rs ++ endRecords s ks why)
  trunk : t.trunk = { s.trunk with notices := noticesWith s (endNotices s ks why) }

theorem EndedAt.nil (s : State) (n : Node) (why : FailReason) : EndedAt s n [] why s := by
  refine ⟨?_, rfl, ⟨?_, by simp⟩, fun h _ => by simpa [endRecords] using h, rfl⟩
  · rw [unchangedBut_iff]
    simp
  · simp [sessionsEnded]

theorem EndedAt.one {s : State} {n : Node} {k : Fin 2} {why : FailReason} (hk : ctxOfNode s n = some k)
    (hn : (ctxOf s k).outcome = none) (hw : why ≠ .timeout) : EndedAt s n [k] why (endSession s k why) := by
  obtain ⟨ho, hnode⟩ := ctxOfNode_some hk
  refine ⟨?_, ?_, ⟨endSession_issue why ho hn, ?_⟩, fun h hc => endSession_records why ho hn h hc,
    endSession_trunk why ho hn⟩
  · rw [unchangedBut_iff]
    simp
  · simp [endSession_lines why ho hn, hnode]
  · rw [endSession_time why ho hn hw, hnode]
    simp

/-- A cause of R112 at a node ends the session that is open there and undecided. -/
theorem endNodeSession_ended (s : State) (n : Node) {why : FailReason} (hw : why ≠ .timeout) :
    EndedAt s n (endable s n) why (endNodeSession s n why) := by
  rcases endable_cases s n with h | ⟨k, h, hk, hn⟩
  · rw [endNodeSession_none h, h]
    exact .nil s n why
  · rw [endNodeSession_some hk, h]
    exact .one hk hn hw

/-- The session that a dropped command ends: a PREPARE's in AWAIT_BLANK, a WRITE's in WRITING (R112). -/
def droppedSession (s : State) (n : Node) (old : Command) : List (Fin 2) :=
  (endable s n).filter fun k =>
    decide ((ctxOf s k).state = if old = .prepare then CtxState.awaitBlank else CtxState.writing)

theorem endSession_decided {s : State} {k : Fin 2} (h : (ctxOf s k).outcome ≠ none) (why : FailReason) :
    endSession s k why = s := by
  rcases ho : (ctxOf s k).outcome with _ | out
  · exact absurd ho h
  · simp [endSession, ho]

theorem issueDrop_ended (s : State) (n : Node) {old : Command} (hs : isSessionCommand old = true) :
    EndedAt s n (droppedSession s n old) .encoderUnreachable (issueDrop s n old) := by
  have hdrop : ∀ k, ctxOfNode s n = some k →
      issueDrop s n old =
        if (ctxOf s k).state = (if old = .prepare then CtxState.awaitBlank else CtxState.writing) then
          endSession s k .encoderUnreachable
        else s := fun k hk => by
    cases old <;> simp [isSessionCommand] at hs <;> cases hst : (ctxOf s k).state <;> simp [issueDrop, hk, hst]
  rcases hk : ctxOfNode s n with _ | k
  · have hnone : droppedSession s n old = [] := by simp [droppedSession, endable, hk]
    have hsame : issueDrop s n old = s := by simp [issueDrop, hk]
    rw [hnone, hsame]
    exact .nil s n _
  · rw [hdrop k hk]
    by_cases hn : (ctxOf s k).outcome = none
    · have hend : endable s n = [k] := by simp [endable, hk, hn]
      by_cases hst : (ctxOf s k).state = (if old = .prepare then CtxState.awaitBlank else CtxState.writing)
      · simp only [droppedSession, hend, hst, List.filter_cons, decide_true, if_true, List.filter_nil]
        exact .one hk hn nofun
      · simp only [droppedSession, hend, hst, List.filter_cons, decide_false, Bool.false_eq_true, if_false, List.filter_nil]
        exact .nil s n _
    · have hnone : droppedSession s n old = [] := by
        have : endable s n = [] := by simpa [endable, hk, Option.isNone_iff_eq_none] using hn
        simp [droppedSession, this]
      rw [hnone, endSession_decided hn, ite_self]
      exact .nil s n _

theorem droppedSession_congr {s t : State} (h : t.issue = s.issue) (n : Node) (old : Command) :
    droppedSession t n old = droppedSession s n old := by
  have hctx : ∀ k, ctxOf t k = ctxOf s k := fun k => by simp [ctxOf, h]
  simp only [droppedSession, endable_congr h, hctx]

/-- The session ended over lines changed before, where the node's pending command is no longer the session's. -/
theorem EndedAt.rebase {s u t : State} {n : Node} {ks : List (Fin 2)} {why : FailReason} (h : EndedAt u n ks why t)
    {x : Vector LineCtl 4} (hu : u = s.withLines x) (hl : t.lines = x) :
    unchangedBut [.time, .lines, .issue, .journal, .trunk] s t ∧ t.lines = x ∧ endedOn s t n ks why ∧
      (∀ {b : State} {rs : List Record}, appendsAll b s rs → s.trunk.chain = b.trunk.chain →
        appendsAll b t (rs ++ endRecords s ks why)) ∧
      t.trunk = { s.trunk with notices := noticesWith s (endNotices s ks why) } := by
  subst hu
  obtain ⟨hsame, -, hended, hrecords, htrunk⟩ := h
  refine ⟨?_, hl, hended, fun hb hc => hrecords (hb.of_journal rfl) hc, htrunk⟩
  rw [unchangedBut_iff] at hsame ⊢
  simpa using hsame

/-! ### A command queued (R41, R42) -/

/-- What queuing a command that is no session's leaves: the lines of `linesQueued`, and the end of the session it replaces. -/
structure CommandQueued (s : State) (n : Node) (c : Command) (t : State) : Prop where
  same : unchangedBut [.time, .lines, .issue, .journal, .trunk] s t
  lines : t.lines = linesQueued s n c
  ended : endedOn s t n (replacedSession s n c) .encoderUnreachable
  records : ∀ {b : State} {rs : List Record}, appendsAll b s rs → s.trunk.chain = b.trunk.chain →
    appendsAll b t (rs ++ endRecords s (replacedSession s n c) .encoderUnreachable)
  trunk : t.trunk = { s.trunk with notices := noticesWith s (endNotices s (replacedSession s n c) .encoderUnreachable) }

/-- A line's pending command after one queued for its node: kept only where the older one outlasts it (R42). -/
theorem lineQueued_pending (d : LineCtl) (a : Addr) (new : Command) :
    (look (lineQueued d a new).nodes a).command =
      match (look d.nodes a).command with
      | none => some new
      | some old => if outlasts old new = true then some old else some new := by
  unfold lineQueued
  dsimp only
  split
  · next h => simp [h]
  · next old h =>
    split
    · next ho => simp [h, ho]
    · next ho => simp [h, ho]

theorem lineWithdrawn_other {c : LineCtl} {a : Addr} (h : ∀ x, (look c.nodes a).command = some x → isSessionCommand x = false) :
    lineWithdrawn c a = c := by
  have hgone : ¬ (look c.nodes a).command.map isSessionCommand = some true := by
    intro hm
    obtain ⟨x, hx, hs⟩ := Option.map_eq_some_iff.1 hm
    rw [h x hx] at hs
    cases hs
  simp [lineWithdrawn, hgone]

theorem linesWithdrawn_other {s : State} {n : Node} (h : ∀ x, (nodeOf s n).command = some x → isSessionCommand x = false) :
    linesWithdrawn s n = s.lines := by
  rw [linesWithdrawn, lineWithdrawn_other h]
  exact put_look _ _

theorem replacedSession_of_live {s : State} {n : Node} {old c : Command} (ho : (nodeOf s n).command = some old)
    (hs : isSessionCommand old = true) (hf : flightFate (lineOf s n.line) n.addr ≠ some .withdrawn) :
    replacedSession s n c = droppedSession s n old := by
  have hk : outlasts old c = false := by cases old <;> simp_all [outlasts, isSessionCommand]
  simp [replacedSession, ho, hk, hs, hf, droppedSession]

theorem replacedSession_of_plain {s : State} {n : Node} {c : Command}
    (h : ∀ old, (nodeOf s n).command = some old →
      isSessionCommand old = false ∨ flightFate (lineOf s n.line) n.addr = some .withdrawn) :
    replacedSession s n c = [] := by
  unfold replacedSession
  split
  · rfl
  · next old ho =>
    rw [if_neg]
    rintro ⟨-, hs, hf⟩
    rcases h old ho with h | h
    · rw [hs] at h; cases h
    · exact hf h

theorem CommandQueued.plain (s : State) (n : Node) {c : Command} (h : replacedSession s n c = []) :
    CommandQueued s n c (s.withLines (linesQueued s n c)) := by
  obtain ⟨hsame, -, hended, hrecords, htrunk⟩ :=
    (EndedAt.nil (s.withLines (linesQueued s n c)) n .encoderUnreachable).rebase rfl rfl
  rw [← h] at hended hrecords htrunk
  exact ⟨hsame, rfl, hended, hrecords, htrunk⟩

/-- A command that is no session's, queued for a configured node of a line that takes it. -/
theorem queueCommand_queued (s : State) {n : Node} {c : Command} (hd : configured (doorOf s n) = true)
    (hp : passTaken (lineOf s n.line).mode c = true) (hc : isSessionCommand c = false) :
    CommandQueued s n c (queueCommand s n c) := by
  by_cases hplain : ∀ old, (nodeOf s n).command = some old →
      isSessionCommand old = false ∨ flightFate (lineOf s n.line) n.addr = some .withdrawn
  · rw [queueCommand_plain s n c hd hp hplain]
    exact .plain s n (replacedSession_of_plain hplain)
  · push Not at hplain
    obtain ⟨old, ho, hs, hf⟩ := hplain
    have hs : isSessionCommand old = true := by simpa using hs
    have hk : outlasts old c = false := by cases old <;> simp_all [outlasts, isSessionCommand]
    have hended := issueDrop_ended (s.withLines (linesQueued s n c)) n hs
    rw [droppedSession_congr (s := s) (t := s.withLines (linesQueued s n c)) rfl, ← replacedSession_of_live (c := c) ho hs hf] at hended
    have hnode : (nodeOf (s.withLines (linesQueued s n c)) n).command = some c := by
      rw [nodeOf, lineOf_of_linesQueued rfl, if_pos rfl, lineQueued_pending]
      have ho : (look (lineOf s n.line).nodes n.addr).command = some old := ho
      simp [ho, hk]
    have hlines : (issueDrop (s.withLines (linesQueued s n c)) n old).lines = linesQueued s n c := by
      rw [hended.lines, linesWithdrawn_other fun x hx => by rw [hnode] at hx; cases hx; exact hc, ite_self]
      rfl
    rw [queueCommand_replaces s n hd hp ho hs hf]
    obtain ⟨h1, h2, h3, h4, h5⟩ := hended.rebase rfl hlines
    exact ⟨h1, h2, h3, h4, h5⟩

end Sys2Proof.Machine
end

section
/-!
REQUEST_TAKE and NODE_PASS_DOWN (11_trunk_and_management_requests.md, R191, R193, R198, R201).
-/

namespace Sys2Proof.Machine

/-! ### What the phase answers (R193, R201) -/

/-- A part that works is in CHECKING, AWAIT_LOAD or RUN. -/
theorem working_phase {s : State} (h : s.working = true) :
    s.startup.phase = .checking ∨ s.startup.phase = .awaitLoad ∨ s.startup.phase = .run := by
  simp [State.working, State.serving, State.active] at h
  tauto

theorem refusedInAwaitLoad_override (b : Byte) :
    phaseAnswer .awaitLoad (.setOverride b) = if b.toNat < 2 then some (.refused .phase) else none := by
  simp only [phaseAnswer, levelOf]
  split
  · next h => split at h <;> simp_all
  · next h => split at h <;> simp_all
  · next h => split at h <;> simp_all
  · next h => split at h <;> simp_all; omega

theorem refusedInAwaitLoad_restart (b : Byte) :
    phaseAnswer .awaitLoad (.restart b) = if b = 0 then some (.refused .phase) else none := by
  simp only [phaseAnswer, restartModeOf]
  split
  · next h =>
    have hb : b = 0 := by
      split at h
      · bv_omega
      · cases h
      · cases h
    simp [hb]
  · next h =>
    have hb : b ≠ 0 := by rintro rfl; cases h
    rw [if_neg hb]
  · next h =>
    have hb : b ≠ 0 := by rintro rfl; cases h
    rw [if_neg hb]

theorem phaseAnswer_awaitLoad (r : Request) :
    phaseAnswer .awaitLoad r = if refusedInAwaitLoad r = true then some (.refused .phase) else none := by
  cases r
  case setOverride b => simp [refusedInAwaitLoad_override, refusedInAwaitLoad]
  case restart b => simp [refusedInAwaitLoad_restart, refusedInAwaitLoad]
  all_goals rfl

/-- What the phase answers is what the statements say it does. -/
theorem phaseAnswer_iff {s : State} (h : s.working = true) (r : Request) (a : Answer) :
    phaseAnswer s.startup.phase r = some a ↔ turnedAway s.startup.phase r a := by
  rcases working_phase h with hp | hp | hp
  · rw [hp]
    cases r <;> simp [phaseAnswer, turnedAway, eq_comm (a := a)]
  · rw [hp, phaseAnswer_awaitLoad]
    by_cases hr : refusedInAwaitLoad r = true
    · simpa [turnedAway, hr] using eq_comm
    · simp [turnedAway, hr]
  · rw [hp]
    cases r <;> simp [phaseAnswer, turnedAway, eq_comm (a := a)]

theorem phaseAnswer_none_iff {s : State} (h : s.working = true) (r : Request) :
    phaseAnswer s.startup.phase r = none ↔ ∀ a, ¬ turnedAway s.startup.phase r a := by
  simp only [← phaseAnswer_iff h]
  exact Option.eq_none_iff_forall_ne_some

/-- The requests a broadcast may make, by their codes (R193). -/
theorem broadcastable_iff (r : Request) :
    broadcastable r = true ↔ requestCode r = 5 ∨ requestCode r = 6 ∨ requestCode r = 12 ∨ requestCode r = 13 := by
  cases r <;> simp [broadcastable, requestCode]

theorem handOn_other {s : State} {r : Request} (h : ¬ ∃ n k stay, r = .issue n k stay) (tag : Byte) (uni : Bool) :
    handOn s r tag uni = s.withTrunk { s.trunk with inHand := some { request := r, tag := tag, unicast := uni } } := by
  unfold handOn
  dsimp only
  split
  · exact absurd ⟨_, _, _, rfl⟩ h
  · rfl

theorem handOn_trunk (s : State) (r : Request) (tag : Byte) (uni : Bool) :
    (handOn s r tag uni).trunk =
      { s.trunk with inHand := some { request := r, tag := tag, unicast := uni } } := by
  unfold handOn
  dsimp only
  split <;> rfl

/-! ### REQUEST_TAKE (R191) -/

section
variable {s : State} {f : Frame} {fs : List Frame}

/-- The request FIFO with its head taken. -/
def headTaken (s : State) (fs : List Frame) : State := s.withTrunk { s.trunk with requests := fs }

theorem exec_requestTake (hw : s.working = true) (hr : s.trunk.requests = f :: fs) (hi : s.trunk.inHand = none) :
    exec .requestTake s =
      if s.startup.restart.isNone && (!needsReply f || replyFree s) then done (takeFrame (headTaken s fs) f)
      else idle s := by
  simp only [exec, execRequestTake, hr, hi, hw, Option.isNone_none, Bool.true_and, headTaken]

/-- A frame that changes the trunk alone. -/
theorem trunkTaken {u : State} {x : Trunk} (he : exec .requestTake s = done u) (hu : u = s.withTrunk x) :
    ∃ t, exec .requestTake s = .next t ∧ unchangedBut [.trunk] s t ∧ trunkIs t x := by
  refine ⟨_, he, unchangedBut.settled ?_, (trunkIs_of_eq (by rw [hu]; rfl)).settled⟩
  rw [unchangedBut_iff, hu]
  simp

theorem takeFrame_request (s : State) (hk : f.kind = .request) :
    takeFrame s f = if f.dest = controller then takeBroadcast s f else takeUnicast s f := by
  simp [takeFrame, hk]

theorem takeFrame_passDown (s : State) (hk : f.kind = .passDown) : takeFrame s f = takePassDown s f := by
  simp [takeFrame, hk]

end

theorem controller_eq : controller = 31 := rfl

theorem requestTake_refused {s : State} {f : Frame} {fs : List Frame} (hw : s.working = true)
    (hr : s.trunk.requests = f :: fs) (hi : s.trunk.inHand = none)
    (h : s.startup.restart ≠ none ∨
      f.kind = .request ∧ f.dest ≠ 31 ∧ 4 ≤ replyCount s.trunk.outQueue + s.trunk.reserved) :
    exec .requestTake s = .next s := by
  rw [exec_requestTake hw hr hi, if_neg]
  · rfl
  · rcases h with h | ⟨hk, hd, hfull⟩
    · obtain ⟨m, hm⟩ := Option.ne_none_iff_exists'.1 h
      simp [hm]
    · have hfree : replyFree s = false := by
        have hcap : Config.fifoCap = 4 := rfl
        simp only [replyFree, hcap, decide_eq_false_iff_not]
        omega
      have hneeds : needsReply f = true := by
        simp only [needsReply, hk, controller_eq, decide_true, Bool.true_and]
        exact decide_eq_true hd
      simp [hneeds, hfree]

/-- A broadcast that may be made and is not turned away becomes the request in hand, and no other does (R193). -/
theorem takeBroadcast_eq (s : State) (f : Frame) (fs : List Frame) :
    takeBroadcast (headTaken s fs) f =
      match parseRequest f.body with
      | none => headTaken s fs
      | some r =>
        if broadcastable r = true ∧ phaseAnswer s.startup.phase r = none then
          (headTaken s fs).withTrunk
            { s.trunk with requests := fs, inHand := some { request := r, tag := f.tag, unicast := false } }
        else headTaken s fs := by
  unfold takeBroadcast
  rcases parseRequest f.body with _ | r
  · rfl
  · dsimp only
    have hother : broadcastable r = true → ¬ ∃ n k stay, r = .issue n k stay := by
      rintro h ⟨n, k, stay, rfl⟩
      cases h
    by_cases hb : broadcastable r = true ∧ phaseAnswer s.startup.phase r = none
    · have hcond : (broadcastable r && (phaseAnswer (headTaken s fs).startup.phase r).isNone) = true := by
        simp [hb.1, headTaken, hb.2]
      rw [if_pos hcond, if_pos hb, handOn_other (hother hb.1)]
      rfl
    · have hcond : ¬ (broadcastable r && (phaseAnswer (headTaken s fs).startup.phase r).isNone) = true := by
        simpa [headTaken, Option.isNone_iff_eq_none] using hb
      rw [if_neg hcond, if_neg hb]

/-! ### NODE_PASS_DOWN (R198) -/

theorem passDown_discarded {s : State} {line addr : Byte} {chars : List Byte}
    (h : 4 ≤ line.toNat ∨ 32 ≤ addr.toNat ∨ chars = []) : passDown s line addr chars = s := by
  unfold passDown
  split
  · next hin =>
    rcases h with h | h | h
    · omega
    · omega
    · simp [h]
  · rfl

theorem passDown_node {s : State} {line addr : Byte} {chars : List Byte} {n : Node} (hl : line.toNat = n.line.val)
    (ha : addr.toNat = n.addr.val) (hc : chars ≠ []) : passDown s line addr chars = queueCommand s n (.pass chars) := by
  have hin : line.toNat < 4 ∧ addr.toNat < 32 := by omega
  have hn : ({ line := ⟨line.toNat, hin.1⟩, addr := ⟨addr.toNat, hin.2⟩ } : Node) = n := by
    obtain ⟨nl, na⟩ := n
    simp only [Node.mk.injEq, Fin.ext_iff]
    exact ⟨hl, ha⟩
  have hempty : chars.isEmpty = false := by simpa using hc
  simp only [passDown, dif_pos hin, hempty, hn]
  rfl

/-- A PASS replaces what is pending but a HOLD_OPEN (R42). -/
theorem outlasts_pass (old : Command) (chars : List Byte) : outlasts old (.pass chars) = true ↔ old = .holdOpen := by
  cases old <;> simp [outlasts]

theorem lineQueued_pass (d : LineCtl) (a : Addr) (chars : List Byte) :
    ((look d.nodes a).command ≠ some .holdOpen →
      (look (lineQueued d a (.pass chars)).nodes a).command = some (.pass chars) ∧
        (look (lineQueued d a (.pass chars)).nodes a).attempts = 0) ∧
    ((look d.nodes a).command = none →
      (lineQueued d a (.pass chars)).fifo = d.fifo.filter (fun b => b != a) ++ [a]) ∧
    ((look d.nodes a).command ≠ none → (lineQueued d a (.pass chars)).fifo = d.fifo) := by
  unfold lineQueued
  dsimp only
  split
  · next h => simp [h]
  · next old h =>
    rw [h]
    by_cases hk : old = .holdOpen
    · simp [hk, outlasts]
    · have hk' : ¬ outlasts old (.pass chars) = true := fun ho => hk ((outlasts_pass old chars).1 ho)
      simp [hk, hk']

/-- Settles O49: a frame is taken by its kind and destination, a PASS by the line and the node it names. -/
theorem requestsAreTaken : Obligations.RequestsAreTaken := by
  refine ⟨fun s f fs hw hi hr => ⟨fun hs => requestTake_refused hw hr hi (.inl hs), fun hs hk hd hfull =>
    requestTake_refused hw hr hi (.inr ⟨hk, hd, hfull⟩), fun hs hk => ?_, fun hs hk hd hfree => ?_, fun hs hk hd => ?_⟩, ?_⟩
  · have he : exec .requestTake s = done (takePassDown (headTaken s fs) f) := by
      rw [exec_requestTake hw hr hi, if_pos (by simp [hs, needsReply, hk]), takeFrame_passDown _ hk]
    by_cases hd : f.dest = 31
    · obtain ⟨t, h1, h2, h3⟩ := trunkTaken (x := { s.trunk with requests := fs }) he (by simp [takePassDown, hd, controller_eq, headTaken])
      exact ⟨t, h1, h2, fun _ => h3, fun h => absurd hd h⟩
    · have hother : ¬ ∃ n k stay, parsePassDown f.body = .issue n k stay := by
        rintro ⟨n, k, stay, h⟩
        unfold parsePassDown at h
        split at h <;> cases h
      obtain ⟨t, h1, h2, h3⟩ := trunkTaken
        (x := { s.trunk with
          requests := fs, inHand := some { request := parsePassDown f.body, tag := f.tag, unicast := false } }) he (by
            rw [takePassDown, controller_eq, if_neg hd, handOn_other hother]
            rfl)
      exact ⟨t, h1, h2, fun h => absurd h hd, fun _ => h3⟩
  · have hcap : Config.fifoCap = 4 := rfl
    have he : exec .requestTake s = done (takeUnicast (headTaken s fs) f) := by
      rw [exec_requestTake hw hr hi, if_pos (by simp [hs, replyFree, hcap, hfree]), takeFrame_request _ hk, controller_eq, if_neg hd]
    refine ⟨fun hp => trunkTaken he ?_, fun r hp => ⟨fun a ha => trunkTaken he ?_, fun ha => ?_⟩⟩
    · simp [takeUnicast, hp, fillReply, headTaken, State.withTrunk]
    · have ha : phaseAnswer s.startup.phase r = some a := (phaseAnswer_iff hw r a).2 ha
      simp [takeUnicast, hp, ha, fillReply, headTaken, State.withTrunk]
    · have ha : phaseAnswer s.startup.phase r = none := (phaseAnswer_none_iff hw r).2 ha
      have hu : takeUnicast (headTaken s fs) f = handOn (s.withTrunk { s.trunk with requests := fs, reserved := s.trunk.reserved + 1 })
          r f.tag true := by
        simp [takeUnicast, hp, ha, headTaken]
        rfl
      rw [hu] at he
      refine ⟨_, he, unchangedBut.settled ?_, (trunkIs_of_eq (by rw [handOn_trunk]; rfl)).settled, ?_, fun hn => ?_⟩
      · rw [unchangedBut_iff]
        simp
      · rintro ⟨n, k, stay, rfl⟩
        simp [handOn]
      · rw [handOn_other hn]
        simp
  · have he : exec .requestTake s = done (takeBroadcast (headTaken s fs) f) := by
      rw [exec_requestTake hw hr hi, if_pos (by simp [hs, needsReply, hd, controller_eq]), takeFrame_request _ hk, controller_eq, if_pos hd]
    rw [takeBroadcast_eq] at he
    rcases hp : parseRequest f.body with _ | r
    · rw [hp] at he
      obtain ⟨t, h1, h2, h3⟩ := trunkTaken (x := { s.trunk with requests := fs }) he rfl
      exact ⟨t, h1, h2, nofun, fun _ => h3⟩
    · rw [hp] at he
      by_cases hb : broadcastable r = true ∧ phaseAnswer s.startup.phase r = none
      · simp only [hb, and_self, if_true] at he
        obtain ⟨t, h1, h2, h3⟩ := trunkTaken (x := { s.trunk with
          requests := fs, inHand := some { request := r, tag := f.tag, unicast := false } }) he rfl
        refine ⟨t, h1, h2, ?_, fun h => ?_⟩
        · rintro r' hr' - -
          cases hr'
          exact h3
        · exfalso
          rcases h r rfl with hcode | ⟨a, ha⟩
          · have := (broadcastable_iff r).1 hb.1
            tauto
          · exact (phaseAnswer_none_iff hw r).1 hb.2 a ha
      · simp only [hb, if_false] at he
        obtain ⟨t, h1, h2, h3⟩ := trunkTaken (x := { s.trunk with requests := fs }) he rfl
        refine ⟨t, h1, h2, ?_, fun _ => h3⟩
        rintro r' hr' hcode haway
        cases hr'
        exact absurd ⟨(broadcastable_iff r).2 hcode, (phaseAnswer_none_iff hw r).2 haway⟩ hb
  · rintro s ⟨req, tag, uni⟩ line addr chars ⟨hw, hr⟩ huni rfl
    obtain rfl : uni = false := huni
    have he : exec .nodePassDown s = done (answerRequest (passDown s line addr chars) (.done [])) := by
      simp [exec, execNodePassDown, hr, hw]
    have hin : (passDown s line addr chars).trunk.inHand =
        some { request := .passDown line addr chars, tag := tag, unicast := false } := by simpa using hr
    have htrunk : ∀ x, trunkIs (passDown s line addr chars) x →
        trunkIs (settle (answerRequest (passDown s line addr chars) (.done []))) { x with inHand := none } := fun x hx => by
      have := (hx.thenAnswered hin (.done [])).settled
      simpa [answeredTrunk, replyTo] using this
    have quiet : passDown s line addr chars = s →
        unchangedBut [.trunk] s (settle (answerRequest (passDown s line addr chars) (.done []))) ∧
          trunkIs (settle (answerRequest (passDown s line addr chars) (.done []))) { s.trunk with inHand := none } := fun h => by
      refine ⟨unchangedBut.settled ?_, htrunk _ (trunkIs_of_eq (by rw [h]))⟩
      rw [unchangedBut_iff, h]
      simp
    refine ⟨_, he, unchangedBut.settled ?_, ?_, fun h => quiet (passDown_discarded h), fun n hl ha hc => ⟨fun h => ?_, fun hm hd => ?_⟩⟩
    · rw [unchangedBut_iff]
      simp
    · rw [settle_trunk, answerRequest_some _ _ _ hin]
      rfl
    · refine quiet ?_
      rw [passDown_node hl ha hc]
      rcases h with h | h
      · simp [queueCommand, passTaken, h]
      · exact queueCommand_unused s n _ h
    · have hq := queueCommand_queued s (c := .pass chars) hd (by simp [passTaken, hm]) rfl
      rw [← passDown_node hl ha hc] at hq
      have hlines : (settle (answerRequest (passDown s line addr chars) (.done []))).lines =
          linesQueued s n (.pass chars) := by
        simp [hq.lines]
      have hline : lineOf (settle (answerRequest (passDown s line addr chars) (.done []))) n.line =
          lineQueued (lineOf s n.line) n.addr (.pass chars) := by
        rw [lineOf_of_linesQueued hlines, if_pos rfl]
      obtain ⟨hpending, hfresh, hplace⟩ := lineQueued_pass (lineOf s n.line) n.addr chars
      refine ⟨hlines, ?_, ?_, ?_, ?_, ?_, htrunk _ (trunkIs_of_eq hq.trunk)⟩
      · simpa only [nodeOf, hline] using hpending
      · simpa only [nodeOf, hline] using hfresh
      · simpa only [nodeOf, hline] using hplace
      · simpa only [endedOn, settle_frame, answerRequest_frame] using hq.ended
      · have hrec := hq.records (appendsAll_nil rfl) rfl
        exact (hrec.of_journal (by simp)).settled

end Sys2Proof.Machine
end

section
/-!
ISSUE judged (06_issue_and_supersession.md, R104 to R106): the tests in order, and the context that takes it.
-/

namespace Sys2Proof.Machine

/-! ### Test 1: the fields (R105) -/

theorem nodeByte_eq (b : Byte) : nodeByte? b = if b.toNat < 128 then some (nodeNumbered b) else none := by
  have hbit : b.getLsbD 7 = decide (128 ≤ b.toNat) := by
    have := BitVec.msb_eq_decide b
    rwa [BitVec.msb_eq_getLsbD_last] at this
  have hn : b.toNat < 128 → nodeOfByte b = nodeNumbered b := fun h => by
    have h4 : b.toNat / 32 < 4 := by omega
    simp [nodeOfByte, nodeNumbered, Fin.ext_iff, Nat.shiftRight_eq_div_pow, Nat.mod_eq_of_lt h4]
  unfold nodeByte?
  rw [hbit]
  by_cases h : b.toNat < 128
  · simp [h, hn h]
  · simp [h, Nat.not_lt.1 h]

theorem duplicateOf_eq (b : Byte) : duplicateOf b = if b = 0 ∨ b = 1 then some (decide (b = 1)) else none := by
  unfold duplicateOf
  split
  · next h =>
    obtain rfl : b = 0 := by bv_omega
    rfl
  · next h =>
    obtain rfl : b = 1 := by bv_omega
    rfl
  · next h0 h1 =>
    have hb : ¬ (b = 0 ∨ b = 1) := by
      rintro (rfl | rfl)
      · exact h0 rfl
      · exact h1 rfl
    rw [if_neg hb]

/-- A stay's class, kind and room in range, by the class's code. -/
def stayGood (kind : Byte) (stay : Stay) : Prop :=
  1 ≤ stay.cls.toNat ∧ stay.cls.toNat ≤ 5 ∧ (stay.cls = 2 ∨ stay.cls = 3 → stay.room.toNat < 32) ∧
    (stay.cls = 4 ∨ stay.cls = 5 → stay.room = 0) ∧ (stay.cls ≠ 1 → kind = 0)

theorem stayInRange_iff {kind : Byte} (hk : kind = 0 ∨ kind = 1) (stay : Stay) :
    (∃ c, classOfCode stay.cls = some c ∧ stayInRange c (decide (kind = 1)) stay = true) ↔ stayGood kind stay := by
  have hkind : ¬ kind = 1#8 ↔ kind = 0#8 := by
    rcases hk with rfl | rfl <;> decide
  unfold stayGood classOfCode
  split
  · next h =>
    have hc : stay.cls = 1 := by bv_omega
    simp [hc, stayInRange]
  · next h =>
    have hc : stay.cls = 2 := by bv_omega
    simp [hc, stayInRange, hkind, and_comm]
  · next h =>
    have hc : stay.cls = 3 := by bv_omega
    simp [hc, stayInRange, hkind, and_comm]
  · next h =>
    have hc : stay.cls = 4 := by bv_omega
    simp [hc, stayInRange, hkind, and_comm]
  · next h =>
    have hc : stay.cls = 5 := by bv_omega
    simp [hc, stayInRange, hkind, and_comm]
  · next h1 h2 h3 h4 h5 =>
    have hno : ¬ (1 ≤ stay.cls.toNat ∧ stay.cls.toNat ≤ 5) := by
      have h1 : ¬ stay.cls.toNat = 1 := h1
      have h2 : ¬ stay.cls.toNat = 2 := h2
      have h3 : ¬ stay.cls.toNat = 3 := h3
      have h4 : ¬ stay.cls.toNat = 4 := h4
      have h5 : ¬ stay.cls.toNat = 5 := h5
      omega
    simp only [reduceCtorEq, false_and, exists_false, false_iff]
    tauto

/-- Test 1 passes exactly on an ISSUE in range. -/
theorem issueForm_eq (nb kb : Byte) (stay : Stay) :
    (issueInRange nb kb stay → issueForm nb kb stay = some (nodeNumbered nb, decide (kb = 1))) ∧
      (¬ issueInRange nb kb stay → issueForm nb kb stay = none) := by
  have hgood : issueInRange nb kb stay ↔ nb.toNat < 128 ∧ (kb = 0 ∨ kb = 1) ∧ stayGood kb stay := Iff.rfl
  unfold issueForm
  rw [nodeByte_eq, duplicateOf_eq, hgood]
  by_cases hn : nb.toNat < 128
  · by_cases hk : kb = 0 ∨ kb = 1
    · simp only [hn, hk, if_true, true_and, ← stayInRange_iff hk]
      rcases classOfCode stay.cls with _ | c
      · simp
      · cases stayInRange c (decide (kb = 1)) stay <;> simp
    · simp only [hn, hk, if_true, if_false, false_and, and_false, not_false_eq_true, true_implies, false_implies, true_and]
  · simp [hn]

/-! ### Tests 2 and 5 (R104, R105) -/

theorem encoderReady_iff (s : State) (n : Node) :
    encoderReady s n = true ↔
      (doorOf s n).kind = .encoder ∧ (lineOf s n.line).mode = .decide ∧ (nodeOf s n).silent = false ∧
        (nodeOf s n).faulty ≠ some true := by
  simp [encoderReady, and_assoc]

/-- A context open for the node, or for the guest room. -/
def contextTaken (s : State) (n : Node) (stay : Stay) : Prop :=
  ∃ k, (ctxOf s k).state ≠ .free ∧
    ((ctxOf s k).node = n ∨ (stay.cls = 1 ∧ (ctxOf s k).stay.cls = 1 ∧ (ctxOf s k).stay.room = stay.room))

theorem contextTaken_iff (s : State) (n : Node) (stay : Stay) :
    contextTaken s n stay ↔
      ((ctxOfNode s n).isSome || (stay.cls = 1 && (ctxOfRoom s stay.room).isSome)) = true := by
  simp only [contextTaken, ctxOfNode, ctxOfRoom, Bool.or_eq_true, Bool.and_eq_true, List.find?_isSome, List.mem_finRange,
    true_and, isOpen, isGuest, decide_eq_true_eq]
  constructor
  · rintro ⟨k, ho, hn | ⟨hg, hc, hr⟩⟩
    · exact .inl ⟨k, ho, hn⟩
    · exact .inr ⟨hg, k, ⟨ho, hc⟩, hr⟩
  · rintro (⟨k, ho, hn⟩ | ⟨hg, k, ⟨ho, hc⟩, hr⟩)
    · exact ⟨k, ho, .inl hn⟩
    · exact ⟨k, ho, .inr ⟨hg, hc, hr⟩⟩

theorem freeCtx_none {s : State} (h : ∀ k, (ctxOf s k).state ≠ .free) : freeCtx s = none := by
  simpa [freeCtx, isOpen] using h

theorem freeCtx_some {s : State} {k : Fin 2} (h : (ctxOf s k).state = .free) (hlow : ∀ j, j < k → (ctxOf s j).state ≠ .free) :
    freeCtx s = some k := by
  rw [freeCtx, find?_finRange]
  refine ⟨by simp [isOpen, h], fun j hj => by simpa [isOpen] using hlow j hj⟩

theorem ctxForIssue_none {s : State} {n : Node} {stay : Stay}
    (h : contextTaken s n stay ∨ ∀ k, (ctxOf s k).state ≠ .free) : ctxForIssue s n stay = none := by
  unfold ctxForIssue
  split
  · rfl
  · next hf =>
    rcases h with h | h
    · exact absurd ((contextTaken_iff s n stay).1 h) hf
    · exact freeCtx_none h

theorem ctxForIssue_some {s : State} {n : Node} {stay : Stay} {k : Fin 2} (ht : ¬ contextTaken s n stay)
    (h : (ctxOf s k).state = .free) (hlow : ∀ j, j < k → (ctxOf s j).state ≠ .free) : ctxForIssue s n stay = some k := by
  rw [ctxForIssue, if_neg fun hf => ht ((contextTaken_iff s n stay).2 hf), freeCtx_some h hlow]


/-! ### The judgement (R105, R106) -/

/-- The part with the lowest FREE context given to an issue and the room of a GUEST's marked (R106). -/
def contextGiven (s : State) (k : Fin 2) (c : IssueCtx) : State := markRoom (setCtx s k c) c k

theorem contextGiven_store (s : State) (k : Fin 2) (c : IssueCtx) :
    (c.stay.cls ≠ 1 → (contextGiven s k c).store = s.store) ∧
      ∀ i, c.stay.cls = 1 → findRoom s c.stay.room = some i →
        (contextGiven s k c).store = { s.store with dyns := put s.store.dyns i { dynOf s i with marker := some k } } := by
  refine ⟨fun hc => ?_, fun i hc hi => ?_⟩
  · have hg : isGuest c = false := decide_eq_false hc
    have hnone : ctxRoom (setCtx s k c) c = none := by simp [ctxRoom, hg]
    simp [contextGiven, markRoom, hnone]
  · have hroom : ctxRoom (setCtx s k c) c = some i := by
      have : findRoom (setCtx s k c) c.stay.room = some i := hi
      simp [ctxRoom, isGuest, hc, this]
    simp only [contextGiven, markRoom, hroom, setDyn, State.withStore_store]
    rfl

@[simp] theorem contextGiven_frame (s : State) (k : Fin 2) (c : IssueCtx) :
    (contextGiven s k c).pending = s.pending ∧ (contextGiven s k c).time = s.time ∧
    (contextGiven s k c).lines = s.lines ∧ (contextGiven s k c).queue = s.queue ∧
    (contextGiven s k c).tracker = s.tracker ∧ (contextGiven s k c).override = s.override ∧
    (contextGiven s k c).minibar = s.minibar ∧ (contextGiven s k c).port = s.port ∧
    (contextGiven s k c).loader = s.loader ∧ (contextGiven s k c).pruner = s.pruner ∧
    (contextGiven s k c).journal = s.journal ∧ (contextGiven s k c).trunk = s.trunk ∧
    (contextGiven s k c).startup = s.startup ∧ (contextGiven s k c).pins = s.pins ∧
    (contextGiven s k c).store.doors = s.store.doors ∧
    (contextGiven s k c).issue = { s.issue with ctxs := put s.issue.ctxs k c } := by
  have hset : (setCtx s k c).issue = { s.issue with ctxs := put s.issue.ctxs k c } := rfl
  simp only [contextGiven, markRoom]
  split <;> simp [setDyn, hset]

theorem contextGiven_door (s : State) (k : Fin 2) (c : IssueCtx) (n : Node) : doorOf (contextGiven s k c) n = doorOf s n := by
  simp [doorOf, doorAt]

/-- An issue that passes every test, where PREPARE replaces no session's command (R42, R106). -/
theorem acceptIssue_eq {s : State} {n : Node} {tag : Byte} {stay : Stay} (k : Fin 2) (dup : Bool)
    (hd : configured (doorOf s n) = true)
    (hp : ∀ c, (nodeOf s n).command = some c →
      isSessionCommand c = false ∨ flightFate (lineOf s n.line) n.addr = some .withdrawn) :
    acceptIssue s k n dup tag stay =
      answerRequest
        (arm ((contextGiven s k
            { IssueCtx.free with state := .awaitBlank, node := n, tag := tag, duplicate := dup, stay := stay }).withLines
            (linesQueued s n .prepare)) n .issueTimeout Config.awaitBlankTicks)
        (.accepted (byteOf k.val)) := by
  obtain ⟨c, hc⟩ : ∃ c, c = { IssueCtx.free with
    state := .awaitBlank, node := n, tag := tag, duplicate := dup, stay := stay } := ⟨_, rfl⟩
  have hline : lineOf (contextGiven s k c) = lineOf s := by funext l; simp [lineOf]
  have hqueued : queueCommand (contextGiven s k c) n .prepare = (contextGiven s k c).withLines (linesQueued s n .prepare) := by
    rw [queueCommand_plain (contextGiven s k c) n .prepare (by rw [contextGiven_door]; exact hd) rfl
      (by simpa only [nodeOf, hline] using hp)]
    simp [linesQueued, hline]
  have hctx : ctxOf (setCtx s k c) k = c := by simp [ctxOf_setCtx]
  unfold acceptIssue
  dsimp only
  rw [← hc, hctx, ← hqueued]
  rfl

/-- A judgement that fails a test replies and changes nothing else (R105). -/
theorem issueRefused {s : State} {r : RequestInHand} {nb kb : Byte} {stay : Stay} {a : Answer} (hop : opFor s .judge r)
    (hr : r.request = .issue nb kb stay) (hj : judgeIssue (setInHand s none) nb kb stay = .error a) :
    ∃ t, exec (.issue .complete) s = .next t ∧ unchangedBut [.port, .trunk] s t ∧ t.port.inHand = none ∧
      answers s t r a := by
  obtain ⟨req, tag, uni⟩ := r
  subst hr
  have hin : (setInHand s none).trunk.inHand = some { request := .issue nb kb stay, tag := tag, unicast := uni } := hop.2
  have hc : completeIssue (setInHand s none) = answerRequest (setInHand s none) a := by
    simp only [completeIssue, hin, hj]
  refine ⟨_, runForm_complete (grant := grantIssue selJudge) (finishOp_eq (eff := effJudge) hop.1 rfl), ?_, ?_, ?_⟩
  · rw [hc]
    exact unchangedBut.settled (by rw [unchangedBut_iff]; simp)
  · rw [hc]
    simp [setInHand]
  · rw [hc]
    have htr : trunkIs (setInHand s none) s.trunk := trunkIs_of_eq rfl
    exact trunkIs.settled (htr.answered hop.2 a)

/-- Settles O26: `judgeIssue` fails at the first test that the statement names, and else takes the lowest FREE context. -/
theorem issueIsJudged : Obligations.IssueIsJudged := by
  intro s r nb kb stay hop hr n good ready guest held vacant taken refuses
  obtain ⟨hform, hbad⟩ := issueForm_eq nb kb stay
  have hready : encoderReady (setInHand s none) n = true ↔ ready := encoderReady_iff s n
  have hvacant : ((findRoom s stay.room).map fun i => (dynOf (setInHand s none) i).occupied) = some false ↔ vacant := by
    simp only [Option.map_eq_some_iff]
    rfl
  have judged : good → ready →
      judgeIssue (setInHand s none) nb kb stay =
        if guest ∧ findRoom s stay.room = none then .error (.refused .room)
        else if guest ∧ decide (kb = 1) = true ∧
            ((findRoom s stay.room).map fun i => (dynOf (setInHand s none) i).occupied) = some false then
          .error (.refused .vacant)
        else
          match ctxForIssue (setInHand s none) n stay with
          | none => .error .busy
          | some k => .ok (k, n, decide (kb = 1)) := fun hg hrd => by
    rw [judgeIssue, hform hg]
    dsimp only
    rw [hready.2 hrd]
    rfl
  have passes : good → ready → (guest → held ∧ (kb = 1 → ¬ vacant)) →
      judgeIssue (setInHand s none) nb kb stay =
        match ctxForIssue (setInHand s none) n stay with
        | none => .error .busy
        | some k => .ok (k, n, decide (kb = 1)) := fun hg hrd hrest => by
    have h1 : ¬ (guest ∧ findRoom s stay.room = none) := fun h => (hrest h.1).1 h.2
    have h2 : ¬ (guest ∧ decide (kb = 1) = true ∧
        ((findRoom s stay.room).map fun i => (dynOf (setInHand s none) i).occupied) = some false) := fun h =>
      (hrest h.1).2 (by simpa using h.2.1) (hvacant.1 h.2.2)
    rw [judged hg hrd, if_neg h1, if_neg h2]
  refine ⟨fun hg => issueRefused hop hr ?_, fun hg hrd => issueRefused hop hr ?_, fun hg hrd hgu hh => issueRefused hop hr ?_,
    fun hg hrd hgu hh hk hv => issueRefused hop hr ?_, fun hg hrd hrest ht => issueRefused hop hr ?_,
    fun hg hrd hrest ht hp k hfree hlow => ?_⟩
  · simp only [judgeIssue, hbad hg]
  · have : encoderReady (setInHand s none) n = false := Bool.eq_false_iff.2 fun h => hrd (hready.1 h)
    simp [judgeIssue, hform hg, this, n]
  · have hnone : findRoom s stay.room = none := by simpa [held] using hh
    rw [judged hg hrd, if_pos ⟨hgu, hnone⟩]
  · have h1 : ¬ (guest ∧ findRoom s stay.room = none) := fun h => hh h.2
    rw [judged hg hrd, if_neg h1, if_pos ⟨hgu, by simpa using hk, hvacant.2 hv⟩]
  · rw [passes hg hrd hrest, ctxForIssue_none (s := setInHand s none) ht]
  · have hj : judgeIssue (setInHand s none) nb kb stay = .ok (k, n, decide (kb = 1)) := by
      rw [passes hg hrd hrest, ctxForIssue_some (s := setInHand s none) ht hfree hlow]
    obtain ⟨req, tag, uni⟩ := r
    subst hr
    have hin : (setInHand s none).trunk.inHand = some { request := .issue nb kb stay, tag := tag, unicast := uni } := hop.2
    obtain ⟨c, hc⟩ : ∃ c, c = { IssueCtx.free with
      state := .awaitBlank, node := n, tag := tag, duplicate := decide (kb = 1), stay := stay } := ⟨_, rfl⟩
    obtain ⟨u, hu⟩ : ∃ u, u = arm ((contextGiven (setInHand s none) k c).withLines (linesQueued s n .prepare)) n .issueTimeout
        Config.awaitBlankTicks := ⟨_, rfl⟩
    have hdone : completeIssue (setInHand s none) = answerRequest u (.accepted (byteOf k.val)) := by
      have hcfg : configured (doorOf (setInHand s none) n) = true := by
        have : (doorOf (setInHand s none) n).kind = .encoder := hrd.1
        simp [configured, this]
      have hacc := acceptIssue_eq (s := setInHand s none) (tag := tag) (stay := stay) k (decide (kb = 1)) hcfg hp
      simp only [completeIssue, hin, hj]
      rw [hacc, ← hc, hu]
      rfl
    have hustore : u.store = (contextGiven (setInHand s none) k c).store := by simp [hu]
    obtain ⟨hother, hguest⟩ := contextGiven_store (setInHand s none) k c
    have hcls : c.stay = stay := by rw [hc]
    rw [hcls] at hother hguest
    have hexec : exec (.issue .complete) s = .next (settle (completeIssue (setInHand s none))) :=
      runForm_complete (grant := grantIssue selJudge) (finishOp_eq (eff := effJudge) hop.1 rfl)
    have hlines : (settle (answerRequest u (.accepted (byteOf k.val)))).lines = linesQueued s n .prepare := by simp [hu]
    rw [hdone] at hexec
    refine ⟨_, hexec, unchangedBut.settled ?_, ?_, ?_, fun hg => ?_, fun i hg hi => ?_, hlines, nodeOf_linesQueued hlines rfl,
      timeoutArmed.settled ?_, trunkIs.settled ?_⟩
    · rw [unchangedBut_iff]
      simp [hu]
    · simp [hu, setInHand]
    · simp [hu, hc]
    · simp only [settle_frame, answerRequest_frame, hustore]
      exact hother hg
    · simp only [settle_frame, answerRequest_frame, hustore]
      exact hguest i hg hi
    · have hkind : (doorOf ((contextGiven (setInHand s none) k c).withLines (linesQueued s n .prepare)) n).kind = .encoder := by
        have hcongr := doorOf_congr (s := contextGiven (setInHand s none) k c)
          (t := (contextGiven (setInHand s none) k c).withLines (linesQueued s n .prepare)) rfl rfl n
        rw [hcongr, contextGiven_door]
        exact hrd.1
      have harmed := arm_timeoutArmed (b := s) (ticks := Config.awaitBlankTicks) (by simp) hkind (by decide) (by decide)
      have hticks : Config.awaitBlankTicks = 3000 := rfl
      rw [← hu, hticks] at harmed
      simpa only [timeoutArmed, answerRequest_frame] using harmed
    · have htr : trunkIs u s.trunk := trunkIs_of_eq (by simp [hu])
      exact htr.answered hop.2 _

end Sys2Proof.Machine
end

section
/-!
A decision that refuses (05_admission.md, R73 to R88): which stage a reason comes from, the ENTRY record, and REFUSE queued.
-/

namespace Sys2Proof.Machine

/-! ### Reasons and stages (R74 to R85) -/

/-- The reasons that stages 8 to 10 give once the card's room has been found. -/
def lateReason (r : Reason) : Prop :=
  r = .vacant ∨ r = .genOld ∨ r = .genFuture ∨ r = .privacy ∨ r = .option ∨ r = .capped ∨ r = .inUse

theorem failIf_some {b : Bool} {r x : Reason} (h : failIf b r = some x) : b = true ∧ x = r := by
  unfold failIf at h
  split at h
  · next hb => cases h; exact ⟨hb, rfl⟩
  · cases h

/-- What holds of the reason of either test holds of that of the first to fail. -/
theorem reason_orElse {a b : Option Reason} {P : Reason → Prop} (ha : ∀ r, a = some r → P r) (hb : ∀ r, b = some r → P r) :
    ∀ r, (a <|> b) = some r → P r := by
  intro r h
  rcases a with _ | x
  · exact hb r h
  · exact ha r h

/-- A reason of stages 2 to 7: neither MISREAD nor one of a later stage. -/
def middleReason (r : Reason) : Prop := r ≠ .misread ∧ ¬ lateReason r

theorem failIf_middle {b : Bool} {x : Reason} (hx : middleReason x) : ∀ r, failIf b x = some r → middleReason r := by
  intro r h
  rw [(failIf_some h).2]
  exact hx

theorem stageClass_middle (c : Option CardClass) (d : DoorEntry) : ∀ r, stageClass c d = some r → middleReason r := by
  intro r h
  unfold stageClass at h
  split at h
  · cases h; simp [middleReason, lateReason]
  · exact failIf_middle (by simp [middleReason, lateReason]) r h

theorem stageTime_middle (s : State) (c : CardClass) (g : Grant) (t : Minute) :
    ∀ r, stageTime s c g t = some r → middleReason r := by
  intro r h
  unfold stageTime at h
  generalize (if c = .guest then (configOf s).grace.toNat else 0) = grace at h
  dsimp only at h
  repeat' split at h
  · cases h; simp [middleReason, lateReason]
  · cases h; simp [middleReason, lateReason]
  · cases h

theorem stagePlace_middle (c : CardClass) (g : Grant) (d : DoorEntry) : ∀ r, stagePlace c g d = some r → middleReason r := by
  have zone : ∀ r, failIf (!inZone g d) .zone = some r → middleReason r := failIf_middle (by simp [middleReason, lateReason])
  intro r h
  cases c
  case guest =>
    simp only [stagePlace] at h
    split at h
    · exact zone r h
    · exact failIf_middle (by simp [middleReason, lateReason]) r h
  case emergency => cases h
  all_goals exact zone r h

theorem stageHours_middle (s : State) (c : CardClass) (g : Grant) (d : DoorEntry) (t : Minute) :
    ∀ r, stageHours s c g d t = some r → middleReason r := by
  have hours : ∀ {b} r, failIf b .hours = some r → middleReason r := failIf_middle (by simp [middleReason, lateReason])
  intro r h
  cases c
  case guest =>
    simp only [stageHours] at h
    split at h
    · exact hours r h
    · cases h
  case master => cases h
  case emergency => cases h
  all_goals exact hours r h

/-- Stages 1 to 7: MISREAD exactly of a card that does not verify, and no reason of a later stage (R75 to R82). -/
theorem earlyStages_reason {s : State} {p : Presentation} {d : DoorEntry} {r : Reason} (h : earlyStages s p d = some r) :
    ¬ lateReason r ∧ (r = .misread ↔ verifies (configOf s).siteCode p.grant = false) := by
  rcases hv : verifies (configOf s).siteCode p.grant with _ | _
  · have hr : earlyStages s p d = some .misread := by simp [earlyStages, stageCheck, failIf, hv]
    rw [hr] at h
    cases h
    simp [lateReason]
  · have hcheck : stageCheck s p.grant = none := by simp [stageCheck, failIf, hv]
    have middle : middleReason r := by
      unfold earlyStages at h
      dsimp only at h
      rw [hcheck] at h
      refine reason_orElse (failIf_middle (by simp [middleReason, lateReason]))
        (reason_orElse (stageClass_middle _ _) fun x hx => ?_) r h
      obtain ⟨c, -, hx⟩ := Option.bind_eq_some_iff.1 hx
      exact reason_orElse (failIf_middle (by simp [middleReason, lateReason]))
        (reason_orElse (stageTime_middle _ _ _ _) (reason_orElse (stagePlace_middle _ _ _) (stageHours_middle _ _ _ _ _))) x hx
    exact ⟨middle.2, by simpa using middle.1⟩

/-- Stages 8 to 10: ROOM of a GUEST whose room no slot holds, else a late reason of a card whose room is found (R83 to R85). -/
theorem stageRoom_reason {s : State} {c : CardClass} {g : Grant} {r : Reason} (h : stageRoom s c g = some r) :
    c = .guest ∧ (findRoom s g.room = none ∧ r = .room ∨ lateReason r) := by
  unfold stageRoom at h
  split at h
  · next hc =>
    refine ⟨hc, ?_⟩
    split at h
    · next hn => cases h; exact .inl ⟨hn, rfl⟩
    · right
      dsimp only at h
      repeat' split at h
      · cases h; simp [lateReason]
      · cases h
      · cases h; simp [lateReason]
      · cases h; simp [lateReason]
  · cases h

theorem stagePrivacy_reason {s : State} {c : CardClass} {g : Grant} {d : DoorEntry} {r : Reason}
    (h : stagePrivacy s c g d = some r) : lateReason r := by
  unfold stagePrivacy at h
  split at h
  · rw [(failIf_some h).2]; simp [lateReason]
  · rw [(failIf_some h).2]; simp [lateReason]
  all_goals cases h

theorem judgeGuest_reason {s : State} {n : Node} {g : Grant} {r : Reason} (h : judgeGuest s n g = .error r) : lateReason r := by
  unfold judgeGuest at h
  repeat' split at h
  all_goals cases h
  all_goals simp [lateReason]

theorem judgeService_reason {s : State} {n : Node} {r : Reason} (h : judgeService s n = .error r) : lateReason r := by
  unfold judgeService at h
  repeat' split at h
  all_goals cases h
  all_goals simp [lateReason]

theorem stageMinibar_reason {s : State} {c : CardClass} {n : Node} {g : Grant} {d : DoorEntry} {r : Reason}
    (h : stageMinibar s c n g d = .error r) : lateReason r := by
  have mapped : ∀ {x : Except Reason MinibarGrant}, x.map some = .error r → x = .error r := fun {x} hx => by
    cases x <;> cases hx
    rfl
  unfold stageMinibar at h
  split at h
  · split at h
    · exact judgeGuest_reason (mapped h)
    · exact judgeService_reason (mapped h)
  · cases h

theorem lateStages_reason {s : State} {c : CardClass} {p : Presentation} {d : DoorEntry} {r : Reason}
    (h : lateStages s c p d = .refuse r) :
    (c = .guest ∧ findRoom s p.grant.room = none ∧ r = .room) ∨ lateReason r := by
  unfold lateStages at h
  split at h
  · next x hx =>
    cases h
    refine reason_orElse (P := fun r => (c = .guest ∧ findRoom s p.grant.room = none ∧ r = .room) ∨ lateReason r)
      (fun x hx => ?_) (fun x hx => .inr (stagePrivacy_reason hx)) _ hx
    obtain ⟨hc, hr⟩ := stageRoom_reason hx
    exact hr.imp (fun h => ⟨hc, h⟩) id
  · split at h
    · next x hx => cases h; exact .inr (stageMinibar_reason hx)
    · cases h

/-- Where a refusal comes from: an early stage; or, the early ones passed, a room no slot holds or a late stage. -/
theorem refusal_cases {s : State} {p : Presentation} {why : Reason} (h : decidePresentation s p = .refuse why) :
    stageRelease s (doorOf s p.node) = false ∧
      (earlyStages s p (doorOf s p.node) = some why ∨
        (earlyStages s p (doorOf s p.node) = none ∧
          ((classOfCode p.grant.cls = some .guest ∧ findRoom s p.grant.room = none ∧ why = .room) ∨ lateReason why ∨
            classOfCode p.grant.cls = none ∧ why = .cls))) := by
  unfold decidePresentation at h
  dsimp only at h
  split at h
  · cases h
  · next hr =>
    refine ⟨Bool.eq_false_iff.2 hr, ?_⟩
    split at h
    · next x _ hx => cases h; exact .inl hx
    · next c hx hc =>
      refine .inr ⟨hx, ?_⟩
      rcases lateStages_reason h with ⟨rfl, hn, hw⟩ | hl
      · exact .inl ⟨hc, hn, hw⟩
      · exact .inr (.inl hl)
    · next hx hc => cases h; exact .inr ⟨hx, .inr (.inr ⟨hc, rfl⟩)⟩

/-- A refusal is MISREAD exactly of a card that does not verify (R76). -/
theorem refusal_misread {s : State} {p : Presentation} {why : Reason} (h : decidePresentation s p = .refuse why) :
    why = .misread ↔ verifies (configOf s).siteCode p.grant = false := by
  obtain ⟨-, he | ⟨he, hlate⟩⟩ := refusal_cases h
  · exact (earlyStages_reason he).2
  · have hv : verifies (configOf s).siteCode p.grant = true := by
      by_contra hv
      have hm : earlyStages s p (doorOf s p.node) = some .misread := by simp [earlyStages, stageCheck, failIf, hv]
      rw [hm] at he
      cases he
    have hw : why ≠ .misread := by
      rintro rfl
      rcases hlate with ⟨-, -, h⟩ | h | ⟨-, h⟩
      · cases h
      · simp [lateReason] at h
      · cases h
    simp [hv, hw]

theorem guest_of_code (b : Byte) : classOfCode b = some .guest ↔ b = 1 := by
  unfold classOfCode
  constructor
  · intro h
    split at h
    · next hb => bv_omega
    all_goals cases h
  · rintro rfl
    rfl

/-- The detail of a refusal's record: the generations of a GUEST card refused by a late stage, its room found (R88). -/
theorem refusal_detail {s : State} {p : Presentation} {why : Reason} (h : decidePresentation s p = .refuse why) :
    (p.grant.cls ≠ 1 ∨ ¬ lateReason why → entryDetail s p = .absent) ∧
      (p.grant.cls = 1 → ∀ i, findRoom s p.grant.room = some i → lateReason why →
        entryDetail s p = .entry p.grant.gen (dynOf s i).accepted) := by
  obtain ⟨hrelease, hcases⟩ := refusal_cases h
  refine ⟨fun hx => ?_, fun hc i hi hl => ?_⟩
  · rcases hx with hc | hl
    · have hg : classOfCode p.grant.cls ≠ some .guest := fun hg => hc ((guest_of_code _).1 hg)
      simp [entryDetail, hg]
    · rcases hcases with he | ⟨he, ⟨hg, hn, -⟩ | hl' | ⟨hg, -⟩⟩
      · simp [entryDetail, he]
      · simp [entryDetail, hn]
      · exact absurd hl' hl
      · simp [entryDetail, hg]
  · have he : earlyStages s p (doorOf s p.node) = none := by
      rcases hcases with he | ⟨he, -⟩
      · exact absurd hl (earlyStages_reason he).1
      · exact he
    simp [entryDetail, hrelease, (guest_of_code _).2 hc, he, hi]

/-! ### REFUSE queued (R42, R87) -/

/-- A command queued over a state whose lines, sessions, time and trunk are those of `s`. -/
theorem CommandQueued.over {s u t : State} {n : Node} {c : Command} (h : CommandQueued u n c t) (hl : u.lines = s.lines)
    (hi : u.issue = s.issue) (ht : u.time = s.time) (hk : u.trunk = s.trunk) :
    t.lines = linesQueued s n c ∧ endedOn s t n (replacedSession s n c) .encoderUnreachable ∧
      (∀ {rs}, appendsAll s u rs → appendsAll s t (rs ++ endRecords s (replacedSession s n c) .encoderUnreachable)) ∧
      t.trunk = { s.trunk with notices := noticesWith s (endNotices s (replacedSession s n c) .encoderUnreachable) } := by
  have hline : ∀ l, lineOf u l = lineOf s l := lineOf_eq_of_lines hl
  have hctx : ∀ k, ctxOf u k = ctxOf s k := fun k => by simp [ctxOf, hi]
  have hks : replacedSession u n c = replacedSession s n c := by
    simp only [replacedSession, nodeOf, hline, hctx, endable_congr hi]
  obtain ⟨hends, hrec, hnot⟩ := endings_congr hi (congrArg (·.clock) ht) (replacedSession s n c) .encoderUnreachable
  obtain ⟨-, hlines, ⟨hissue, htime⟩, hrecords, htrunk⟩ := h
  rw [hks] at hissue htime hrecords htrunk
  rw [hends] at hissue
  rw [hrec] at hrecords
  refine ⟨?_, ⟨hissue, ?_⟩, fun hrs => hrecords hrs (by rw [hk]), ?_⟩
  · rw [hlines, linesQueued, linesQueued, hl, hline]
  · rw [htime, ht]
  · rw [htrunk, hnot, hk]
    simp only [noticesWith, hk, ht]

theorem outlasts_refuse (old : Command) (why : Reason) : outlasts old (.refuse why) = true ↔ old = .holdOpen := by
  cases old <;> simp [outlasts]

theorem lineQueued_refuse (d : LineCtl) (a : Addr) (why : Reason) :
    (look (lineQueued d a (.refuse why)).nodes a).command =
      if (look d.nodes a).command = some .holdOpen then some .holdOpen else some (.refuse why) := by
  rw [lineQueued_pending]
  split
  · next h => simp [h]
  · next old h =>
    rw [h]
    simp only [outlasts_refuse, Option.some.injEq]
    split
    · next ho => rw [ho]
    · rfl

/-- Settles O12: the refusal's ENTRY is appended, and REFUSE queued over it where the line is in DECIDE. -/
theorem decisionRefusesPresentation : Obligations.DecisionRefusesPresentation := by
  intro s p why hop hv found queues ks
  obtain ⟨rec, hrec⟩ : ∃ rec, rec = entryRecord (setInHand s none) p (.refuse why) := ⟨_, rfl⟩
  obtain ⟨u, hu⟩ : ∃ u, u = appendRecord (setInHand s none) rec := ⟨_, rfl⟩
  have hverdict : decidePresentation (setInHand s none) p = .refuse why := hv
  have hdone : completeDecision (setInHand s none) p = queueIfDecide u p.node (.refuse why) := by
    unfold completeDecision
    rw [hverdict, hu, hrec]
    rfl
  have hexec : exec (.decision .complete) s = .next (settle (queueIfDecide u p.node (.refuse why))) := by
    rw [← hdone]
    exact runForm_complete (grant := grantDecision) (by simp [finishDecision, hop.1, hop.2])
  have hul : u.lines = s.lines ∧ u.issue = s.issue ∧ u.time = s.time ∧ u.trunk = s.trunk := by simp [hu]
  obtain ⟨hl, hi, ht, hk⟩ := hul
  have happend : appendsAll s u [rec] := hu ▸ appendsAll.record (appendsAll_nil rfl) rfl rec
  have hmode : (lineOf u p.node.line).mode = (lineOf s p.node.line).mode := by rw [lineOf_eq_of_lines hl]
  have hdoor : doorOf u p.node = doorOf s p.node := doorOf_congr (by simp [hu]) (by simp [hu]) _
  have left : (queueIfDecide u p.node (.refuse why)).lines = (if queues then linesQueued s p.node (.refuse why) else s.lines) ∧
      endedOn s (queueIfDecide u p.node (.refuse why)) p.node ks .encoderUnreachable ∧
      appendsAll s (queueIfDecide u p.node (.refuse why)) (rec :: endRecords s ks .encoderUnreachable) ∧
      (queueIfDecide u p.node (.refuse why)).trunk =
        { s.trunk with notices := noticesWith s (endNotices s ks .encoderUnreachable) } := by
    by_cases hq : queues
    · have hcfg : configured (doorOf u p.node) = true := by rw [hdoor]; simpa [configured] using hq.2
      have hqueued := queueCommand_queued u (c := .refuse why) hcfg rfl rfl
      have hcall : queueIfDecide u p.node (.refuse why) = queueCommand u p.node (.refuse why) := by
        rw [queueIfDecide, hmode, if_pos hq.1]
      obtain ⟨h1, h2, h3, h4⟩ := hqueued.over hl hi ht hk
      rw [hcall]
      simp only [ks, hq, if_true]
      exact ⟨h1, h2, h3 happend, h4⟩
    · have hcall : queueIfDecide u p.node (.refuse why) = u := by
        rw [queueIfDecide, hmode]
        split
        · next hm =>
          have hcfg : configured (doorOf u p.node) = false := by
            rw [hdoor]
            by_contra hcfg
            exact hq ⟨hm, by simpa [configured] using hcfg⟩
          exact queueCommand_unused _ _ _ hcfg
        · rfl
      rw [hcall]
      simp only [ks, hq, if_false]
      exact ⟨hl, ⟨by simp [hi, sessionsEnded], by simp [ht]⟩, happend, by simp [hk, noticesWith, endNotices]⟩
  obtain ⟨hlines, hended, hrecords, htrunk⟩ := left
  refine ⟨_, hexec, unchangedBut.settled ?_, ?_, ?_, fun hq => ?_, ?_, (trunkIs_of_eq htrunk).settled,
    entryDetail s p, ?_, fun hx => (refusal_detail hv).1 hx, fun hc i hi hf => (refusal_detail hv).2 hc i hi hf⟩
  · rw [unchangedBut_iff, queueIfDecide]
    split <;> simp [hu]
  · rw [queueIfDecide]
    split <;> simp [hu, setInHand]
  · simpa only [settle_frame] using hlines
  · rw [if_pos hq] at hlines
    have hline : lineOf (settle (queueIfDecide u p.node (.refuse why))) p.node.line =
        lineQueued (lineOf s p.node.line) p.node.addr (.refuse why) := by
      rw [lineOf_of_linesQueued (by simpa only [settle_frame] using hlines), if_pos rfl]
    rw [nodeOf, hline, lineQueued_refuse]
    rfl
  · simpa only [endedOn, settle_frame] using hended
  · have hm := refusal_misread hv
    have hok : ∀ {α : Type} (x : α), (if why = .misread then none else some x) =
        if verifies (configOf s).siteCode p.grant = true then some x else none := fun x => by
      rcases hver : verifies (configOf s).siteCode p.grant with _ | _
      · simp [hm.2 hver]
      · have : why ≠ .misread := fun h => by simp [hm.1 h] at hver
        simp [this]
    have hroom : (if why ≠ .misread ∧ p.grant.cls = 1 then some p.grant.room else none) =
        if (verifies (configOf s).siteCode p.grant && decide (classOfCode p.grant.cls = some .guest)) = true then
          some p.grant.room else none := by
      refine if_congr ?_ rfl rfl
      rw [Bool.and_eq_true, decide_eq_true_eq, guest_of_code, ne_eq, hm, Bool.not_eq_false]
    rw [hok, hok, hroom]
    have := hrecords.settled
    rw [hrec] at this
    exact this

end Sys2Proof.Machine
end

section
/-!
Entry into TRANSPARENT and HELD (03_door_lines.md, R49): the effects on the nodes of a line in turn, and the sessions they end.
-/

namespace Sys2Proof.Machine

/-! ### Several sessions ended in turn (R112 to R115) -/

theorem look_foldl_put {α : Type} {n : Nat} (f : Fin n → α) (ks : List (Fin n)) (v : Vector α n) (j : Fin n) :
    look (ks.foldl (fun v k => put v k (f k)) v) j = if j ∈ ks then f j else look v j := by
  induction ks generalizing v with
  | nil => simp
  | cons k ks ih =>
    rw [List.foldl_cons, ih]
    by_cases hj : j ∈ ks
    · simp [hj]
    · by_cases hk : k = j
      · subst hk; simp [hj]
      · simp [hj, Ne.symm hk, look_put_ne _ hk]

/-- A context whose session has ended. -/
def endedCtx (s : State) (why : FailReason) (k : Fin 2) : IssueCtx :=
  if (ctxOf s k).stay.cls = 1 then
    { ctxOf s k with outcome := some (.failed why (burns (ctxOf s k) why)), heldBlank := none }
  else .free

theorem ctxOf_sessionsEnded {s t : State} {ks : List (Fin 2)} {why : FailReason} (h : t.issue = sessionsEnded s ks why)
    (k : Fin 2) : ctxOf t k = if k ∈ ks then endedCtx s why k else ctxOf s k := by
  rw [ctxOf, h]
  exact look_foldl_put (endedCtx s why) ks s.issue.ctxs k

/-- One more session ended after others. -/
theorem sessionsEnded_snoc {s t : State} {ks : List (Fin 2)} {why : FailReason} (h : t.issue = sessionsEnded s ks why)
    {k : Fin 2} (hk : k ∉ ks) : sessionsEnded t [k] why = sessionsEnded s (ks ++ [k]) why := by
  have hctx : ctxOf t k = ctxOf s k := by rw [ctxOf_sessionsEnded h, if_neg hk]
  have hctxs : t.issue.ctxs = _ := congrArg IssueUnit.ctxs h
  have hwork : t.issue.work = _ := congrArg IssueUnit.work h
  unfold sessionsEnded at hctxs hwork ⊢
  dsimp only at hctxs hwork
  simp only [hctx, hctxs, hwork, List.foldl_append, List.foldl_cons, List.foldl_nil, IssueUnit.mk.injEq, true_and]
  rw [List.filter_append, List.filter_filter, List.filter_append, List.map_append, List.append_assoc]
  congr 1
  · refine List.filter_congr fun w _ => ?_
    simp [List.any_append, Bool.and_comm]
  · congr 1
    · refine List.filter_eq_self.2 fun w hw => ?_
      obtain ⟨j, -, rfl⟩ := List.mem_map.1 hw
      rfl
    · simp only [List.filter_cons, hctx, List.filter_nil]

theorem endRecords_append (s : State) (ks js : List (Fin 2)) (why : FailReason) :
    endRecords s (ks ++ js) why = endRecords s ks why ++ endRecords s js why := by
  simp [endRecords]

theorem endNotices_append (s : State) (ks js : List (Fin 2)) (why : FailReason) :
    endNotices s (ks ++ js) why = endNotices s ks why ++ endNotices s js why := by
  simp [endNotices]

/-- The sessions that can end on a node that none of the ended ones is on. -/
theorem endable_sessionsEnded {s t : State} {ks : List (Fin 2)} {why : FailReason} {n : Node}
    (h : t.issue = sessionsEnded s ks why) (hn : ∀ k ∈ ks, (ctxOf s k).node ≠ n) : endable t n = endable s n := by
  have hopen : ∀ k, (isOpen (ctxOf t k) && decide ((ctxOf t k).node = n)) =
      (isOpen (ctxOf s k) && decide ((ctxOf s k).node = n)) := fun k => by
    rw [ctxOf_sessionsEnded h]
    split
    · next hk =>
      have hne := hn k hk
      unfold endedCtx
      split
      · simp [hne]
      · simp [hne, isOpen, IssueCtx.free]
    · rfl
  have hctx : ctxOfNode t n = ctxOfNode s n := by simp only [ctxOfNode, hopen]
  rcases hc : ctxOfNode s n with _ | k
  · simp [endable, hctx, hc]
  · have hk : k ∉ ks := fun hk => hn k hk (ctxOfNode_some hc).2
    simp [endable, hctx, hc, ctxOf_sessionsEnded h, hk, List.filter_cons]

/-- The sessions that the entry effects on some nodes of a line end. -/
def lineSessions (s : State) (l : LineNo) (as : List Addr) : List (Fin 2) :=
  as.flatMap fun a => if (doorOf s { line := l, addr := a }).kind = .encoder then endable s { line := l, addr := a } else []

theorem sessionsOnLine_eq (s : State) (l : LineNo) : sessionsOnLine s l = lineSessions s l (List.finRange 32) := rfl

theorem node_of_lineSessions {s : State} {l : LineNo} {as : List Addr} {k : Fin 2} (h : k ∈ lineSessions s l as) :
    ∃ a ∈ as, (ctxOf s k).node = { line := l, addr := a } := by
  obtain ⟨a, ha, hk⟩ := List.mem_flatMap.1 h
  split at hk
  · exact ⟨a, ha, (ctxOfNode_some (mem_endable.1 hk).1).2⟩
  · cases hk

/-! ### One node (R49) -/

/-- The part of the entry effects that every kind of node has: no presentation waits, no command but HOLD_OPEN is pending, no
deadline runs. -/
def nodeQuieted (s : State) (n : Node) : State :=
  let s1 := unqueue s n
  cancelNode
    (if (nodeOf s1 n).command = some .holdOpen then s1
      else setLine s1 n.line (dropCommand (lineOf s1 n.line) n.addr .dropped)) n

theorem entryEffect_eq (s : State) (n : Node) :
    entryEffect s n =
      match (doorOf s n).kind with
      | .roomDoor => setTrack (nodeQuieted s n) n { trackOf s n with state := .unknown, contact := none }
      | .commonGate => setTrack (nodeQuieted s n) n { trackOf s n with state := .unknown, contact := none }
      | .minibar => addMinibarWork (nodeQuieted s n) (.forced (.lineMode n))
      | .encoder => endNodeSession (nodeQuieted s n) n .lineMode
      | .unused => nodeQuieted s n := by
  have hd : doorOf (nodeQuieted s n) n = doorOf s n := by
    unfold nodeQuieted
    exact doorOf_congr (by dsimp only; split <;> simp [unqueue]) (by dsimp only; split <;> simp [unqueue]) n
  have ht : trackOf (nodeQuieted s n) n = trackOf s n := by
    unfold nodeQuieted trackOf
    dsimp only
    split <;> simp [unqueue]
  rw [← hd, ← ht]
  rfl

@[simp] theorem nodeQuieted_frame (s : State) (n : Node) :
    (nodeQuieted s n).pending = s.pending ∧ (nodeQuieted s n).tracker = s.tracker ∧
    (nodeQuieted s n).override = s.override ∧ (nodeQuieted s n).issue = s.issue ∧
    (nodeQuieted s n).minibar = s.minibar ∧ (nodeQuieted s n).store = s.store ∧ (nodeQuieted s n).port = s.port ∧
    (nodeQuieted s n).loader = s.loader ∧ (nodeQuieted s n).pruner = s.pruner ∧
    (nodeQuieted s n).journal = s.journal ∧ (nodeQuieted s n).trunk = s.trunk ∧
    (nodeQuieted s n).startup = s.startup ∧ (nodeQuieted s n).pins = s.pins ∧
    (nodeQuieted s n).queue = s.queue.filter (fun p => !decide (p.node = n)) ∧
    (nodeQuieted s n).time = { s.time with deadlines := s.time.deadlines.filter fun d => !decide (d.node = n) } := by
  unfold nodeQuieted
  dsimp only
  split <;> simp [unqueue, cancelNode, setDeadlines]

/-- A line with a node's pending command gone, a HOLD_OPEN apart. -/
def lineQuieted (c : LineCtl) (a : Addr) : LineCtl :=
  if (look c.nodes a).command = some .holdOpen then c else dropCommand c a .dropped

theorem nodeQuieted_lines (s : State) (n : Node) :
    (nodeQuieted s n).lines = put s.lines n.line (lineQuieted (lineOf s n.line) n.addr) := by
  have hl : lineOf (unqueue s n) = lineOf s := rfl
  unfold nodeQuieted lineQuieted nodeOf
  dsimp only
  rw [hl]
  split
  · exact (put_look _ _).symm
  · rfl

theorem lineQuieted_node (c : LineCtl) (a b : Addr) :
    (b ≠ a → look (lineQuieted c a).nodes b = look c.nodes b) ∧
      (look (lineQuieted c a).nodes a).command = (if (look c.nodes a).command = some .holdOpen then some .holdOpen else none) ∧
      ((look c.nodes a).command ≠ some .holdOpen →
        (look (lineQuieted c a).nodes a).duty = false ∧ a ∉ (lineQuieted c a).fifo) ∧
      ∀ x ∈ (lineQuieted c a).fifo, x ∈ c.fifo := by
  unfold lineQuieted
  split
  · next h => simp [h]
  · next h =>
    refine ⟨fun hb => ?_, ?_, fun _ => ⟨?_, ?_⟩, fun x hx => (List.mem_filter.1 hx).1⟩
    · simp [dropCommand, LineCtl.withNode, look_put_ne _ (Ne.symm hb)]
    · simp [dropCommand, LineCtl.withNode]
    · simp [dropCommand, LineCtl.withNode]
    · simp [dropCommand]

/-- No session's command is pending at a node quieted. -/
theorem nodeQuieted_plain (s : State) (n : Node) (x : Command) (h : (nodeOf (nodeQuieted s n) n).command = some x) :
    isSessionCommand x = false := by
  have hline : lineOf (nodeQuieted s n) n.line = lineQuieted (lineOf s n.line) n.addr := by
    rw [lineOf, nodeQuieted_lines, look_put_same]
  rw [nodeOf, hline, (lineQuieted_node _ n.addr n.addr).2.1] at h
  split at h
  · cases h; rfl
  · cases h

/-- What the entry effects on one node leave. -/
structure NodeEntered (s : State) (n : Node) (t : State) : Prop where
  lines : t.lines = put s.lines n.line (lineQuieted (lineOf s n.line) n.addr)
  queue : t.queue = s.queue.filter fun p => !decide (p.node = n)
  time : t.time = { s.time with deadlines := s.time.deadlines.filter fun d => !decide (d.node = n) }
  track : ∀ m, trackOf t m =
    if m = n ∧ isDoor (doorOf s n) = true then { trackOf s m with state := .unknown, contact := none } else trackOf s m
  writes : t.tracker.writes = s.tracker.writes
  minibar : t.minibar = s.minibar ++ if (doorOf s n).kind = .minibar then [.forced (.lineMode n)] else []
  issue : t.issue = sessionsEnded s (if (doorOf s n).kind = .encoder then endable s n else []) .lineMode
  records : ∀ {b : State} {rs : List Record}, appendsAll b s rs → s.trunk.chain = b.trunk.chain →
    appendsAll b t (rs ++ endRecords s (if (doorOf s n).kind = .encoder then endable s n else []) .lineMode)
  trunk : t.trunk =
    { s.trunk with
      notices := noticesWith s (endNotices s (if (doorOf s n).kind = .encoder then endable s n else []) .lineMode) }
  loader : t.loader = s.loader
  store : t.store = s.store

theorem sessionsEnded_nil (s : State) (why : FailReason) : sessionsEnded s [] why = s.issue := by
  simp [sessionsEnded]

/-- Every kind of node but an encoder: the node is quieted, and the Door Tracker or the Minibar Engine told. -/
theorem NodeEntered.plain {s : State} {n : Node} {t : State} (hk : (doorOf s n).kind ≠ .encoder)
    (hlines : t.lines = (nodeQuieted s n).lines) (hqueue : t.queue = (nodeQuieted s n).queue)
    (htime : t.time = (nodeQuieted s n).time) (hissue : t.issue = s.issue) (hj : t.journal = s.journal)
    (htrunk : t.trunk = s.trunk) (hl : t.loader = s.loader) (hst : t.store = s.store)
    (hwrites : t.tracker.writes = s.tracker.writes)
    (htrack : ∀ m, trackOf t m =
      if m = n ∧ isDoor (doorOf s n) = true then { trackOf s m with state := .unknown, contact := none } else trackOf s m)
    (hminibar : t.minibar = s.minibar ++ if (doorOf s n).kind = .minibar then [.forced (.lineMode n)] else []) :
    NodeEntered s n t := by
  refine ⟨hlines.trans (nodeQuieted_lines s n), by simp [hqueue], by simp [htime], htrack, hwrites, hminibar, ?_,
    fun h _ => ?_, ?_, hl, hst⟩
  · rw [if_neg hk, sessionsEnded_nil, hissue]
  · simpa [hk, endRecords] using h.of_journal hj
  · simp [hk, endNotices, noticesWith, htrunk]

theorem entryEffect_entered (s : State) (n : Node) : NodeEntered s n (entryEffect s n) := by
  have doorTrack : ∀ m, isDoor (doorOf s n) = true →
      trackOf (setTrack (nodeQuieted s n) n { trackOf s n with state := .unknown, contact := none }) m =
        if m = n ∧ isDoor (doorOf s n) = true then { trackOf s m with state := .unknown, contact := none }
        else trackOf s m := fun m hd => by
    rw [trackOf_setTrack]
    by_cases hm : m = n
    · subst hm; simp [hd]
    · simp [hm, trackOf]
  have otherTrack : ∀ (t : State) m, isDoor (doorOf s n) = false → t.tracker = s.tracker →
      trackOf t m =
        if m = n ∧ isDoor (doorOf s n) = true then { trackOf s m with state := .unknown, contact := none }
        else trackOf s m := fun t m hd ht => by simp [hd, trackOf, ht]
  rw [entryEffect_eq]
  cases hk : (doorOf s n).kind
  case unused =>
    exact .plain (by simp [hk]) rfl rfl rfl (by simp) (by simp) (by simp) (by simp) (by simp) (by simp)
      (fun m => otherTrack _ m (by simp [isDoor, hk]) (by simp)) (by simp [hk])
  case minibar =>
    exact .plain (by simp [hk]) (by simp) (by simp) (by simp) (by simp) (by simp) (by simp) (by simp) (by simp) (by simp)
      (fun m => otherTrack _ m (by simp [isDoor, hk]) (by simp)) (by simp [hk, addMinibarWork])
  case encoder =>
    obtain ⟨hsame, hlines, ⟨hissue, htime⟩, hrecords, htrunk⟩ :=
      endNodeSession_ended (nodeQuieted s n) n (why := .lineMode) nofun
    have hi : (nodeQuieted s n).issue = s.issue := by simp
    have hclock : (nodeQuieted s n).time.clock = s.time.clock := by simp
    obtain ⟨hends, hrec, hnot⟩ := endings_congr hi hclock (endable s n) .lineMode
    rw [endable_congr hi] at hlines hissue htime hrecords htrunk
    rw [hends] at hissue
    rw [hrec] at hrecords
    rw [hnot] at htrunk
    refine ⟨?_, by simp, ?_, fun m => otherTrack _ m (by simp [isDoor, hk]) (by simp), by simp, by simp [hk], by simpa [hk] using hissue,
      fun h hc => ?_, ?_, by simp, by simp⟩
    · rw [hlines, linesWithdrawn_other (nodeQuieted_plain s n), ite_self, nodeQuieted_lines]
    · have hgone : ((nodeQuieted s n).time.deadlines.filter fun d => !(d.node == n && d.kind == .issueTimeout)) =
          (nodeQuieted s n).time.deadlines := by
        refine List.filter_eq_self.2 fun d hd => ?_
        have hd : d ∈ s.time.deadlines.filter fun d => !decide (d.node = n) := by simpa using hd
        have hn : d.node ≠ n := by simpa using (List.mem_filter.1 hd).2
        simp [hn]
      rw [htime, hgone, ite_self]
      simp
    · simpa [hk] using hrecords (h.of_journal (by simp)) (by simpa using hc)
    · rw [htrunk]
      simp [hk, noticesWith]
  all_goals
    exact .plain (by simp [hk]) (by simp) (by simp) (by simp) (by simp) (by simp) (by simp) (by simp) (by simp) (by simp)
      (fun m => doorTrack m (by simp [isDoor, hk])) (by simp [hk])

/-! ### The nodes of a line in turn (R49) -/

/-- What the entry effects on some nodes of a line leave. -/
structure Entered (s : State) (l : LineNo) (as : List Addr) (t : State) : Prop where
  queue : t.queue = s.queue.filter fun p => !decide (p.node.line = l ∧ p.node.addr ∈ as)
  time : t.time =
    { s.time with deadlines := s.time.deadlines.filter fun d => !decide (d.node.line = l ∧ d.node.addr ∈ as) }
  inside : ∀ a ∈ as,
    (look (lineOf t l).nodes a).command =
        (if (look (lineOf s l).nodes a).command = some .holdOpen then some .holdOpen else none) ∧
      ((look (lineOf s l).nodes a).command ≠ some .holdOpen →
        (look (lineOf t l).nodes a).duty = false ∧ a ∉ (lineOf t l).fifo)
  outside : ∀ a, a ∉ as → look (lineOf t l).nodes a = look (lineOf s l).nodes a
  others : linesBut l s t
  track : ∀ n, trackOf t n =
    if (n.line = l ∧ n.addr ∈ as) ∧ isDoor (doorOf s n) = true then { trackOf s n with state := .unknown, contact := none }
    else trackOf s n
  writes : t.tracker.writes = s.tracker.writes
  minibar : t.minibar =
    s.minibar ++
      (as.filter fun a => (doorOf s { line := l, addr := a }).kind == .minibar).map
        fun a => .forced (.lineMode { line := l, addr := a })
  issue : t.issue = sessionsEnded s (lineSessions s l as) .lineMode
  records : ∀ {b : State} {rs : List Record}, appendsAll b s rs → s.trunk.chain = b.trunk.chain →
    appendsAll b t (rs ++ endRecords s (lineSessions s l as) .lineMode)
  trunk : t.trunk = { s.trunk with notices := noticesWith s (endNotices s (lineSessions s l as) .lineMode) }
  loader : t.loader = s.loader
  store : t.store = s.store

theorem Entered.nil (s : State) (l : LineNo) : Entered s l [] s where
  queue := by simp
  time := by simp
  inside _ h := by cases h
  outside _ _ := rfl
  others _ _ := rfl
  track _ := by simp
  writes := rfl
  minibar := by simp
  issue := by simp [lineSessions, sessionsEnded]
  records h _ := by simpa [lineSessions, endRecords] using h
  trunk := rfl
  loader := rfl
  store := rfl

/-- The entry effects on one more node. -/
theorem Entered.snoc {s : State} {l : LineNo} {as : List Addr} {t u : State} (h : Entered s l as t) {a : Addr} (ha : a ∉ as)
    (g : NodeEntered t { line := l, addr := a } u) : Entered s l (as ++ [a]) u := by
  have hd : ∀ n, doorOf t n = doorOf s n := doorOf_congr h.loader h.store
  have hclock : t.time.clock = s.time.clock := by rw [h.time]
  have hline : lineOf u l = lineQuieted (lineOf t l) a := by rw [lineOf, g.lines, look_put_same]
  obtain ⟨-, hcommand, hrest, hfifo⟩ := lineQuieted_node (lineOf t l) a a
  have hother : ∀ b, b ≠ a → look (lineOf u l).nodes b = look (lineOf t l).nodes b := fun b hb => by
    rw [hline]; exact (lineQuieted_node (lineOf t l) a b).1 hb
  have hsplit : ∀ (m : LineNo) (b : Addr), (m = l ∧ b ∈ as ++ [a]) ↔
      (m = l ∧ b ∈ as) ∨ ({ line := m, addr := b } : Node) = { line := l, addr := a } := fun m b => by
    simp only [List.mem_append, List.mem_singleton, Node.mk.injEq]
    tauto
  have hends : ∀ k ∈ lineSessions s l as, (ctxOf s k).node ≠ { line := l, addr := a } := fun k hk hn => by
    obtain ⟨b, hb, hnode⟩ := node_of_lineSessions hk
    rw [hnode] at hn
    cases hn
    exact ha hb
  obtain ⟨ks, hks⟩ : ∃ ks, ks = if (doorOf s { line := l, addr := a }).kind = .encoder then
      endable s { line := l, addr := a } else [] := ⟨_, rfl⟩
  have hsessions : lineSessions s l (as ++ [a]) = lineSessions s l as ++ ks := by simp [lineSessions, hks]
  have hkst : (if (doorOf t { line := l, addr := a }).kind = .encoder then endable t { line := l, addr := a } else []) = ks := by
    rw [hd, endable_sessionsEnded h.issue hends, hks]
  obtain ⟨hissue, hrec, hnot⟩ : sessionsEnded t ks .lineMode = sessionsEnded s (lineSessions s l as ++ ks) .lineMode ∧
      endRecords t ks .lineMode = endRecords s ks .lineMode ∧ endNotices t ks .lineMode = endNotices s ks .lineMode := by
    have hnone : ks = [] → sessionsEnded t ks .lineMode = sessionsEnded s (lineSessions s l as ++ ks) .lineMode ∧
        endRecords t ks .lineMode = endRecords s ks .lineMode ∧
        endNotices t ks .lineMode = endNotices s ks .lineMode := fun hk => by
      rw [hk, sessionsEnded_nil, h.issue, List.append_nil]
      exact ⟨rfl, rfl, rfl⟩
    by_cases hkind : (doorOf s { line := l, addr := a }).kind = .encoder
    · rw [if_pos hkind] at hks
      rcases endable_cases s { line := l, addr := a } with hk | ⟨k, hk, hn, -⟩
      · exact hnone (hks.trans hk)
      · have hnot : k ∉ lineSessions s l as := fun hm => hends k hm (ctxOfNode_some hn).2
        have hctx : ctxOf t k = ctxOf s k := by rw [ctxOf_sessionsEnded h.issue, if_neg hnot]
        rw [hks, hk]
        refine ⟨sessionsEnded_snoc h.issue hnot, ?_, ?_⟩
        · simp only [endRecords, List.filter_cons, hctx, List.filter_nil, stampedRecord_congr hclock]
          split <;> simp [hctx]
        · simp only [endNotices, List.filter_cons, hctx, List.filter_nil]
          split <;> simp [hctx]
    · exact hnone (by rw [hks, if_neg hkind])
  have gi := g.issue
  have gr := @NodeEntered.records _ _ _ g
  have gt := g.trunk
  rw [hkst] at gi gr gt
  refine ⟨?_, ?_, fun b hb => ?_, fun b hb => ?_, fun m hm => ?_, fun n => ?_, g.writes.trans h.writes, ?_, ?_, fun hb hc => ?_, ?_,
    g.loader.trans h.loader, g.store.trans h.store⟩
  · rw [g.queue, h.queue, List.filter_filter]
    refine List.filter_congr fun p _ => ?_
    rw [← Bool.not_or, ← Bool.decide_or]
    exact congrArg _ (decide_eq_decide.2 (by rw [hsplit]; exact or_comm))
  · rw [g.time, h.time]
    simp only [List.filter_filter, TimeUnit.mk.injEq, true_and, and_true]
    refine List.filter_congr fun p _ => ?_
    rw [← Bool.not_or, ← Bool.decide_or]
    exact congrArg _ (decide_eq_decide.2 (by rw [hsplit]; exact or_comm))
  · rcases List.mem_append.1 hb with hb | hb
    · have hne : b ≠ a := fun he => ha (he ▸ hb)
      obtain ⟨hc, hr⟩ := h.inside b hb
      rw [hother b hne]
      refine ⟨hc, fun hh => ⟨(hr hh).1, fun hm => (hr hh).2 ?_⟩⟩
      rw [hline] at hm
      exact hfifo b hm
    · obtain rfl : b = a := by simpa using hb
      rw [hline, ← h.outside b ha]
      exact ⟨hcommand, hrest⟩
  · obtain ⟨hb1, hb2⟩ : b ∉ as ∧ b ≠ a := by simpa using hb
    rw [hother b hb2, h.outside b hb1]
  · rw [lineOf, g.lines, look_put_ne _ (Ne.symm hm)]
    exact h.others m hm
  · rw [g.track, hd, h.track]
    by_cases hn : n = { line := l, addr := a }
    · subst hn; simp [ha]
    · simp only [hn, false_and, if_false, hsplit, or_false]
  · rw [g.minibar, h.minibar, hd, List.filter_append, List.map_append, List.append_assoc]
    congr 1
    by_cases hk : (doorOf s { line := l, addr := a }).kind = .minibar <;> simp [hk]
  · rw [gi, hissue, hsessions]
  · rw [hsessions, endRecords_append, ← List.append_assoc, ← hrec]
    exact gr (h.records hb hc) (by rw [h.trunk]; exact hc)
  · rw [gt, hnot, h.trunk, hsessions, endNotices_append]
    rw [noticesWith_append]
    simp only [noticesWith, h.trunk, h.time]

theorem foldl_entered (s : State) (l : LineNo) (as : List Addr) (hn : as.Nodup) :
    Entered s l as (as.foldl (fun t a => entryEffect t { line := l, addr := a }) s) := by
  induction as using List.reverseRecOn with
  | nil => exact .nil s l
  | append_singleton as a ih =>
    rw [List.foldl_append]
    obtain ⟨hn1, -, hdis⟩ := List.nodup_append.1 hn
    exact (ih hn1).snoc (fun ha => hdis a ha a (by simp) rfl) (entryEffect_entered _ _)

/-- The entry effects on a whole line (R49). -/
theorem entryEffects_entered (s : State) (l : LineNo) : Entered s l (List.finRange 32) (entryEffects s l) := by
  have h := foldl_entered s l (List.finRange 32) (List.nodup_finRange 32)
  unfold entryEffects lineNodes addrs
  rw [List.foldl_map]
  exact h

end Sys2Proof.Machine
end

section
/-!
LINE_MODE and the entry into HELD (03_door_lines.md, R45, R47 to R50).
-/

namespace Sys2Proof.Machine

/-! ### Entry into TRANSPARENT and HELD (R49) -/

theorem sessionsOnLine_congr {s t : State} (hi : t.issue = s.issue) (hl : t.loader = s.loader) (hs : t.store = s.store)
    (l : LineNo) : sessionsOnLine t l = sessionsOnLine s l := by
  simp only [sessionsOnLine, doorOf_congr hl hs, endable_congr hi]

/-- The entry effects on the nodes of a line, and then only the line's mode and the LINE_MODE waiting changed. -/
theorem Entered.lineEntered {s v t : State} {l : LineNo} (h : Entered s l (List.finRange 32) v) {c : LineCtl}
    (hc : LineSet l c v t) (hn : c.nodes = (lineOf v l).nodes) (hf : c.fifo = (lineOf v l).fifo)
    (hq : t.queue = v.queue) (htime : t.time = v.time) (htr : t.tracker = v.tracker) (hm : t.minibar = v.minibar)
    (hi : t.issue = v.issue) : Machine.lineEntered l s t := by
  have hall : ∀ a : Addr, a ∈ List.finRange 32 := List.mem_finRange
  have hnode : ∀ n : Node, n.line = l → nodeOf t n = look (lineOf v l).nodes n.addr := fun n hl => by
    rw [nodeOf, hl, hc.line, hn]
  have hsnode : ∀ n : Node, n.line = l → nodeOf s n = look (lineOf s l).nodes n.addr := fun n hl => by rw [nodeOf, hl]
  have hline : ∀ m : LineNo, (!decide (m = l)) = (m != l) := fun m => by simp [bne, BEq.beq]
  refine ⟨?_, ?_, fun n hl => ?_, fun m hne => (hc.others m hne).trans (h.others m hne), fun n => ?_, ?_, ?_, ?_⟩
  · rw [hq, h.queue]
    simp only [hall, and_true, hline]
  · rw [htime, h.time]
    simp only [hall, and_true, hline]
  · rw [hnode n hl, hsnode n hl, hc.line, hf]
    exact h.inside n.addr (hall _)
  · have := h.track n
    simp only [hall, and_true] at this
    rw [← this, trackOf, htr, trackOf]
  · rw [htr, h.writes]
  · rw [hm, h.minibar]
  · rw [hi, h.issue, sessionsOnLine_eq]

/-- A line that has first become HOLDING is entered as the line it was. -/
theorem lineEntered.rebase {s u t : State} {l : LineNo} (h : lineEntered l u t) {c : LineCtl} (hc : LineSet l c s u)
    (hn : c.nodes = (lineOf s l).nodes) (hq : u.queue = s.queue) (htime : u.time = s.time) (htr : u.tracker = s.tracker)
    (hm : u.minibar = s.minibar) (hi : u.issue = s.issue) (hl : u.loader = s.loader) (hs : u.store = s.store) :
    lineEntered l s t := by
  obtain ⟨hqueue, htimes, hnodes, hothers, htrack, hwrites, hminibar, hissue⟩ := h
  have hd := doorOf_congr hl hs
  have hends : sessionsEnded u (sessionsOnLine u l) .lineMode = sessionsEnded s (sessionsOnLine s l) .lineMode := by
    rw [sessionsOnLine_congr hi hl hs, (endings_congr hi (by rw [htime]) _ _).1]
  have hnode : ∀ n : Node, n.line = l → nodeOf u n = nodeOf s n := fun n hln => by rw [nodeOf, nodeOf, hln, hc.line, hn]
  refine ⟨by rw [hqueue, hq], by rw [htimes, htime], fun n hln => ?_, fun m hne => (hothers m hne).trans (hc.others m hne),
    fun n => ?_, by rw [hwrites, htr], by simp only [hminibar, hm, hd], by rw [hissue, hends]⟩
  · rw [← hnode n hln]
    exact hnodes n hln
  · rw [htrack, hd]
    simp only [trackOf, htr]

/-- What a HOLDING line leaves that enters HELD (R48, R49). -/
structure HeldEntered (s : State) (l : LineNo) (t : State) : Prop where
  mode : (lineOf t l).mode = .held
  untagged : (lineOf t l).waitingTag = none
  line : lineEntered l s t
  records : ∀ {b : State} {rs : List Record}, appendsAll b s rs → s.trunk.chain = b.trunk.chain →
    s.time.clock = b.time.clock →
    appendsAll b t (rs ++ (endRecords s (sessionsOnLine s l) .lineMode ++
      [{ stampedRecord b .lineMode with node := some (.line l), detail := .lineMode .held false }]))
  trunk : t.trunk =
    { s.trunk with
      notices := noticesWith s (endNotices s (sessionsOnLine s l) .lineMode)
      outQueue :=
        s.trunk.outQueue ++ (lineOf s l).waitingTag.toList.map fun tag => .reply { tag := tag, code := 14, answer := .done [] }
      reserved := s.trunk.reserved - (lineOf s l).waitingTag.toList.length }

theorem toHeld_entered (s : State) (l : LineNo) : HeldEntered s l (toHeld s l) := by
  have h := entryEffects_entered s l
  have hmode := (LineSet.same l (entryEffects s l)).changeMode .held false
  have hset := hmode.answerWaiting (.done [])
  have htag : (lineOf (entryEffects s l) l).waitingTag = (lineOf s l).waitingTag :=
    (entryEffects_keepsLines (s := s) (v := s.lines) l (.same _) l).tag
  unfold toHeld
  refine ⟨?_, ?_, h.lineEntered hset (by dsimp only) (by dsimp only) ?_ ?_ ?_ ?_ ?_, fun hb hc hclock => ?_, ?_⟩
  · rw [hset.line]
  · rw [hset.line]
  · simp only [answerWaiting_frame, changeMode_frame]
  · simp only [answerWaiting_frame, changeMode_frame]
  · simp only [answerWaiting_frame, changeMode_frame]
  · simp only [answerWaiting_frame, changeMode_frame]
  · simp only [answerWaiting_frame, changeMode_frame]
  · have hrec := (h.records hb hc).of_journal
      (u := setLine (entryEffects s l) l { lineOf (entryEffects s l) l with mode := .held }) (by simp)
    have happ := hrec.line (by simpa using hc) (by simpa using hclock) .lineMode l (.lineMode .held false)
    rw [List.append_assoc] at happ
    exact happ.of_journal (by simp [changeMode])
  · rw [answerWaiting_trunk, hmode.line]
    simp only [changeMode_frame, h.trunk, htag, sessionsOnLine_eq]

/-- Settles O25: the entry effects on every node of the line, the change of mode with its record, and the reply that has
waited. -/
theorem holdingLineEntersHeld : Obligations.HoldingLineEntersHeld := by
  intro s l b hw hm
  have holding : isHolding (lineOf s l).mode = true := by rw [hm]; rfl
  refine ⟨fun hx => ?_, fun hx hs => ?_⟩
  · have hno : (s.working && isHolding (lineOf s l).mode && (lineOf s l).exchange.isNone && !(lineOf s l).stuck) = false := by
      rcases hx with hx | hx
      · simp [Option.isNone_eq_false_iff.2 (Option.isSome_iff_ne_none.2 hx)]
      · simp [hx]
    simp only [exec, execEnterHeld, hno]
    rfl
  · obtain ⟨hmode, htag, hline, hrec, htrunk⟩ := toHeld_entered s l
    have hgo : (s.working && isHolding (lineOf s l).mode && (lineOf s l).exchange.isNone && !(lineOf s l).stuck) = true := by
      simp [hw, holding, hx, hs]
    refine ⟨settle (toHeld s l), by simp only [exec, execEnterHeld, hgo, if_true]; rfl, unchangedBut.settled ?_, ?_, ?_, ?_,
      ?_, trunkIs.settled (trunkIs_of_eq ?_)⟩
    · rw [unchangedBut_iff]
      simp
    · simpa [lineOf] using hmode
    · simpa [lineOf] using htag
    · simpa [lineEntered, linesBut, lineOf, nodeOf, trackOf] using hline
    · exact (hrec (appendsAll_nil rfl) rfl rfl).settled
    · rw [htrunk]
      simp

end Sys2Proof.Machine
end

section
/-!
LINE_MODE (03_door_lines.md, R45, R48 to R50).
-/

namespace Sys2Proof.Machine

theorem lineNumber_of {b : Byte} {l : LineNo} (h : b.toNat = l.val) : lineNumber b = some l := by
  simp [lineNumber, h]

/-- A line that does not exist, or a mode code of HOLDING or of no mode (log 10). -/
theorem lineMode_range (s : State) {lb mb : Byte} (tag : Byte) (h : 4 ≤ lb.toNat ∨ (mb ≠ 0 ∧ mb ≠ 1 ∧ mb ≠ 3)) :
    lineMode s lb mb tag = answerRequest s (.refused .range) := by
  unfold lineMode
  split
  · next l m hl hm =>
    rcases h with h | ⟨h0, h1, h3⟩
    · simp [lineNumber, Nat.not_lt.2 h] at hl
    · have hne : ∀ k : Nat, k < 256 → mb ≠ BitVec.ofNat 8 k → mb.toNat ≠ k := fun k hk hb he => hb (by
        apply BitVec.eq_of_toNat_eq
        rw [he, BitVec.toNat_ofNat, Nat.mod_eq_of_lt hk])
      have n0 := hne 0 (by omega) h0
      have n1 := hne 1 (by omega) h1
      have n3 := hne 3 (by omega) h3
      unfold requestedMode at hm
      split at hm
      · exact absurd ‹_› n0
      · exact absurd ‹_› n1
      · exact absurd ‹_› n3
      · cases hm
  · rfl

/-- The mode that a mode code in range names (R45, log 10). -/
def modeNamed (mb : Byte) : RequestedMode := if mb = 0 then .decide else if mb = 1 then .transparent else .held

theorem requestedMode_eq {mb : Byte} (h : mb = 0 ∨ mb = 1 ∨ mb = 3) : requestedMode mb = some (modeNamed mb) := by
  rcases h with rfl | rfl | rfl <;> decide

theorem modeNamed_decide {mb : Byte} (h : mb = 0 ∨ mb = 1 ∨ mb = 3) : modeNamed mb = .decide ↔ mb = 0 := by
  rcases h with rfl | rfl | rfl <;> decide

theorem lineMode_eq (s : State) {lb mb : Byte} (tag : Byte) {l : LineNo} (hl : lb.toNat = l.val)
    (hm : mb = 0 ∨ mb = 1 ∨ mb = 3) :
    lineMode s lb mb tag =
      if s.override.effective = .release ∧ mb ≠ 0 then answerRequest s (.refused .phase)
      else takeMode s l (modeNamed mb) tag := by
  simp only [lineMode, lineNumber_of hl, requestedMode_eq hm, ne_eq, modeNamed_decide hm]

/-! ### A change made at once (R45) -/

/-- The line, the record and the reply of a change of mode made at once, over what the change has done before it. -/
theorem modeAtOnce_changes {s v t : State} {l : LineNo} {c : LineCtl} {r : RequestInHand} {x : Trunk} {rs : List Record}
    (hc : LineSet l c v t) (hrec : appendsAll s t rs) (hclock : t.time.clock = s.time.clock)
    (hchain : t.trunk.chain = s.trunk.chain) (ht : t.trunk = x) (hr : t.trunk.inHand = some r) (m : LineMode) :
    LineSet l { c with mode := m } v (settle (modeAtOnce t l m)) ∧
      appendsAll s (settle (modeAtOnce t l m))
        (rs ++ [{ stampedRecord s .lineMode with node := some (.line l), detail := .lineMode m false }]) ∧
      trunkIs (settle (modeAtOnce t l m)) (answeredTrunk x r (.done [])) := by
  refine ⟨(hc.changeMode m false).of_lines (by simp [modeAtOnce]), ?_, ?_⟩
  · have happ := (hrec.of_journal (u := setLine t l { lineOf t l with mode := m }) (by simp)).line (by simpa using hchain)
      (by simpa using hclock) .lineMode l (.lineMode m false)
    exact (happ.of_journal (by simp [modeAtOnce, changeMode])).settled
  · have htrunk : trunkIs (changeMode t l m false) x := trunkIs_of_eq (by simpa using ht)
    exact trunkIs.settled (htrunk.thenAnswered (by simpa using hr) _)

/-- A line asked for HELD becomes HOLDING, and keeps the request's tag (R48, log 14). -/
def lineHolding (s : State) (l : LineNo) (ft : Bool) (tag : Byte) : State :=
  let s1 := changeMode s l (.holding ft) false
  let s2 := setLine s1 l { lineOf s1 l with waitingTag := some tag }
  s2.withTrunk { s2.trunk with inHand := none }

@[simp] theorem lineHolding_frame (s : State) (l : LineNo) (ft : Bool) (tag : Byte) :
    (lineHolding s l ft tag).pending = s.pending ∧ (lineHolding s l ft tag).time = s.time ∧
    (lineHolding s l ft tag).queue = s.queue ∧ (lineHolding s l ft tag).tracker = s.tracker ∧
    (lineHolding s l ft tag).override = s.override ∧ (lineHolding s l ft tag).issue = s.issue ∧
    (lineHolding s l ft tag).minibar = s.minibar ∧ (lineHolding s l ft tag).store = s.store ∧
    (lineHolding s l ft tag).port = s.port ∧ (lineHolding s l ft tag).loader = s.loader ∧
    (lineHolding s l ft tag).pruner = s.pruner ∧ (lineHolding s l ft tag).startup = s.startup ∧
    (lineHolding s l ft tag).pins = s.pins ∧ (lineHolding s l ft tag).trunk = { s.trunk with inHand := none } := by
  simp [lineHolding]

theorem lineHolding_line (s : State) (l : LineNo) (ft : Bool) (tag : Byte) :
    LineSet l { lineOf s l with mode := .holding ft, waitingTag := some tag } s (lineHolding s l ft tag) := by
  have hmode := (LineSet.same l s).changeMode (.holding ft) false
  have hset := hmode.set { lineOf (changeMode s l (.holding ft) false) l with waitingTag := some tag }
  rw [hmode.line] at hset
  refine hset.of_lines ?_
  simp only [lineHolding, hmode.line, State.withTrunk_lines]

theorem lineHolding_records (s : State) (l : LineNo) (ft : Bool) (tag : Byte) :
    appendsAll s (lineHolding s l ft tag)
      [{ stampedRecord s .lineMode with node := some (.line l), detail := .lineMode (.holding ft) false }] :=
  (changeMode_records rfl rfl rfl).of_journal (by simp [lineHolding])

theorem enterHolding_eq (s : State) (l : LineNo) (ft : Bool) (tag : Byte) :
    enterHolding s l ft tag =
      if (lineOf s l).exchange = none then toHeld (lineHolding s l ft tag) l else lineHolding s l ft tag := by
  have hline := (lineHolding_line s l ft tag).line
  have hx : (lineOf (lineHolding s l ft tag) l).exchange.isNone = decide ((lineOf s l).exchange = none) := by
    rw [hline]
    cases (lineOf s l).exchange <;> rfl
  have hdef : enterHolding s l ft tag =
      if (lineOf (lineHolding s l ft tag) l).exchange.isNone then toHeld (lineHolding s l ft tag) l
      else lineHolding s l ft tag := rfl
  simp only [hdef, hx, decide_eq_true_eq]

/-- What stands of a change made at once is what stands of it before (R45). -/
theorem modeAtOnce_unchanged {bs : List Block} {s t : State} {l : LineNo} (m : LineMode) (h : unchangedBut bs s t)
    (hl : Block.lines ∈ bs) (hj : Block.journal ∈ bs) (ht : Block.trunk ∈ bs) :
    unchangedBut bs s (settle (modeAtOnce t l m)) := by
  refine unchangedBut.settled ?_
  rw [unchangedBut_iff] at h ⊢
  simp only [hl, hj, ht, not_true_eq_false, false_implies, true_and] at h ⊢
  simpa [modeAtOnce] using h

section
variable {s : State} {r : RequestInHand} {lb mb : Byte}

/-- A LINE_MODE that is only answered. -/
theorem lineMode_answered (hask : asked s r) (hr : r.request = .lineMode lb mb) {a : Answer}
    (h : lineMode s lb mb r.tag = answerRequest s a) :
    ∃ t, exec .lineMode s = .next t ∧ unchangedBut [.trunk] s t ∧ answers s t r a := by
  obtain ⟨hw, hin⟩ := hask
  obtain ⟨req, tag, uni⟩ := r
  subst hr
  refine ⟨settle (answerRequest s a), ?_, unchangedBut.settled (by rw [unchangedBut_iff]; simp),
    trunkIs.settled ((trunkIs_refl s).answered hin a)⟩
  simp only [exec, execLineMode, hin, hw, if_true, h]
  rfl

theorem exec_lineMode (hask : asked s r) (hr : r.request = .lineMode lb mb) {t : State}
    (h : lineMode s lb mb r.tag = t) : exec .lineMode s = .next (settle t) := by
  obtain ⟨hw, hin⟩ := hask
  obtain ⟨req, tag, uni⟩ := r
  subst hr
  simp only [exec, execLineMode, hin, hw, if_true, h]
  rfl

end

/-- A line in DECIDE or TRANSPARENT asked for HELD (R48). -/
theorem takeMode_held {s : State} {l : LineNo} (hm : (lineOf s l).mode = .decide ∨ (lineOf s l).mode = .transparent)
    (tag : Byte) :
    takeMode s l (modeNamed 3) tag = enterHolding s l (decide ((lineOf s l).mode = .transparent)) tag := by
  have hnamed : modeNamed 3 = .held := by decide
  rcases hm with hm | hm <;> (rw [takeMode, hm, hnamed]; rfl)

/-- Settles O24: the tests of LINE_MODE in order, and the change that each mode of the line makes. -/
theorem lineModeIsTaken : Obligations.LineModeIsTaken := by
  intro s r lb mb hask hr
  have hin := hask.2
  refine ⟨fun hbad => lineMode_answered hask hr (lineMode_range s r.tag hbad), fun l hl hcode => ?_⟩
  intro mode entry ks ended told
  have heq := lineMode_eq s r.tag hl hcode
  refine ⟨fun hrel hne => lineMode_answered hask hr (by rw [heq, if_pos ⟨hrel, hne⟩]), fun hfree => ?_⟩
  have htaken : lineMode s lb mb r.tag = takeMode s l (modeNamed mb) r.tag := by
    rw [heq, if_neg (fun h => hfree.elim (fun hn => hn h.1) h.2)]
  have hsame := LineSet.same l s
  refine ⟨fun ⟨b, hm⟩ => lineMode_answered hask hr ?_, fun hheld => lineMode_answered hask hr ?_, fun hm hb => ?_, fun hm hb => ?_,
    fun hm hb => ?_, fun hm hb => ?_, fun hm hb hx => ?_, fun hm hb hx => ?_⟩
  · have hm : (lineOf s l).mode = .holding b := hm
    rw [htaken, takeMode, hm]
  · rw [htaken]
    rcases hheld with ⟨hm, rfl⟩ | ⟨hm, rfl⟩ | ⟨hm, rfl⟩ <;> (have hm : (lineOf s l).mode = _ := hm; rw [takeMode, hm]; rfl)
  · -- DECIDE to TRANSPARENT
    subst hb
    have hm : (lineOf s l).mode = .decide := hm
    have h := entryEffects_entered s l
    have hexec := exec_lineMode hask hr
      (htaken.trans (show takeMode s l (modeNamed 1) r.tag = modeAtOnce (entryEffects s l) l .transparent by
        rw [takeMode, hm]; rfl))
    obtain ⟨hline, hrec, htrunk⟩ := modeAtOnce_changes (r := r) (LineSet.same l (entryEffects s l))
      (h.records (appendsAll_nil rfl) rfl) (by simp) (by simp) h.trunk (by simpa using hin) .transparent
    refine ⟨_, hexec, modeAtOnce_unchanged _ (by rw [unchangedBut_iff]; simp) (by simp) (by simp) (by simp), ?_, ?_, ?_,
      htrunk⟩
    · rw [hline.line]
    · exact h.lineEntered hline (by dsimp only) (by dsimp only) (by simp [modeAtOnce]) (by simp [modeAtOnce])
        (by simp [modeAtOnce]) (by simp [modeAtOnce]) (by simp [modeAtOnce])
    · rw [List.nil_append] at hrec
      exact hrec
  · -- TRANSPARENT to DECIDE
    subst hb
    have hm : (lineOf s l).mode = .transparent := hm
    have hexec := exec_lineMode hask hr
      (htaken.trans (show takeMode s l (modeNamed 0) r.tag = modeAtOnce (returnEffects s l true) l .decide by
        rw [takeMode, hm]; rfl))
    obtain ⟨hline, hrec, htrunk⟩ := modeAtOnce_changes (s := s) (r := r) (x := s.trunk) (rs := []) (hsame.returnEffects true)
      (appendsAll_nil (by simp)) (by simp) (by simp) (by simp) (by simpa using hin) .decide
    have hback : { lineReturned s l true (lineOf s l) with mode := .decide } = lineTakenBack s l := by
      simp [lineTakenBack, hm, lineReturned]
    rw [hback] at hline
    refine ⟨_, hexec, modeAtOnce_unchanged _ (by rw [unchangedBut_iff]; simp) (by simp) (by simp) (by simp), ?_, ?_,
      hline.others, hline.line, fun a => ?_, hrec, htrunk⟩
    · rw [hline.line, ← hback]
    · rw [sweepLoaded, hline.line, ← hback]
      simp [lineReturned, sweepFilled, passesDropped]
    · rw [hline.line, ← hback]
      simp only [lineReturned, sweepFilled, passesDropped, if_true, look_ofFn]
      rcases hcmd : (look (lineOf s l).nodes a).command with _ | x
      · simp [hcmd]
      · cases hp : isPass x <;> simp [hcmd, hp, Option.filter]
  · -- HELD to DECIDE
    subst hb
    have hm : (lineOf s l).mode = .held := hm
    have hexec := exec_lineMode hask hr
      (htaken.trans (show takeMode s l (modeNamed 0) r.tag = modeAtOnce (returnEffects s l false) l .decide by
        rw [takeMode, hm]; rfl))
    obtain ⟨hline, hrec, htrunk⟩ := modeAtOnce_changes (s := s) (r := r) (x := s.trunk) (rs := []) (hsame.returnEffects false)
      (appendsAll_nil (by simp)) (by simp) (by simp) (by simp) (by simpa using hin) .decide
    refine ⟨_, hexec, modeAtOnce_unchanged _ (by rw [unchangedBut_iff]; simp) (by simp) (by simp) (by simp), hline.others, ?_,
      ?_, fun a => ?_, hrec, htrunk⟩
    · rw [sweepLoaded, hline.line]
      simp [lineReturned, sweepFilled]
    · rw [hline.line]
      simp [lineReturned, sweepFilled]
    · rw [hline.line]
      simp [lineReturned, sweepFilled]
  · -- HELD to TRANSPARENT
    subst hb
    have hm : (lineOf s l).mode = .held := hm
    have hexec := exec_lineMode hask hr
      (htaken.trans (show takeMode s l (modeNamed 1) r.tag = modeAtOnce (restartChoice s l) l .transparent by
        rw [takeMode, hm]; rfl))
    obtain ⟨hline, hrec, htrunk⟩ := modeAtOnce_changes (s := s) (r := r) (x := s.trunk) (rs := [])
      (hsame.set { lineOf s l with prevSlot := none }) (appendsAll_nil (by simp)) (by simp) (by simp) (by simp)
      (by simpa using hin) .transparent
    exact ⟨_, hexec, modeAtOnce_unchanged _ (by rw [unchangedBut_iff]; simp [restartChoice]) (by simp) (by simp) (by simp),
      hline.others, hline.line, hrec, htrunk⟩
  · -- HOLDING, an exchange in flight
    subst hb
    have hexec := exec_lineMode hask hr (htaken.trans (takeMode_held hm r.tag))
    rw [enterHolding_eq, if_neg hx] at hexec
    have hline := lineHolding_line s l (decide ((lineOf s l).mode = .transparent)) r.tag
    have hset := hline.of_lines (u := settle (lineHolding s l (decide ((lineOf s l).mode = .transparent)) r.tag)) (by simp)
    refine ⟨_, hexec, unchangedBut.settled (by rw [unchangedBut_iff]; simp), hset.others, hset.line,
      (lineHolding_records s l _ r.tag).settled, trunkIs.settled (trunkIs_of_eq (by simp))⟩
  · -- HELD at once
    subst hb
    have hexec := exec_lineMode hask hr (htaken.trans (takeMode_held hm r.tag))
    rw [enterHolding_eq, if_pos hx] at hexec
    obtain ⟨u, hu⟩ : ∃ u, u = lineHolding s l (decide ((lineOf s l).mode = .transparent)) r.tag := ⟨_, rfl⟩
    have hset := lineHolding_line s l (decide ((lineOf s l).mode = .transparent)) r.tag
    have hrecords : appendsAll s u [entry (.holding (decide ((lineOf s l).mode = .transparent)))] :=
      hu ▸ lineHolding_records s l _ r.tag
    rw [← hu] at hexec hset
    have hissue : u.issue = s.issue := by simp [hu]
    have hclock : u.time.clock = s.time.clock := by simp [hu]
    have htrunk : u.trunk = { s.trunk with inHand := none } := by simp [hu]
    obtain ⟨hmode, htag, hentered, hrec, hunk⟩ := toHeld_entered u l
    have hks : sessionsOnLine u l = ks := sessionsOnLine_congr hissue (by simp [hu]) (by simp [hu]) l
    obtain ⟨-, hends, hnot⟩ := endings_congr hissue hclock ks .lineMode
    rw [hks, hends] at hrec
    rw [hks, hnot, hset.line] at hunk
    have hline := hentered.rebase hset (by dsimp only) (by simp [hu]) (by simp [hu]) (by simp [hu]) (by simp [hu]) hissue
      (by simp [hu]) (by simp [hu])
    refine ⟨_, hexec, unchangedBut.settled ?_, ?_, ?_, ?_, ?_, trunkIs.settled (trunkIs_of_eq ?_)⟩
    · rw [unchangedBut_iff]
      simp [hu]
    · simpa [lineOf] using hmode
    · simpa [lineOf] using htag
    · simpa [lineEntered, linesBut, lineOf, nodeOf, trackOf] using hline
    · exact (hrec hrecords (by rw [htrunk]) hclock).settled
    · rw [hunk]
      simp [told, noticesWith, hu]

end Sys2Proof.Machine
end


section
/-!
A command not delivered (03_door_lines.md, R39, R40, R42 to R44): the failed attempt, the missed answer, and the session that
one of them ends.
-/

namespace Sys2Proof.Machine

/-! ### The failed attempt (R44) -/

/-- An address moved to the tail of the FIFO, where it has a place (R44). -/
def toTail (f : List Addr) (a : Addr) : List Addr := if a ∈ f then f.filter (fun b => b != a) ++ [a] else f

/-- The failure of its command drops it: the third of one that is not retried always (R43, R44). -/
abbrev attemptDrops (x : NodeCtl) (c : Command) (duty : Bool) (fate : Fate) : Prop :=
  fate = .live ∧ ¬ (c = .holdOpen ∨ c = .releaseEnd ∨ duty = true) ∧ 2 ≤ x.attempts.val

/-- A line with no exchange after a failed attempt of a node's command (R44). -/
def lineAttempted (d : LineCtl) (a : Addr) (c : Command) (duty : Bool) (fate : Fate) : LineCtl :=
  let x := look d.nodes a
  if attemptDrops x c duty fate ∨ fate = .withdrawn then
    { d with
      fifo := d.fifo.filter fun b => b != a
      nodes := put d.nodes a { x with command := none, attempts := 0, duty := false } }
  else if fate = .live ∧ ¬ (c = .holdOpen ∨ c = .releaseEnd ∨ duty = true) then
    { d with fifo := toTail d.fifo a, nodes := put d.nodes a { x with attempts := x.attempts + 1 } }
  else if fate = .live ∨ fate = .replaced then { d with fifo := toTail d.fifo a }
  else d

theorem moveToTail_eq (d : LineCtl) (a : Addr) : moveToTail d a = { d with fifo := toTail d.fifo a } := by
  have hne : ∀ b : Addr, (!decide (b = a)) = (b != a) := fun b => by simp [bne, BEq.beq]
  unfold moveToTail toTail
  split <;> simp only [hne]

theorem dropCommand_idle {d : LineCtl} (h : d.exchange = none) (a : Addr) (f : Fate) :
    dropCommand d a f =
      { d with
        fifo := d.fifo.filter fun b => b != a
        nodes := put d.nodes a { look d.nodes a with command := none, attempts := 0, duty := false } } := by
  have hne : ∀ b : Addr, (!decide (b = a)) = (b != a) := fun b => by simp [bne, BEq.beq]
  unfold dropCommand
  simp only [LineCtl.withNode, h, Option.map_none, hne]

theorem retriedAlways_iff (c : Command) (duty : Bool) :
    retriedAlways c duty = true ↔ c = .holdOpen ∨ c = .releaseEnd ∨ duty = true := by
  simp [retriedAlways, or_assoc]

/-- The failed attempt is the line's, and a PREPARE or WRITE that it drops is the Issue Unit's too (R112). -/
theorem failedAttempt_eq {s : State} {l : LineNo} (h : (lineOf s l).exchange = none) (a : Addr) (c : Command) (duty : Bool)
    (fate : Fate) :
    failedAttempt s { line := l, addr := a } c duty fate =
      let v := setLine s l (lineAttempted (lineOf s l) a c duty fate)
      if attemptDrops (look (lineOf s l).nodes a) c duty fate ∧ isSessionCommand c = true then
        issueDrop v { line := l, addr := a } c
      else v := by
  have hsame : setLine s l (lineOf s l) = s := by rw [setLine, lineOf, put_look]; rfl
  have hdrop := dropCommand_idle h a .dropped
  obtain ⟨x, hx⟩ : ∃ x, x = look (lineOf s l).nodes a := ⟨_, rfl⟩
  have hnode : nodeOf s { line := l, addr := a } = x := hx.symm
  unfold failedAttempt
  cases fate
  case live =>
    by_cases hr : c = .holdOpen ∨ c = .releaseEnd ∨ duty = true
    · have hno : ¬ attemptDrops x c duty .live := fun h => h.2.1 hr
      simp [hr, (retriedAlways_iff c duty).2 hr, lineAttempted, moveToTail_eq, ← hx, hno]
    · have hr' : retriedAlways c duty = false := Bool.eq_false_iff.2 (mt (retriedAlways_iff c duty).1 hr)
      by_cases h2 : 2 ≤ x.attempts.val
      · have h3 : ¬ x.attempts.val + 1 < 3 := by omega
        simp only [hr', hnode, h3, hdrop, lineAttempted, ← hx, hr, h2, attemptDrops, not_false_eq_true, true_and, true_or,
          if_true, if_false, Bool.false_eq_true]
      · have h3 : x.attempts.val + 1 < 3 := by omega
        simp only [hr', hnode, h3, lineAttempted, ← hx, hr, h2, attemptDrops, not_false_eq_true, and_false, false_and,
          false_or, reduceCtorEq, if_true, if_false, Bool.false_eq_true, moveToTail_eq, LineCtl.withNode, and_self]
  case withdrawn => simp [hdrop, lineAttempted, attemptDrops]
  case replaced => simp [lineAttempted, attemptDrops, moveToTail_eq]
  case rewritten => simp [lineAttempted, attemptDrops, hsame]
  case dropped => simp [lineAttempted, attemptDrops, hsame]

/-! ### The missed answer over what stands (R39, R40) -/

theorem missCounted_records {b t : State} {rs : List Record} (n : Node) (h : appendsAll b t rs)
    (hc : t.trunk.chain = b.trunk.chain) (hclock : t.time.clock = b.time.clock) :
    appendsAll b (missCounted t n)
      (rs ++ if fallsSilent (nodeOf t n) then [{ stampedRecord b .nodeSilent with node := some (.node n) }] else []) := by
  have h0 : ∀ x, appendsAll b (setNode t n x) rs := fun x => h.of_journal (by simp)
  unfold missCounted
  split
  · exact ((h0 (nodeMissed (nodeOf t n))).node (by simpa using hc) (by simpa using hclock) _ _).of_journal (by simp)
  · rw [List.append_nil]
    exact h0 _

theorem missCounted_trunk (t : State) (n : Node) :
    (missCounted t n).trunk =
      { t.trunk with notices := noticesWith t (if fallsSilent (nodeOf t n) then [.nodeSilent n] else []) } := by
  unfold missCounted
  split
  · simp [pushNotice_eq, noticesAfter, noticesWith]
  · simp [noticesWith]

theorem issueDrop_none {s : State} {n : Node} {c : Command} (h : droppedSession s n c = []) (hs : isSessionCommand c = true) :
    issueDrop s n c = s := by
  rcases hk : ctxOfNode s n with _ | k
  · simp [issueDrop, hk]
  · by_cases hn : (ctxOf s k).outcome = none
    · have hend : endable s n = [k] := by simp [endable, hk, hn]
      have hst : (ctxOf s k).state ≠ if c = .prepare then CtxState.awaitBlank else CtxState.writing := by
        simpa [droppedSession, hend] using h
      cases c <;> simp [isSessionCommand] at hs <;> cases hst' : (ctxOf s k).state <;> simp [hst'] at hst <;>
        simp [issueDrop, hk, hst']
    · have hends := endSession_decided hn .encoderUnreachable
      unfold issueDrop
      rw [hk]
      cases c <;> cases hst' : (ctxOf s k).state <;> simp [hst', hends]

/-- With sound sessions, none can end on a node whose session has just ended. -/
theorem endable_ended {s t : State} {n : Node} {k : Fin 2} {why : FailReason} (hs : sessionsSound s)
    (hk : ctxOfNode s n = some k) (h : t.issue = sessionsEnded s [k] why) : endable t n = [] := by
  obtain ⟨hopen, hnode⟩ := ctxOfNode_some hk
  rcases endable_cases t n with he | ⟨j, -, hj, hout⟩
  · exact he
  obtain ⟨hjo, hjn⟩ := ctxOfNode_some hj
  rw [ctxOf_sessionsEnded h] at hjo hjn hout
  by_cases hjk : j = k
  · subst hjk
    simp only [List.mem_singleton, if_true, endedCtx] at hjo hout
    split at hout
    · cases hout
    · next hcls =>
      rw [if_neg hcls] at hjo
      simp [isOpen, IssueCtx.free] at hjo
  · simp only [List.mem_singleton, hjk, if_false] at hjo hjn
    have : (ctxOf s 0).node = (ctxOf s 1).node := by
      match j, k with
      | 0, 0 => exact absurd rfl hjk
      | 1, 1 => exact absurd rfl hjk
      | 0, 1 => rw [hjn, hnode]
      | 1, 0 => rw [hjn, hnode]
    have hboth : isOpen (ctxOf s 0) = true ∧ isOpen (ctxOf s 1) = true := by
      match j, k with
      | 0, 0 => exact absurd rfl hjk
      | 1, 1 => exact absurd rfl hjk
      | 0, 1 => exact ⟨hjo, hopen⟩
      | 1, 0 => exact ⟨hopen, hjo⟩
    exact absurd this (hs hboth.1 hboth.2).1

/-! ### Presence and the command of a node whose session's command is withdrawn -/

theorem lineWithdrawn_silent (d : LineCtl) (a : Addr) :
    (look (lineWithdrawn d a).nodes a).silent = (look d.nodes a).silent := by
  unfold lineWithdrawn
  dsimp only
  split
  · split <;> simp
  · rfl

theorem nodeMissed_silent (x : NodeCtl) : (nodeMissed x).silent = true ↔ fallsSilent x ∨ x.silent = true := by
  unfold nodeMissed
  by_cases h : 2 ≤ x.missed.val
  · simp only [h, if_true, true_iff]
    exact (Bool.eq_false_or_eq_true x.silent).symm.imp_left fun hs => ⟨h, hs⟩
  · simp [h]

theorem nodeMissed_command (x : NodeCtl) : (nodeMissed x).command = x.command := by
  unfold nodeMissed
  split <;> rfl


/-! ### The whole failure (R31, R44) -/

/-- What a failed command leaves before its missed answer: the line attempted, and the sessions `ks` that the drop ends. -/
structure CommandAttempted (s : State) (l : LineNo) (a : Addr) (c : Command) (duty : Bool) (fate : Fate)
    (ks : List (Fin 2)) (u : State) : Prop where
  line : LineSet l (lineAttempted { lineOf s l with exchange := none } a c duty fate) s u
  same : unchangedBut [.time, .lines, .issue, .journal, .trunk] s u
  ended : endedOn s u { line := l, addr := a } ks .encoderUnreachable
  records : appendsAll s u (endRecords s ks .encoderUnreachable)
  trunk : u.trunk = { s.trunk with notices := noticesWith s (endNotices s ks .encoderUnreachable) }

section
variable {s : State} {l : LineNo} {a : Addr} {c : Command} {duty : Bool} {fate : Fate}

/-- The sessions that a failed attempt ends: that of a PREPARE or WRITE dropped (R112). -/
def attemptSessions (s : State) (l : LineNo) (a : Addr) (c : Command) (duty : Bool) (fate : Fate) : List (Fin 2) :=
  if attemptDrops (look (lineOf s l).nodes a) c duty fate ∧ isSessionCommand c = true then
    droppedSession s { line := l, addr := a } c
  else []

theorem lineAttempted_idle {d : LineCtl} (h : d.exchange = none) : (lineAttempted d a c duty fate).exchange = none := by
  unfold lineAttempted
  dsimp only
  split
  · exact h
  · split
    · exact h
    · split <;> exact h

/-! The fates of a failed attempt: dropped, tried again, sent to the tail uncharged, and over. -/

theorem lineAttempted_drops {d : LineCtl} (h : attemptDrops (look d.nodes a) c duty fate ∨ fate = .withdrawn) :
    lineAttempted d a c duty fate =
      { d with
        fifo := d.fifo.filter fun b => b != a
        nodes := put d.nodes a { look d.nodes a with command := none, attempts := 0, duty := false } } := if_pos h

theorem lineAttempted_again {d : LineCtl} (h : ¬ (attemptDrops (look d.nodes a) c duty fate ∨ fate = .withdrawn))
    (hl : fate = .live ∧ ¬ (c = .holdOpen ∨ c = .releaseEnd ∨ duty = true)) :
    lineAttempted d a c duty fate =
      { d with
        fifo := toTail d.fifo a
        nodes := put d.nodes a { look d.nodes a with attempts := (look d.nodes a).attempts + 1 } } :=
  (if_neg h).trans (if_pos hl)

theorem lineAttempted_free {d : LineCtl} (h : ¬ (attemptDrops (look d.nodes a) c duty fate ∨ fate = .withdrawn))
    (hl : ¬ (fate = .live ∧ ¬ (c = .holdOpen ∨ c = .releaseEnd ∨ duty = true))) (hr : fate = .live ∨ fate = .replaced) :
    lineAttempted d a c duty fate = { d with fifo := toTail d.fifo a } :=
  (if_neg h).trans ((if_neg hl).trans (if_pos hr))

theorem lineAttempted_over {d : LineCtl} (h : ¬ (attemptDrops (look d.nodes a) c duty fate ∨ fate = .withdrawn))
    (hl : ¬ (fate = .live ∧ ¬ (c = .holdOpen ∨ c = .releaseEnd ∨ duty = true))) (hr : ¬ (fate = .live ∨ fate = .replaced)) :
    lineAttempted d a c duty fate = d := (if_neg h).trans ((if_neg hl).trans (if_neg hr))

/-- A command dropped by its failure is pending no more. -/
theorem lineAttempted_dropped {d : LineCtl} (h : attemptDrops (look d.nodes a) c duty fate) :
    (look (lineAttempted d a c duty fate).nodes a).command = none := by
  unfold lineAttempted
  dsimp only
  rw [if_pos (.inl h), look_put_same]

theorem failedAttempt_attempted :
    CommandAttempted s l a c duty fate (attemptSessions s l a c duty fate)
      (failedAttempt (endExchange s l) { line := l, addr := a } c duty fate) := by
  have hl : LineSet l { lineOf s l with exchange := none } s (endExchange s l) := (LineSet.same l s).set _
  obtain ⟨v, hv⟩ : ∃ v, v = setLine (endExchange s l) l
      (lineAttempted { lineOf s l with exchange := none } a c duty fate) := ⟨_, rfl⟩
  have hvl : LineSet l (lineAttempted { lineOf s l with exchange := none } a c duty fate) s v := hv ▸ hl.set _
  have heq := failedAttempt_eq (s := endExchange s l) (l := l) (by rw [hl.line]) a c duty fate
  rw [hl.line] at heq
  dsimp only at heq
  rw [heq, ← hv, attemptSessions]
  have hsame : unchangedBut [.lines] s v := by rw [unchangedBut_iff]; simp [hv, endExchange]
  have hissue : v.issue = s.issue := by simp [hv, endExchange]
  have htime : v.time = s.time := by simp [hv, endExchange]
  have hj : v.journal = s.journal := by simp [hv, endExchange]
  have htrunk : v.trunk = s.trunk := by simp [hv, endExchange]
  split
  · next h =>
    obtain ⟨hframe, hlines, ⟨hi, ht⟩, hrec, htr⟩ := issueDrop_ended v { line := l, addr := a } h.2
    rw [droppedSession_congr hissue] at hlines hi ht hrec htr
    obtain ⟨hends, hrecs, hnots⟩ :=
      endings_congr hissue (congrArg TimeUnit.clock htime) (droppedSession s { line := l, addr := a } c) .encoderUnreachable
    rw [hends] at hi
    rw [hrecs] at hrec
    rw [hnots] at htr
    have hgone : linesWithdrawn v { line := l, addr := a } = v.lines := linesWithdrawn_other fun x hx => by
      rw [nodeOf, hvl.line] at hx
      exact nomatch (lineAttempted_dropped (d := { lineOf s l with exchange := none }) h.1).symm.trans hx
    rw [hgone, ite_self] at hlines
    refine ⟨hvl.of_lines hlines, ?_, ⟨hi, by rw [ht, htime]⟩, ?_, ?_⟩
    · rw [unchangedBut_iff] at hframe hsame ⊢
      simp at hframe hsame ⊢
      simp [hsame]
    · simpa only [List.nil_append] using hrec (appendsAll_nil hj) (by rw [htrunk])
    · rw [htr]
      simp only [noticesWith, htrunk, htime]
  · refine ⟨hvl, ?_, ⟨?_, by rw [htime]; simp⟩, appendsAll_nil hj, ?_⟩
    · rw [unchangedBut_iff] at hsame ⊢
      simp at hsame ⊢
      simp [hsame]
    · rw [hissue, sessionsEnded_nil]
    · rw [htrunk]
      rfl

end

theorem exec_commandFailed {s : State} {l : LineNo} {a : Addr} {e : Exchange} {c : Command} {duty : Bool} {fate : Fate}
    {i : Instr} (hf : flying s l e) (hk : e.kind = .command a c duty fate)
    (hi : i = .commandNotDelivered l ∨ i = .stretchLimitExceeded l) (hd : configured (begunUnder s l e a) = true) :
    exec i s = .next (settle (missedAnswer (failedAttempt (endExchange s l) { line := l, addr := a } c duty fate)
      { line := l, addr := a })) := by
  have hin := inFlight_of_flying hf
  have hfail : commandFailed s l e a c duty fate =
      missedAnswer (failedAttempt (endExchange s l) { line := l, addr := a } c duty fate) { line := l, addr := a } := by
    simp only [commandFailed, missIf, doorDuring_eq, hd, if_true]
  rcases hi with rfl | rfl
  · simp only [exec, execCommandNotDelivered, hin, hk, hfail]
    rfl
  · simp only [exec, execStretchLimitExceeded, hin, abandon, hk, hfail]
    rfl

/-- A failed attempt leaves its node's count and presence. -/
theorem lineAttempted_presence (d : LineCtl) (a : Addr) (c : Command) (duty : Bool) (fate : Fate) :
    (look (lineAttempted d a c duty fate).nodes a).missed = (look d.nodes a).missed ∧
      (look (lineAttempted d a c duty fate).nodes a).silent = (look d.nodes a).silent := by
  unfold lineAttempted
  dsimp only
  split
  · simp
  · split
    · simp
    · split <;> simp

/-- A line and its node after a missed answer. -/
def lineMissed (d : LineCtl) (a : Addr) : LineCtl := { d with nodes := put d.nodes a (nodeMissed (look d.nodes a)) }

/-- The sessions that a failed attempt ends are all the node's, or none. -/
theorem attemptSessions_cases (s : State) (l : LineNo) (a : Addr) (c : Command) (duty : Bool) (fate : Fate) :
    let n : Node := { line := l, addr := a }
    ((attemptDrops (look (lineOf s l).nodes a) c duty fate ∧ isSessionCommand c = true ∧
        ∃ k ∈ endable s n, (ctxOf s k).state = if c = .prepare then .awaitBlank else .writing) →
      attemptSessions s l a c duty fate = endable s n ∧
        ∃ k, endable s n = [k] ∧ ctxOfNode s n = some k ∧ (ctxOf s k).outcome = none) ∧
    (¬ (attemptDrops (look (lineOf s l).nodes a) c duty fate ∧ isSessionCommand c = true ∧
        ∃ k ∈ endable s n, (ctxOf s k).state = if c = .prepare then .awaitBlank else .writing) →
      attemptSessions s l a c duty fate = []) := by
  intro n
  refine ⟨fun ⟨hd, hs, k, hk, hst⟩ => ?_, fun h => ?_⟩
  · rcases endable_cases s n with he | ⟨j, he, hj, hout⟩
    · rw [he] at hk
      cases hk
    · obtain rfl : k = j := by simpa [he] using hk
      refine ⟨?_, k, he, hj, hout⟩
      rw [attemptSessions, if_pos ⟨hd, hs⟩, droppedSession, show endable s { line := l, addr := a } = [k] from he]
      simp [hst]
  · unfold attemptSessions
    split
    · next hd =>
      refine List.filter_eq_nil_iff.2 fun k hk hst => h ⟨hd.1, hd.2, k, hk, of_decide_eq_true hst⟩
    · rfl

/-- The missed answer after a failed attempt, before a session ends with the silence. -/
structure AttemptMissed (s : State) (l : LineNo) (a : Addr) (d : LineCtl) (ks : List (Fin 2)) (m : State) : Prop where
  line : LineSet l (lineMissed d a) s m
  same : unchangedBut [.time, .lines, .issue, .journal, .trunk] s m
  ended : endedOn s m { line := l, addr := a } ks .encoderUnreachable
  records : appendsAll s m
    (endRecords s ks .encoderUnreachable ++
      if fallsSilent (look (lineOf s l).nodes a) then
        [{ stampedRecord s .nodeSilent with node := some (.node { line := l, addr := a }) }]
      else [])
  trunk : m.trunk =
    { s.trunk with
      notices := noticesWith s
        (endNotices s ks .encoderUnreachable ++
          if fallsSilent (look (lineOf s l).nodes a) then [.nodeSilent { line := l, addr := a }] else []) }

theorem CommandAttempted.missed {s u : State} {l : LineNo} {a : Addr} {c : Command} {duty : Bool} {fate : Fate}
    {ks : List (Fin 2)} (h : CommandAttempted s l a c duty fate ks u) :
    AttemptMissed s l a (lineAttempted { lineOf s l with exchange := none } a c duty fate) ks
        (missCounted u { line := l, addr := a }) ∧
      missedAnswer u { line := l, addr := a } =
        if fallsSilent (look (lineOf s l).nodes a) then
          endNodeSession (missCounted u { line := l, addr := a }) { line := l, addr := a } .encoderSilent
        else missCounted u { line := l, addr := a } := by
  obtain ⟨hmissed, hsilent⟩ := lineAttempted_presence { lineOf s l with exchange := none } a c duty fate
  have hfalls : fallsSilent (nodeOf u { line := l, addr := a }) ↔ fallsSilent (look (lineOf s l).nodes a) := by
    rw [nodeOf, h.line.line]
    dsimp only [fallsSilent]
    rw [hmissed, hsilent]
  have hm := (unchangedBut_iff _ _ _).1 (missCounted_same u { line := l, addr := a })
  have hu := (unchangedBut_iff _ _ _).1 h.same
  have hclock : u.time.clock = s.time.clock := by rw [h.ended.2]
  have hchain : u.trunk.chain = s.trunk.chain := by rw [h.trunk]
  simp at hm hu
  refine ⟨⟨missCounted_line h.line, ?_, ?_, ?_, ?_⟩, ?_⟩
  · rw [unchangedBut_iff]
    simp [hm, hu]
  · obtain ⟨hi, ht⟩ := h.ended
    exact ⟨by rw [← hi]; simp [hm], by rw [← ht]; simp [hm]⟩
  · have hrec := missCounted_records { line := l, addr := a } h.records hchain hclock
    simpa only [hfalls] using hrec
  · rw [missCounted_trunk, noticesWith_append, h.trunk]
    simp only [hfalls, noticesWith, hclock, h.trunk]
  · rw [missedAnswer_eq]
    simp only [hfalls]

/-- A withdrawal that finds no session's command leaves the lines. -/
theorem endNodeSession_quietLines {m : State} {n : Node} {why : FailReason} (hw : why ≠ .timeout)
    (h : ∀ x, (nodeOf m n).command = some x → isSessionCommand x = false) : (endNodeSession m n why).lines = m.lines := by
  rw [(endNodeSession_ended m n hw).lines, linesWithdrawn_other h, ite_self]

theorem unchangedBut.step {bs : List Block} {s t u : State} (h : unchangedBut bs s t) (g : unchangedBut bs t u) :
    unchangedBut bs s u := by
  refine ⟨g.1.trans h.1, fun b hb => ?_⟩
  have h1 := h.2 b hb
  have h2 := g.2 b hb
  cases b
  case journal => exact h2.trans (congrArg (fun j => { j with offer := u.journal.offer }) h1)
  case trunk => exact h2.trans (congrArg (fun x => { x with upRo := u.trunk.upRo, downRo := u.trunk.downRo }) h1)
  all_goals exact h2.trans h1

/-- Settles O22: the failed attempt first, then the missed answer; the session ends with the drop, and else with the silence. -/
theorem failedCommandIsRetried : Obligations.FailedCommandIsRetried := by
  intro s l a e c duty fate i hf hk hi n x always tail drops unreachable silenced why silent alarm ended told withNode left hd
  obtain ⟨u, hu⟩ : ∃ u, u = failedAttempt (endExchange s l) n c duty fate := ⟨_, rfl⟩
  obtain ⟨d, hdl⟩ : ∃ d, d = lineAttempted { lineOf s l with exchange := none } a c duty fate := ⟨_, rfl⟩
  obtain ⟨m, hm⟩ : ∃ m, m = missCounted u n := ⟨_, rfl⟩
  have hatt : CommandAttempted s l a c duty fate (attemptSessions s l a c duty fate) u := hu ▸ failedAttempt_attempted
  obtain ⟨hmissed, hans⟩ := hatt.missed
  rw [← hdl, ← hm] at hmissed
  rw [← hm] at hans
  have hexec := exec_commandFailed hf hk hi hd
  rw [← hu, hans] at hexec
  have hidle : d.exchange = none := hdl ▸ lineAttempted_idle rfl
  have hleft : lineMissed d a = left := by
    rw [hdl]
    by_cases h1 : drops ∨ fate = .withdrawn
    · rw [lineAttempted_drops (d := { lineOf s l with exchange := none }) h1, show left = _ from if_pos h1]
      simp only [lineMissed, look_put_same, put_put, withNode, x]
    · by_cases h2 : fate = .live ∧ ¬ always
      · rw [lineAttempted_again (d := { lineOf s l with exchange := none }) h1 h2,
          show left = _ from (if_neg h1).trans (if_pos h2)]
        simp only [lineMissed, look_put_same, put_put, withNode, x, tail, toTail]
      · by_cases h3 : fate = .live ∨ fate = .replaced
        · rw [lineAttempted_free (d := { lineOf s l with exchange := none }) h1 h2 h3,
            show left = _ from (if_neg h1).trans ((if_neg h2).trans (if_pos h3))]
          simp only [lineMissed, withNode, x, tail, toTail]
        · rw [lineAttempted_over (d := { lineOf s l with exchange := none }) h1 h2 h3,
            show left = _ from (if_neg h1).trans ((if_neg h2).trans (if_neg h3))]
          simp only [lineMissed, withNode, x]
  obtain ⟨hline, hsame, hended, hrecords, htrunk⟩ := hmissed
  have hmline : ∀ y, (nodeOf m n).command = some y → (look d.nodes a).command = some y := fun y hy => by
    rw [nodeOf, hline.line, lineMissed, look_put_same, nodeMissed_command] at hy
    exact hy
  have hsilent : (nodeOf m n).silent = true ↔ fallsSilent x ∨ x.silent = true := by
    obtain ⟨hp, hq⟩ := lineAttempted_presence { lineOf s l with exchange := none } a c duty fate
    rw [← hdl] at hp hq
    rw [nodeOf, hline.line, lineMissed, look_put_same, nodeMissed_silent]
    dsimp only [fallsSilent]
    rw [hp, hq]
  rw [hleft] at hline
  obtain ⟨hdropped, hkept⟩ := attemptSessions_cases s l a c duty fate
  by_cases hun : unreachable
  · -- the drop ends the session
    obtain ⟨hks, k, hend, hnode, hout⟩ := hdropped hun
    rw [hks] at hended hrecords htrunk
    have hnsil : ¬ silenced := fun h => h.1 hun
    have hwhy : why = .encoderUnreachable := if_pos hun
    have hgone : ∀ y, (nodeOf m n).command = some y → isSessionCommand y = false := fun y hy => by
      have := (lineAttempted_dropped (d := { lineOf s l with exchange := none }) hun.1).symm.trans (hdl ▸ hmline y hy)
      cases this
    obtain ⟨t, ht⟩ : ∃ t, t = if fallsSilent (look (lineOf s l).nodes a) then endNodeSession m n .encoderSilent else m := ⟨_, rfl⟩
    rw [← ht] at hexec
    have hlines : t.lines = m.lines := by
      rw [ht]
      split
      · exact endNodeSession_quietLines nofun hgone
      · rfl
    have hset := hline.of_lines (u := settle t) (by simpa using hlines)
    refine ⟨settle t, hexec, ?_, hset.others, ?_, fun h => absurd hun h, fun hsound _ => ?_⟩
    · refine unchangedBut.settled (ht ▸ ?_)
      split
      · exact hsame.step (endNodeSession_ended m n (why := .encoderSilent) nofun).same
      · exact hsame
    · rw [if_neg hnsil]
      exact hset.line
    · have hquiet : t = m := by
        rw [ht]
        split
        · exact endNodeSession_none (endable_ended hsound hnode (hend ▸ hended.1)) _
        · rfl
      rw [hquiet, if_pos hun, if_pos hun, hwhy]
      have hrecs : ended = endRecords s (endable s n) .encoderUnreachable := by simp only [ended, hwhy]
      refine ⟨?_, ?_, by simpa using hended.1, hrecs ▸ hrecords.settled, trunkIs.settled (trunkIs_of_eq ?_), ?_⟩
      · simpa [sessionCommandGone, nodeOf, lineOf] using hgone
      · have := hended.2
        rw [if_neg (by rw [show endable s { line := l, addr := a } = [k] from hend]; simp)] at this
        simpa [timeoutCancelled] using this
      · rw [htrunk]
        simp only [told, hwhy, alarm, x, n]
      · simpa [nodeOf, lineOf] using hsilent
  · rw [hkept hun] at hended hrecords htrunk
    obtain ⟨hissue, htime⟩ := hended
    rw [sessionsEnded_nil] at hissue
    rw [if_pos rfl] at htime
    have hplain : unchangedBut [.lines, .journal, .trunk] s m := by
      rw [unchangedBut_iff] at hsame ⊢
      simp at hsame ⊢
      simp [hsame, hissue, htime]
    have hwhy : why = .encoderSilent := if_neg hun
    by_cases hsil : silenced
    · -- the silence ends the session
      have hfalls : fallsSilent (look (lineOf s l).nodes a) := hsil.2.1
      have hends : endable m n = endable s n := endable_congr hissue n
      rw [if_pos hfalls] at hexec
      obtain ⟨hframe, hlines, hended, hrec, htr⟩ := endNodeSession_ended m n (why := .encoderSilent) nofun
      rw [hends] at hlines hended hrec htr
      obtain ⟨hes, her, hen⟩ := endings_congr hissue (congrArg TimeUnit.clock htime) (endable s n) .encoderSilent
      rw [if_neg hsil.2.2] at hlines
      have hset : LineSet l (lineWithdrawn left a) s (settle (endNodeSession m n .encoderSilent)) := by
        have hput := hline.set (lineWithdrawn (lineOf m l) a)
        refine LineSet.of_lines (c := lineWithdrawn left a) (t := setLine m l (lineWithdrawn (lineOf m l) a)) ?_ ?_
        · rwa [hline.line] at hput ⊢
        · simp [hlines, linesWithdrawn, setLine, n]
      refine ⟨_, hexec, (hsame.step hframe).settled, hset.others, ?_, fun _ h => absurd hsil h, fun _ _ => ?_⟩
      · rw [if_pos hsil]
        exact hset.line
      · have hcommand : (lineOf (settle (endNodeSession m n .encoderSilent)) l) = lineWithdrawn left a := hset.line
        have hidle' : left.exchange = none := by rw [← hleft]; exact hidle
        rw [if_neg hun, if_neg hun, hwhy]
        refine ⟨fun y hy => ?_, ?_, ?_, ?_, trunkIs.settled (trunkIs_of_eq ?_), ?_⟩
        · rw [nodeOf, hcommand] at hy
          exact lineWithdrawn_gone left a hidle' y hy
        · have htime' := hended.2
          rw [if_neg hsil.2.2, htime] at htime'
          simpa [timeoutCancelled] using htime'
        · simpa [hes] using hended.1
        · have := hrec hrecords (by rw [htrunk])
          rw [her, if_pos hfalls] at this
          simp only [endRecords, List.filter_nil, List.map_nil, List.nil_append] at this
          have hsilence : silent = _ := if_pos hfalls
          rw [show ended = endRecords s (endable s n) .encoderSilent by simp only [ended, hwhy], hsilence]
          exact this.settled
        · have halarm : alarm = [.nodeSilent n] := if_pos hfalls
          rw [htr, hen, show told = endNotices s (endable s n) .encoderSilent by simp only [told, hwhy], halarm,
            noticesWith_append, htrunk, if_pos hfalls]
          have hnil : endNotices s [] .encoderUnreachable = [] := rfl
          simp only [noticesWith, htime, htrunk, hnil, if_pos hfalls, List.nil_append, n]
        · rw [nodeOf, hcommand, lineWithdrawn_silent, ← hline.line]
          exact hsilent
    · -- no session ends
      have hquiet : (if fallsSilent (look (lineOf s l).nodes a) then endNodeSession m n .encoderSilent else m) = m := by
        split
        · next hfalls =>
          have hnone : endable s n = [] := by
            by_contra he
            exact hsil ⟨hun, hfalls, he⟩
          exact endNodeSession_none ((endable_congr hissue n).trans hnone) _
        · rfl
      rw [hquiet] at hexec
      have hset := hline.of_lines (u := settle m) (by simp)
      refine ⟨_, hexec, hsame.settled, hset.others, ?_, fun _ _ => ⟨hplain.settled, ?_, ?_⟩, fun _ h => (h.elim hun hsil).elim⟩
      · rw [if_neg hsil]
        exact hset.line
      · intro hfalls
        rw [if_pos hfalls] at hrecords htrunk
        exact ⟨hrecords.settled, trunkIs.settled (trunkIs_of_eq htrunk)⟩
      · intro hfalls
        rw [if_neg hfalls] at hrecords htrunk
        exact ⟨hrecords.settled, trunkIs.settled (trunkIs_of_eq htrunk)⟩

end Sys2Proof.Machine
end

section
/-!
What an answer reports of a door (03_door_lines.md, R37; 05_admission.md, R91, R92, R96): its contact reports one after another,
and its deadbolt with the privacy write derived from it.
-/

namespace Sys2Proof.Machine

/-! ### One contact report (R91, R92) -/

section
variable (s : State) (n : Node) (v : Bool)

/-- RELOCK is pending for a node. -/
def relockPending (s : State) (n : Node) : Bool := s.time.deadlines.any fun d => d.node == n && d.kind == .relock

theorem armed_relock : armed s n .relock = relockPending s n := by
  have : ∀ d : Deadline, (decide (d.node = n) && decide (d.kind = .relock)) = (d.node == n && d.kind == .relock) := fun d => by
    simp [BEq.beq]
  simp only [armed, relockPending, this]

/-- What one contact report does to a door, at its state and deadlines now. -/
abbrev contactSaid (s : State) (n : Node) (v : Bool) : DoorState × List RecordKind × Option Bool :=
  contactReported (relockPending s n) (trackOf s n).state v

theorem contactReported_open (r : Bool) (d : DoorState) :
    contactReported r d true =
      match d with
      | .unknown => (.opened, [], some true)
      | .locked => (.forced, [.doorForced], none)
      | .unlocked => (.opened, [], some true)
      | other => (other, [], none) := rfl

theorem contactReported_closed (r : Bool) (d : DoorState) :
    contactReported r d false =
      match d with
      | .unknown => (.locked, [], none)
      | .opened => (if r then .unlocked else .locked, [], some false)
      | .held => (if r then .unlocked else .locked, [.doorSecured], none)
      | .forced => (if r then .unlocked else .locked, [.doorSecured], none)
      | other => (other, [], none) := rfl

theorem closedState_eq : closedState s n = if relockPending s n = true then .unlocked else .locked := by
  rw [closedState, armed_relock]

theorem contactReport_tracker :
    (contactReport s n v).tracker =
      (setTrack s n { trackOf s n with state := (contactSaid s n v).1, contact := some v }).tracker := by
  have moved : ∀ (t : State) (d : DoorState), t.tracker = (setContact s n v).tracker →
      (setDoorState t n d).tracker = (setTrack s n { trackOf s n with state := d, contact := some v }).tracker := fun t d h => by
    have htrack : trackOf t n = { trackOf s n with contact := some v } := by
      rw [trackOf, h]
      exact (trackOf_setTrack s n n _).trans (if_pos rfl)
    simp [setDoorState, htrack, setTrack, h, setContact, put_put]
  have kept : (setContact s n v).tracker =
      (setTrack s n { trackOf s n with state := (trackOf s n).state, contact := some v }).tracker := rfl
  unfold contactReport
  cases v
  · rw [if_neg nofun]
    unfold contactClosed
    split
    case h_1 h => simpa [contactSaid, contactReported_closed, h] using moved _ .locked rfl
    case h_4 h => simpa [contactSaid, contactReported_closed, h, ← closedState_eq] using moved (cancel (setContact s n false) n .held) (closedState s n) (by simp)
    case h_5 h => simpa [contactSaid, contactReported_closed, h, ← closedState_eq] using moved (appendNode (setContact s n false) .doorSecured n .absent) (closedState s n) (by simp)
    case h_6 h => simpa [contactSaid, contactReported_closed, h, ← closedState_eq] using moved (appendNode (setContact s n false) .doorSecured n .absent) (closedState s n) (by simp)
    all_goals (next h => simpa [contactSaid, contactReported_closed, h] using kept)
  · rw [if_pos rfl]
    unfold contactOpen
    split
    case h_1 h => simpa [contactSaid, contactReported_open, h, armHeld] using moved (setContact s n true) .opened rfl
    case h_2 h => simpa [contactSaid, contactReported_open, h] using moved (setContact s n true) .forced rfl
    case h_3 h => simpa [contactSaid, contactReported_open, h, armHeld] using moved (setContact s n true) .opened rfl
    all_goals (next h => simpa [contactSaid, contactReported_open, h] using kept)

theorem contactReport_time :
    (contactReport s n v).time =
      match (contactSaid s n v).2.2 with
      | none => s.time
      | some true => (armHeld s n).time
      | some false => (cancel s n .held).time := by
  have held : ∀ d, (armHeld (setDoorState (setContact s n v) n d) n).time = (armHeld s n).time := fun d => by
    have hd : doorOf (setDoorState (setContact s n v) n d) n = doorOf s n := doorOf_congr rfl rfl n
    have hc : doorClass (setDoorState (setContact s n v) n d) n = doorClass s n := doorClass_congr rfl rfl n
    rw [armHeld, hc]
    exact arm_congr _ _ rfl hd
  unfold contactReport
  cases v
  · rw [if_neg nofun]
    unfold contactClosed
    split
    all_goals (next h => simp [contactSaid, contactReported_closed, h, setDoorState, setContact, cancel, setDeadlines])
  · rw [if_pos rfl]
    unfold contactOpen
    split
    case h_1 h => simpa [contactSaid, contactReported_open, h] using held _
    case h_3 h => simpa [contactSaid, contactReported_open, h] using held _
    all_goals (next h => simp [contactSaid, contactReported_open, h, setDoorState, setContact])

/-- The records of a contact report, about the door. -/
def contactRecord (s : State) (n : Node) (r : RecordKind) : Record := { stampedRecord s r with node := some (.node n) }

theorem contactReport_records {b : State} {rs : List Record} (h : appendsAll b s rs) (hc : s.trunk.chain = b.trunk.chain) :
    appendsAll b (contactReport s n v) (rs ++ (contactSaid s n v).2.1.map (contactRecord s n)) := by
  have told : ∀ (t u : State) (r : RecordKind), t.journal = s.journal → t.trunk = s.trunk → t.time.clock = s.time.clock →
      u.journal = (appendNode t r n .absent).journal → appendsAll b u (rs ++ [contactRecord s n r]) := fun t u r hj ht hcl hu => by
    have hrec := (h.of_journal (u := t) hj).record (by rw [ht]; exact hc) (contactRecord s n r)
    refine hrec.of_journal ?_
    rw [hu, appendNode, stampedRecord_congr hcl]
    rfl
  have quiet : ∀ u : State, u.journal = s.journal → appendsAll b u (rs ++ [].map (contactRecord s n)) := fun u hu => by
    simpa using h.of_journal hu
  unfold contactReport
  cases v
  · rw [if_neg nofun]
    unfold contactClosed
    split
    case h_5 h => simpa [contactSaid, contactReported_closed, h] using told (setContact s n false) _ .doorSecured rfl rfl rfl (by simp [setDoorState])
    case h_6 h => simpa [contactSaid, contactReported_closed, h] using told (setContact s n false) _ .doorSecured rfl rfl rfl (by simp [setDoorState])
    all_goals (next h => simpa [contactSaid, contactReported_closed, h] using quiet _ (by simp [setDoorState, setContact]))
  · rw [if_pos rfl]
    unfold contactOpen
    split
    case h_2 h =>
      simpa [contactSaid, contactReported_open, h] using
        told (setDoorState (setContact s n true) n .forced) _ .doorForced rfl rfl rfl (by simp)
    all_goals (next h => simpa [contactSaid, contactReported_open, h] using quiet _ (by simp [setDoorState, setContact, armHeld]))

theorem contactReport_trunk :
    (contactReport s n v).trunk =
      { s.trunk with
        notices := noticesWith s (((contactSaid s n v).2.1.filter fun r => r == .doorForced).map fun _ => .doorForced n) } := by
  unfold contactReport
  cases v
  · rw [if_neg nofun]
    unfold contactClosed
    split
    all_goals (next h => simp [contactSaid, contactReported_closed, h, setDoorState, setContact, noticesWith])
  · rw [if_pos rfl]
    unfold contactOpen
    split
    case h_2 h => simp [contactSaid, contactReported_open, h, pushNotice_eq, noticesAfter, noticesWith, setDoorState, setContact]
    all_goals (next h => simp [contactSaid, contactReported_open, h, setDoorState, setContact, noticesWith, armHeld])

end


/-! ### Reports one after another (R37) -/

theorem contactsReported_acc (r : Bool) (d : DoorState) (ks : List RecordKind) (h : Option Bool) (qs : List Bool) :
    qs.foldl
        (fun x opened =>
          let y := contactReported r x.1 opened
          (y.1, x.2.1 ++ y.2.1, y.2.2.or x.2.2))
        (d, ks, h) =
      ((contactsReported r d qs).1, ks ++ (contactsReported r d qs).2.1, (contactsReported r d qs).2.2.or h) := by
  unfold contactsReported
  induction qs generalizing d ks h with
  | nil => simp
  | cons q qs ih =>
    simp only [List.foldl_cons]
    rw [ih (contactReported r d q).1 (ks ++ _), ih (contactReported r d q).1 ([] ++ _)]
    simp only [List.nil_append, Option.or_none, List.append_assoc, Option.or_assoc]

theorem contactsReported_append (r : Bool) (d : DoorState) (rs qs : List Bool) :
    contactsReported r d (rs ++ qs) =
      ((contactsReported r (contactsReported r d rs).1 qs).1,
        (contactsReported r d rs).2.1 ++ (contactsReported r (contactsReported r d rs).1 qs).2.1,
        (contactsReported r (contactsReported r d rs).1 qs).2.2.or (contactsReported r d rs).2.2) := by
  rw [← contactsReported_acc, contactsReported, List.foldl_append]
  rfl

theorem contactsReported_one (r : Bool) (d : DoorState) (v : Bool) : contactsReported r d [v] = contactReported r d v := by
  simp [contactsReported]

/-- What contact reports do to a door, at its state and deadlines now. -/
def contactsSaid (s : State) (n : Node) (rs : List Bool) : DoorState × List RecordKind × Option Bool :=
  contactsReported (relockPending s n) (trackOf s n).state rs

/-! ### HELD after contact reports (R91, R92) -/

/-- HELD of a door armed, cancelled or left (R91, R92). -/
def heldMoved (s : State) (n : Node) (o : Option Bool) (t : State) : Prop :=
  let others := fun (ds : List Deadline) => ds.filter fun d => !(d.node == n && d.kind == .held)
  let limit := (classOf s (doorOf s n).cls).heldLimit
  (o = none → t.time.deadlines = s.time.deadlines) ∧
    (o = some false → t.time.deadlines = others s.time.deadlines) ∧
    (o = some true →
      others t.time.deadlines = others s.time.deadlines ∧
        (isDoor (doorOf s n) = true → 1 ≤ limit.toNat → limit.toNat ≤ 6000 →
          t.time.deadlines.filter (fun d => d.node == n && d.kind == .held) =
            [{ due := s.time.tick + limit.setWidth 32, node := n, kind := .held }]) ∧
        (isDoor (doorOf s n) = false → ∀ d ∈ t.time.deadlines, d ∈ s.time.deadlines))

section
variable {s t u : State} {n : Node} {o p : Option Bool}

theorem heldMoved.others (h : heldMoved s n o t) :
    t.time.deadlines.filter (fun d => !(d.node == n && d.kind == .held)) =
      s.time.deadlines.filter fun d => !(d.node == n && d.kind == .held) := by
  obtain ⟨h0, h1, h2⟩ := h
  match o with
  | none => rw [h0 rfl]
  | some false =>
    rw [h1 rfl, List.filter_filter]
    simp only [Bool.and_self]
  | some true => exact (h2 rfl).1

theorem heldMoved.subset (h : heldMoved s n o t) (hd : isDoor (doorOf s n) = false) :
    ∀ d ∈ t.time.deadlines, d ∈ s.time.deadlines := by
  obtain ⟨h0, h1, h2⟩ := h
  match o with
  | none => simp [h0 rfl]
  | some false =>
    rw [h1 rfl]
    exact fun d hd => (List.mem_filter.1 hd).1
  | some true => exact (h2 rfl).2.2 hd

theorem heldMoved.relock (h : heldMoved s n o t) : relockPending t n = relockPending s n := by
  have any : ∀ ds : List Deadline, (ds.any fun d => d.node == n && d.kind == .relock) =
      ((ds.filter fun d => !(d.node == n && d.kind == .held)).any fun d => d.node == n && d.kind == .relock) := fun ds => by
    rw [List.any_filter]
    congr 1
    funext d
    by_cases hk : d.kind = .relock <;> simp [hk]
  rw [relockPending, any, h.others, ← any]
  rfl

/-- One move of HELD after another. -/
theorem heldMoved.step (h : heldMoved s n o t) (g : heldMoved t n p u) (htick : t.time.tick = s.time.tick)
    (hl : t.loader = s.loader) (hst : t.store = s.store) : heldMoved s n (p.or o) u := by
  have hd : doorOf t n = doorOf s n := doorOf_congr hl hst n
  have hc : classOf t (doorOf s n).cls = classOf s (doorOf s n).cls := classOf_congr hl hst _
  obtain ⟨g0, g1, g2⟩ := g
  match p with
  | none =>
    have he : u.time.deadlines = t.time.deadlines := g0 rfl
    rw [Option.none_or]
    simpa only [heldMoved, he] using h
  | some false =>
    refine ⟨nofun, fun _ => ?_, nofun⟩
    rw [g1 rfl]
    exact h.others
  | some true =>
    obtain ⟨ho, hentry, hsub⟩ := g2 rfl
    rw [hd] at hentry hsub
    rw [hc, htick] at hentry
    exact ⟨nofun, nofun, fun _ => ⟨ho.trans h.others, hentry, fun hn d hm => h.subset hn d (hsub hn d hm)⟩⟩

end

theorem heldMoved.same {s t : State} {n : Node} (h : t.time = s.time) : heldMoved s n none t :=
  ⟨fun _ => by rw [h], nofun, nofun⟩

theorem contactReport_held (s : State) (n : Node) (v : Bool) :
    heldMoved s n (contactSaid s n v).2.2 (contactReport s n v) := by
  have ht := contactReport_time s n v
  have filtered : (cancel s n .held).time.deadlines = s.time.deadlines.filter fun d => !(d.node == n && d.kind == .held) := by
    simp [cancel, setDeadlines, BEq.beq]
  rcases h : (contactSaid s n v).2.2 with _ | b
  · rw [h] at ht
    exact .same ht
  · rw [h] at ht
    cases b
    · refine ⟨nofun, fun _ => ?_, nofun⟩
      rw [ht]
      exact filtered
    · refine ⟨nofun, nofun, fun _ => ?_⟩
      rw [ht]
      refine ⟨arm_others _ _ _ _, fun hd h1 h2 => ?_, fun hd => ?_⟩
      · have hw : ((doorClass s n).heldLimit.setWidth 32).toNat = (doorClass s n).heldLimit.toNat := by
          simp
          omega
        exact arm_entry _ _ _ _ (by rw [belongs_isDoor (.inr rfl), hd]) (by rw [hw]; exact h1) (by rw [hw]; exact h2)
      · rw [show (armHeld s n).time = s.time from arm_noDoor _ (.inr rfl) hd]
        exact fun _ h => h


/-! ### The privacy write (R96) -/

theorem mergeWrite_eq (w : PrivacyWrite) (ws : List PrivacyWrite) :
    mergeWrite w ws =
      ws.takeWhile (fun x => x.room != w.room) ++ w :: (ws.dropWhile fun x => x.room != w.room).tail := by
  induction ws with
  | nil => rfl
  | cons x xs ih => by_cases h : x.room = w.room <;> simp [mergeWrite, h, ih]

/-- A room's write replaces the one the room had a moment before. -/
theorem mergeWrite_twice {v w : PrivacyWrite} (h : v.room = w.room) (ws : List PrivacyWrite) :
    mergeWrite w (mergeWrite v ws) = mergeWrite w ws := by
  induction ws with
  | nil => simp [mergeWrite, h]
  | cons x xs ih => by_cases hx : x.room = w.room <;> simp [mergeWrite, hx, h, ih]

theorem findRoom_congr {s t : State} (hl : t.loader = s.loader) (hs : t.store = s.store) (r : Half) :
    findRoom t r = findRoom s r := by
  have hroom : ∀ i, roomOf t i = roomOf s i := fun i => by simp only [roomOf, hl, hs]
  simp only [findRoom, hroom]

theorem derivedPrivacy_eq (s : State) (room : Half) :
    derivedPrivacy s room =
      (List.finRange 128).any fun i =>
        decide ((doorAt s i).kind = .roomDoor) && decide ((doorAt s i).room = room) && (trackOf s (nodeAt i)).deadbolt := by
  simp only [derivedPrivacy, slots, trackOf, nodeIndex_nodeAt]

theorem writesDerived_eq (t : State) (room : Half) (n : Option Node) (ws : List PrivacyWrite) :
    writesDerived t room n ws =
      if findRoom t room = none then ws
      else mergeWrite { room := room, node := n, value := derivedPrivacy t room } ws := by
  simp only [writesDerived, mergeWrite_eq, derivedPrivacy_eq]

section
variable {s t u : State} {n : Node} {room : Half}

theorem writesDerived_congr (hl : u.loader = t.loader) (hst : u.store = t.store)
    (hb : ∀ m, (trackOf u m).deadbolt = (trackOf t m).deadbolt) (m : Option Node) (ws : List PrivacyWrite) :
    writesDerived u room m ws = writesDerived t room m ws := by
  have hd : ∀ i, doorAt u i = doorAt t i := fun i => by simp only [doorAt, hl, hst]
  simp only [writesDerived, findRoom_congr hl hst, hd, hb]

theorem writesDerived_twice (hl : u.loader = t.loader) (hst : u.store = t.store) (m : Option Node)
    (ws : List PrivacyWrite) : writesDerived u room m (writesDerived t room m ws) = writesDerived u room m ws := by
  simp only [writesDerived_eq, findRoom_congr hl hst]
  split
  · rfl
  · exact mergeWrite_twice (v := { room := room, node := m, value := derivedPrivacy t room })
      (w := { room := room, node := m, value := derivedPrivacy u room }) rfl ws

end

/-! ### A door's answer (R37) -/

/-- What contact reports and a deadbolt leave of a door. -/
structure DoorSaid (s : State) (n : Node) (reports : List Bool) (bolt : Option Bool) (t : State) : Prop where
  same : unchangedBut [.time, .tracker, .journal, .trunk] s t
  others : ∀ m, m ≠ n → trackOf t m = trackOf s m
  track : trackOf t n =
    { state := (contactsSaid s n reports).1, contact := reports.getLast?.or (trackOf s n).contact
      deadbolt := bolt.getD (trackOf s n).deadbolt }
  writes : t.tracker.writes =
    if bolt = none then s.tracker.writes else writesDerived t (doorOf s n).room (some n) s.tracker.writes
  time : t.time = { s.time with deadlines := t.time.deadlines }
  held : heldMoved s n (contactsSaid s n reports).2.2 t
  records : ∀ {b : State} {rs : List Record}, appendsAll b s rs → s.trunk.chain = b.trunk.chain →
    appendsAll b t (rs ++ (contactsSaid s n reports).2.1.map (contactRecord s n))
  trunk : t.trunk =
    { s.trunk with
      notices := noticesWith s
        (((contactsSaid s n reports).2.1.filter fun r => r == .doorForced).map fun _ => .doorForced n) }

section
variable {s t u : State} {n : Node}

theorem DoorSaid.nil (s : State) (n : Node) : DoorSaid s n [] none s where
  same := by rw [unchangedBut_iff]; simp
  others _ _ := rfl
  track := by simp [contactsSaid, contactsReported]
  writes := rfl
  time := rfl
  held := .same rfl
  records h _ := by simpa [contactsSaid, contactsReported] using h
  trunk := by simp [contactsSaid, contactsReported, noticesWith]

theorem DoorSaid.contact (s : State) (n : Node) (v : Bool) : DoorSaid s n [v] none (contactReport s n v) := by
  have hsaid : contactsSaid s n [v] = contactSaid s n v := contactsReported_one _ _ _
  have htrack : ∀ m, trackOf (contactReport s n v) m =
      trackOf (setTrack s n { trackOf s n with state := (contactSaid s n v).1, contact := some v }) m := fun m =>
    congrArg (fun k : Tracker => look k.doors (nodeIndex m)) (contactReport_tracker s n v)
  refine ⟨?_, fun m hm => ?_, ?_, ?_, ?_, ?_, fun h hc => ?_, ?_⟩
  · rw [unchangedBut_iff]
    simp
  · rw [htrack, trackOf_setTrack, if_neg hm]
  · rw [htrack, trackOf_setTrack, if_pos rfl, hsaid]
    rfl
  · simp
  · exact TimeUnit.eq_withDeadlines (by simp) (by simp) (by simp) (by simp)
  · rw [hsaid]
    exact contactReport_held s n v
  · rw [hsaid]
    exact contactReport_records s n v h hc
  · rw [hsaid]
    exact contactReport_trunk s n v

theorem DoorSaid.deadbolt (s : State) (n : Node) (v : Bool) : DoorSaid s n [] (some v) (deadboltReport s n v) := by
  have hdoors : (deadboltReport s n v).tracker.doors = (setTrack s n { trackOf s n with deadbolt := v }).tracker.doors := by
    simp [deadboltReport]
  have htrack : ∀ m, trackOf (deadboltReport s n v) m = trackOf (setTrack s n { trackOf s n with deadbolt := v }) m :=
    fun m => congrArg (fun k => look k (nodeIndex m)) hdoors
  refine ⟨?_, fun m hm => ?_, ?_, ?_, ?_, ?_, fun h hc => ?_, ?_⟩
  · rw [unchangedBut_iff]
    simp
  · rw [htrack, trackOf_setTrack, if_neg hm]
  · rw [htrack, trackOf_setTrack, if_pos rfl]
    simp [contactsSaid, contactsReported]
  · rw [if_neg nofun, writesDerived_congr (t := setTrack s n { trackOf s n with deadbolt := v }) (by simp) (by simp)
      (fun m => by rw [htrack]), writesDerived_eq]
    unfold deadboltReport derivePrivacy
    rcases hr : findRoom (setTrack s n { trackOf s n with deadbolt := v }) (doorOf s n).room with _ | i <;> simp
  · simp
  · exact .same (by simp)
  · simpa [contactsSaid, contactsReported] using h.of_journal (by simp)
  · simp [contactsSaid, contactsReported, noticesWith]

theorem contactRecord_congr (h : t.time.clock = s.time.clock) (n : Node) : contactRecord t n = contactRecord s n := by
  funext r
  rw [contactRecord, stampedRecord_congr h]
  rfl

/-- One report after others. -/
theorem DoorSaid.step {rs qs : List Bool} {b c : Option Bool} (h : DoorSaid s n rs b t) (g : DoorSaid t n qs c u) :
    DoorSaid s n (rs ++ qs) (c.or b) u := by
  have hl : t.loader = s.loader := h.same.2 .loader (by decide)
  have hst : t.store = s.store := h.same.2 .store (by decide)
  have gl : u.loader = t.loader := g.same.2 .loader (by decide)
  have gst : u.store = t.store := g.same.2 .store (by decide)
  have hd : doorOf t n = doorOf s n := doorOf_congr hl hst n
  have htick : t.time.tick = s.time.tick := by rw [h.time]
  have hclock : t.time.clock = s.time.clock := by rw [h.time]
  have hchain : t.trunk.chain = s.trunk.chain := by rw [h.trunk]
  have hrec : contactRecord t n = contactRecord s n := contactRecord_congr hclock n
  have hsecond : contactsReported (relockPending s n) (contactsSaid s n rs).1 qs = contactsSaid t n qs := by
    rw [contactsSaid, contactsSaid, h.held.relock, h.track]
    rfl
  have hsaid : contactsSaid s n (rs ++ qs) =
      ((contactsSaid t n qs).1, (contactsSaid s n rs).2.1 ++ (contactsSaid t n qs).2.1,
        (contactsSaid t n qs).2.2.or (contactsSaid s n rs).2.2) := by
    rw [← hsecond]
    exact contactsReported_append _ _ _ _
  refine ⟨h.same.step g.same, fun m hm => (g.others m hm).trans (h.others m hm), ?_, ?_, ?_, ?_, fun hb hc => ?_, ?_⟩
  · rw [g.track, hsaid, h.track]
    cases c <;> simp [Option.or_assoc]
  · rw [g.writes, hd]
    cases c
    · rw [if_pos rfl, h.writes, Option.none_or]
      have hbolts : ∀ m, (trackOf u m).deadbolt = (trackOf t m).deadbolt := fun m => by
        by_cases hm : m = n
        · rw [hm, g.track]
          rfl
        · rw [g.others m hm]
      rw [writesDerived_congr gl gst hbolts]
    · rw [if_neg nofun, Option.some_or, if_neg nofun, h.writes]
      split
      · rfl
      · exact writesDerived_twice gl gst _ _
  · rw [g.time, h.time]
  · rw [hsaid]
    exact h.held.step g.held htick hl hst
  · rw [hsaid, List.map_append, ← List.append_assoc]
    simpa only [hrec] using g.records (h.records hb hc) (by rw [hchain]; exact hc)
  · rw [g.trunk, hsaid, List.filter_append, List.map_append, noticesWith_append, h.trunk]
    simp only [noticesWith, hclock, h.trunk]

end


/-! ### What a door's answer leaves, over what its event has done before -/

section
variable {s v t : State} {n : Node} {reports : List Bool} {bolt : Option Bool} {left : List Deadline}

theorem contactsSaid_congr (htr : v.tracker = s.tracker) (hrel : relockPending v n = relockPending s n) :
    contactsSaid v n reports = contactsSaid s n reports := by
  rw [contactsSaid, contactsSaid, hrel, trackOf, htr, trackOf]

theorem contactRecords_eq : contactRecords s n reports = (contactsSaid s n reports).2.1.map (contactRecord s n) := rfl

theorem contactNotices_eq :
    contactNotices s n reports =
      ((contactsSaid s n reports).2.1.filter fun r => r == .doorForced).map fun _ => .doorForced n := rfl

/-- A door's reports over deadlines that another's end has left. -/
theorem DoorSaid.reported (h : DoorSaid v n reports bolt t) (htr : v.tracker = s.tracker)
    (htime : v.time = { s.time with deadlines := left }) (hrel : relockPending v n = relockPending s n)
    (hl : v.loader = s.loader) (hst : v.store = s.store) : doorReported s t n reports bolt left := by
  have htrack : ∀ m, trackOf v m = trackOf s m := fun m => by rw [trackOf, htr, trackOf]
  have hd : doorOf v n = doorOf s n := doorOf_congr hl hst n
  have hc : classOf v (doorOf s n).cls = classOf s (doorOf s n).cls := classOf_congr hl hst _
  have hsaid := contactsSaid_congr (reports := reports) htr hrel
  have hheld := h.held
  rw [hsaid] at hheld
  unfold heldMoved at hheld
  rw [hd, hc, htime] at hheld
  obtain ⟨h0, h1, h2⟩ := hheld
  refine ⟨fun m hm => (h.others m hm).trans (htrack m), ?_, ?_, ?_, h0, h1, h2⟩
  · rw [h.track, hsaid, htrack]
    rfl
  · rw [h.writes, hd, htr]
  · rw [h.time, htime]

end

theorem doorReported.over {s t u : State} {n : Node} {reports : List Bool} {bolt : Option Bool} {left : List Deadline}
    (h : doorReported s t n reports bolt left) (htr : u.tracker = t.tracker) (htime : u.time = t.time)
    (hl : u.loader = t.loader) (hst : u.store = t.store) : doorReported s u n reports bolt left := by
  have htrack : trackOf u = trackOf t := funext fun m => by rw [trackOf, htr, trackOf]
  have hw : writesDerived u (doorOf s n).room (some n) s.tracker.writes =
      writesDerived t (doorOf s n).room (some n) s.tracker.writes := writesDerived_congr hl hst (fun m => by rw [htrack]) _ _
  unfold doorReported at h ⊢
  rw [htrack, hw, htr, htime]
  exact h

/-! ### A delivered answer (R28, R29, R210) -/

theorem byteSum_append (xs ys : List Byte) : byteSum (xs ++ ys) = byteSum xs + byteSum ys := by
  simp [byteSum]

theorem answerFrame_delivered {a : Addr} {event : Nat} {status : Byte} {content : List Byte} (he : event < 8)
    (hc : content.length ≤ 39) :
    parseAnswer (answerFrame a event (status :: content)) =
      some
        { addr := a, status := status, event := parseEvent (BitVec.ofNat 3 event) content
          chars := [BitVec.ofNat 8 (8 * a.val + event), BitVec.ofNat 8 (content.length + 1), status] ++ content } := by
  obtain ⟨body, hbody⟩ : ∃ body : List Byte,
      body = BitVec.ofNat 8 (8 * a.val + event) :: BitVec.ofNat 8 (content.length + 1) :: status :: content := ⟨_, rfl⟩
  obtain ⟨check, hcheck⟩ : ∃ check : Byte, check = BitVec.ofNat 8 (255 - byteSum body % 256) := ⟨_, rfl⟩
  have hframe : answerFrame a event (status :: content) = body ++ [check] := by
    rw [hcheck, hbody]
    rfl
  have hsum : lineCheckOk (body ++ [check]) = true := by
    have hv : check.toNat = (255 - byteSum body % 256) % 256 := by rw [hcheck, BitVec.toNat_ofNat]
    have h1 : byteSum [check] = check.toNat := by simp [byteSum]
    rw [lineCheckOk, decide_eq_true_eq, byteSum_append, h1, hv]
    omega
  have hlen : (BitVec.ofNat 8 (content.length + 1)).toNat = content.length + 1 := by
    rw [BitVec.toNat_ofNat, Nat.mod_eq_of_lt (by omega)]
  have hfirst : (BitVec.ofNat 8 (8 * a.val + event)).toNat = 8 * a.val + event := by
    rw [BitVec.toNat_ofNat, Nat.mod_eq_of_lt (by omega)]
  have haddr : ((BitVec.ofNat 8 (8 * a.val + event)).extractLsb' 3 5).toFin = a := by
    apply Fin.ext
    rw [BitVec.val_toFin, BitVec.extractLsb'_toNat, hfirst, Nat.shiftRight_eq_div_pow]
    omega
  have hcode : (BitVec.ofNat 8 (8 * a.val + event)).extractLsb' 0 3 = BitVec.ofNat 3 event := by
    apply BitVec.eq_of_toNat_eq
    rw [BitVec.extractLsb'_toNat, hfirst, BitVec.toNat_ofNat]
    omega
  rw [hframe]
  have hdrop : (content ++ [check]).dropLast = content := List.dropLast_concat
  have hall : (body ++ [check]).dropLast = body := List.dropLast_concat
  rw [hbody] at hsum hall ⊢
  simp only [List.cons_append] at hsum hall ⊢
  have hcount : (content ++ [check]).length = content.length + 1 := by simp
  have hlow : 1 ≤ content.length + 1 := by omega
  have hhigh : content.length + 1 ≤ 40 := by omega
  simp only [parseAnswer, hlen, hsum, hall, haddr, hcode, hdrop, hcount, hlow, hhigh, decide_true, Bool.and_self, if_true,
    List.nil_append]

/-- A good answer in the window of a POLL or a CALL is taken (R28, R36). -/
theorem exec_answerTaken {s : State} {l : LineNo} {a : Addr} {e : Exchange} {chars : List Byte} {ans : NodeAnswer}
    {event : NodeEvent} (hf : flying s l e) (hk : e.kind = .poll a ∨ e.kind = .call) (hp : parseAnswer chars = some ans)
    (ha : ans.addr = a) (he : takenEvent (lineOf s l).mode ans = some event)
    (hd : configured (begunUnder s l e a) = true) :
    exec (.answerReceived l (.ends chars)) s =
      .next (settle (takeAnswer (endExchange s l) l (begunUnder s l e a) ans event (e.stamp.getD (captureNow s)))) := by
  have hi := inFlight_of_flying hf
  have hw := hasWindow_of (hk.symm.imp_right fun h => ⟨a, h⟩)
  have hend : answerEnd s l e chars =
      takeAnswer (endExchange s l) l (begunUnder s l e a) ans event (e.stamp.getD (captureNow s)) := by
    subst ha
    rcases hk with hk | hk
    · simp only [answerEnd, hk, hp, he, doorDuring_eq, if_true]
    · simp only [answerEnd, hk, hp, he, doorDuring_eq, hd, if_true]
  simp only [exec, execAnswerReceived, hi, hw, if_true, hend]
  rfl

/-- The part after a good answer of a node, before anything of it is handed on. -/
def answerHeard (s : State) (l : LineNo) (a : Addr) : State := goodAnswer (endExchange s l) { line := l, addr := a }

section
variable (s : State) (l : LineNo) (a : Addr)

theorem answerHeard_line : LineSet l (lineAnswered (lineOf s l) a) s (answerHeard s l a) :=
  ((LineSet.same l s).set { lineOf s l with exchange := none }).goodAnswer a

theorem answerHeard_same : unchangedBut [.lines, .journal] s (answerHeard s l a) := by
  rw [unchangedBut_iff]
  simp [answerHeard, endExchange]

@[simp] theorem answerHeard_frame :
    (answerHeard s l a).pending = s.pending ∧ (answerHeard s l a).time = s.time ∧ (answerHeard s l a).queue = s.queue ∧
    (answerHeard s l a).tracker = s.tracker ∧ (answerHeard s l a).override = s.override ∧
    (answerHeard s l a).issue = s.issue ∧ (answerHeard s l a).minibar = s.minibar ∧
    (answerHeard s l a).store = s.store ∧ (answerHeard s l a).port = s.port ∧ (answerHeard s l a).loader = s.loader ∧
    (answerHeard s l a).pruner = s.pruner ∧ (answerHeard s l a).trunk = s.trunk ∧
    (answerHeard s l a).startup = s.startup ∧ (answerHeard s l a).pins = s.pins := by
  simp [answerHeard, endExchange]

theorem answerHeard_records : appendsAll s (answerHeard s l a) (backRecord s { line := l, addr := a }) := by
  have h0 : appendsAll s (endExchange s l) [] := appendsAll_nil (by simp [endExchange])
  have hn : nodeOf (endExchange s l) { line := l, addr := a } = nodeOf s { line := l, addr := a } := by
    simp [nodeOf, endExchange, lineOf_setLine]
  have h := h0.goodAnswer { line := l, addr := a } (by simp [endExchange]) (by simp [endExchange]) (by rw [hn])
  rw [List.nil_append] at h
  exact h

end

theorem takeAnswer_handed {s : State} {l : LineNo} {d : DoorEntry} {ans : NodeAnswer} {event : NodeEvent} {stamp : Capture}
    (hm : (lineOf s l).mode = .decide ∨ (lineOf s l).mode = .holding false) :
    takeAnswer (endExchange s l) l d ans event stamp =
      handAnswer (answerHeard s l ans.addr) { line := l, addr := ans.addr } d.kind event ans.status stamp := by
  have hup : passesUp (lineOf (endExchange s l) l).mode = false := by
    simp only [endExchange, lineOf_setLine, if_true]
    rcases hm with hm | hm <;> rw [hm] <;> rfl
  simp [takeAnswer, hup, answerHeard]

theorem takenEvent_decide {m : LineMode} {ans : NodeAnswer} (hm : m = .decide ∨ m = .holding false) :
    takenEvent m ans = ans.event := by
  rcases hm with rfl | rfl <;> rfl

/-! ### A door's answer with no presentation (R37) -/

/-- The contact that a door's event reports, if it reports one. -/
def eventContacts (event : NodeEvent) (status : Byte) : List Bool :=
  match event with
  | .contact v => [status.getLsbD 2 || contactLevel v]
  | _ => []

/-- The event of a door, with no presentation: a contact, a deadbolt of a ROOM_DOOR, or nothing. -/
theorem doorEvent_said {v : State} {n : Node} {kind : NodeKind} {event : NodeEvent} (status : Byte) (stamp : Capture)
    (hk : kind = .commonGate ∨ kind = .roomDoor) (he : ∀ g, event ≠ .present g) :
    ∃ b, DoorSaid v n (eventContacts event status) b (handEvent v n kind event status stamp) ∧
      (kind = .commonGate → b = none) := by
  have hne : kind ≠ .encoder := by rcases hk with rfl | rfl <;> nofun
  cases event
  case present g => exact absurd rfl (he g)
  case contact x =>
    refine ⟨none, ?_, fun _ => rfl⟩
    have : handEvent v n kind (.contact x) status stamp = contactReport v n (status.getLsbD 2 || contactLevel x) := if_pos hk.symm
    rw [this]
    exact .contact v n _
  case deadbolt x =>
    rcases hk with rfl | rfl
    · exact ⟨none, .nil v n, fun _ => rfl⟩
    · exact ⟨some (deadboltLevel x), .deadbolt v n _, nofun⟩
  case blank serial => exact ⟨none, by rw [handEvent, if_neg hne]; exact .nil v n, fun _ => rfl⟩
  case written => exact ⟨none, by rw [handEvent, if_neg hne]; exact .nil v n, fun _ => rfl⟩
  case writeFailed => exact ⟨none, by rw [handEvent, if_neg hne]; exact .nil v n, fun _ => rfl⟩
  case none => exact ⟨none, .nil v n, fun _ => rfl⟩
  case compartments set => exact ⟨none, .nil v n, fun _ => rfl⟩

/-- The status of a door (R37): its contact, and the deadbolt of a ROOM_DOOR. -/
theorem doorStatus_said {v : State} {n : Node} {kind : NodeKind} (event : NodeEvent) (status : Byte)
    (hk : kind = .commonGate ∨ kind = .roomDoor) :
    DoorSaid v n [status.getLsbD 0 || status.getLsbD 2] (if kind = .roomDoor then some (status.getLsbD 1) else none)
      (handStatus v n kind event status) := by
  have hcontact := DoorSaid.contact v n (status.getLsbD 2 || status.getLsbD 0)
  rw [Bool.or_comm (status.getLsbD 0)]
  rcases hk with rfl | rfl
  · rw [if_neg nofun, handStatus, handContact, tampered]
    exact hcontact
  · rw [if_pos rfl, handStatus, handContact, tampered]
    exact hcontact.step (.deadbolt _ n (status.getLsbD 1))


/-- The event of a code that carries no presentation (R210). -/
def plainEvent (event : Nat) (content : List Byte) : NodeEvent :=
  match event with
  | 2 => .contact (content.getD 0 0)
  | 3 => .deadbolt (content.getD 0 0)
  | 4 => .compartments (content.getD 0 0)
  | 5 => .blank (word4 (content.getD 0 0) (content.getD 1 0) (content.getD 2 0) (content.getD 3 0))
  | 6 => .written
  | 7 => .writeFailed
  | _ => .none

theorem parseEvent_plain {event : Nat} {content : List Byte} (he : event < 8) (h1 : event ≠ 1)
    (hc : content.length = eventLength event) :
    parseEvent (BitVec.ofNat 3 event) content = some (plainEvent event content) := by
  have one : content.length = 1 → ∃ v, content = [v] := List.length_eq_one_iff.1
  have four : content.length = 4 → ∃ w x y z, content = [w, x, y, z] := fun h => by
    match content, h with
    | [w, x, y, z], _ => exact ⟨w, x, y, z, rfl⟩
  match event, he with
  | 0, _ => obtain rfl := List.length_eq_zero_iff.1 hc; rfl
  | 1, _ => exact absurd rfl h1
  | 2, _ => obtain ⟨v, rfl⟩ := one hc; rfl
  | 3, _ => obtain ⟨v, rfl⟩ := one hc; rfl
  | 4, _ => obtain ⟨v, rfl⟩ := one hc; rfl
  | 5, _ => obtain ⟨w, x, y, z, rfl⟩ := four hc; rfl
  | 6, _ => obtain rfl := List.length_eq_zero_iff.1 hc; rfl
  | 7, _ => obtain rfl := List.length_eq_zero_iff.1 hc; rfl

theorem plainEvent_noPresent (event : Nat) (content : List Byte) (g : Grant) : plainEvent event content ≠ .present g := by
  unfold plainEvent
  split <;> nofun

theorem eventContacts_plain {event : Nat} {content : List Byte} (status : Byte) (hc : content.length = eventLength event) :
    eventContacts (plainEvent event content) status =
      if event = 2 then
        [status.getLsbD 2 ||
          (if content = [0] then false else if content = [1] then true else Config.otherContact (content.getD 0 0))]
      else [] := by
  by_cases h2 : event = 2
  · subst h2
    obtain ⟨v, rfl⟩ := List.length_eq_one_iff.1 hc
    simp [plainEvent, eventContacts, contactLevel]
  · rw [if_neg h2]
    unfold plainEvent
    split
    · exact absurd rfl h2
    all_goals rfl

theorem eventLength_le (event : Nat) : eventLength event ≤ 39 := by
  match event with
  | 0 | 1 | 2 | 3 | 4 | 5 | 6 | 7 => decide
  | k + 8 => simp [eventLength]

/-- Settles O19: a door's event and then its status are reports to its door alone, after the answer's line and NODE_BACK. -/
theorem gateAnswerReportsContact : Obligations.GateAnswerReportsContact := by
  intro s l a e status event content hf hk hm he h1 hc n kind level shown reports hkind
  have hparse : parseAnswer (answerFrame a event (status :: content)) = _ := answerFrame_delivered he (hc ▸ eventLength_le event)
  rw [parseEvent_plain he h1 hc] at hparse
  have hconf : configured (begunUnder s l e a) = true := by
    have hk : (begunUnder s l e a).kind = .commonGate ∨ (begunUnder s l e a).kind = .roomDoor := hkind
    rcases hk with h | h <;> simp [configured, h]
  have hexec := exec_answerTaken hf hk hparse rfl (takenEvent_decide hm) hconf
  rw [takeAnswer_handed hm] at hexec
  obtain ⟨v, hv⟩ : ∃ v, v = answerHeard s l a := ⟨_, rfl⟩
  obtain ⟨t, ht⟩ : ∃ t, t = handAnswer v n kind (plainEvent event content) status (e.stamp.getD (captureNow s)) := ⟨_, rfl⟩
  have hexec : exec (.answerReceived l (.ends (answerFrame a event (status :: content)))) s = .next (settle t) := by
    rw [ht, hv]
    exact hexec
  obtain ⟨b, hevent, hbolt⟩ := doorEvent_said (v := v) (n := n) status (e.stamp.getD (captureNow s)) hkind
    (plainEvent_noPresent event content)
  have hstatus := doorStatus_said (v := handEvent v n kind (plainEvent event content) status (e.stamp.getD (captureNow s)))
    (n := n) (plainEvent event content) status hkind
  have hreports : eventContacts (plainEvent event content) status ++ [status.getLsbD 0 || status.getLsbD 2] = reports := by
    rw [eventContacts_plain status hc]
    by_cases h2 : event = 2
    · simp only [h2, if_true, reports, shown, level, List.cons_append, List.nil_append]
    · simp only [h2, if_false, reports, shown, List.nil_append]
  have hbolts : (if kind = .roomDoor then some (status.getLsbD 1) else none).or b =
      if kind = .roomDoor then some (status.getLsbD 1) else none := by
    rcases hkind with h | h
    · rw [if_neg (by rw [h]; nofun), hbolt h]
      rfl
    · rw [if_pos h]
      rfl
  have hsaid : DoorSaid v n reports (if kind = .roomDoor then some (status.getLsbD 1) else none) t := by
    rw [← hreports, ← hbolts, ht]
    exact hevent.step hstatus
  have htr : v.tracker = s.tracker := by simp [hv]
  have htime : v.time = s.time := by simp [hv]
  have htrunk : v.trunk = s.trunk := by simp [hv]
  have hrel : relockPending v n = relockPending s n := by rw [relockPending, htime, relockPending]
  have hcs := contactsSaid_congr (reports := reports) htr hrel
  have hreported := hsaid.reported htr (left := s.time.deadlines) htime hrel (by simp [hv]) (by simp [hv])
  have hlines : t.lines = v.lines := hsaid.same.2 .lines (by decide)
  have hline := ((answerHeard_line s l a).of_lines (u := v) (by rw [hv])).of_lines (u := settle t)
    (by simpa using hlines)
  have hsame : unchangedBut [.time, .lines, .tracker, .journal, .trunk] s v := by
    rw [unchangedBut_iff]
    simp [hv]
  have hmore : unchangedBut [.time, .lines, .tracker, .journal, .trunk] v t :=
    ⟨hsaid.same.1, fun b hb => hsaid.same.2 b fun hm => hb (by revert hm; cases b <;> decide)⟩
  have hrecs := hsaid.records (hv ▸ answerHeard_records s l a) (by rw [htrunk])
  have hclock : contactRecord v n = contactRecord s n := contactRecord_congr (by rw [htime]) n
  refine ⟨settle t, hexec, (hsame.step hmore).settled, hline.others, hline.line, ?_, ?_, trunkIs.settled (trunkIs_of_eq ?_)⟩
  · exact hreported.over (by simp) (by simp) (by simp) (by simp)
  · rw [hcs, hclock] at hrecs
    exact hrecs.settled
  · rw [hsaid.trunk, hcs, htrunk]
    simp only [noticesWith, htrunk, htime]
    rfl

end Sys2Proof.Machine
end

section
/-!
A presentation and an encoder's or minibar's answer handed on (03_door_lines.md, R37, R38; 05_admission.md, R69, R70;
06_issue_and_supersession.md, R107 to R109; 08_minibars.md, R143).
-/

namespace Sys2Proof.Machine

/-! ### A presentation (R38, R69, R70) -/

/-- The node's presentation is the decision in hand (R71). -/
abbrev nodeDeciding (s : State) (n : Node) : Prop :=
  (match s.port.inHand with | some (.decision q) => q.node == n | _ => false) = true

theorem decidingNode_iff (s : State) (n : Node) : decidingNode s = some n ↔ nodeDeciding s n := by
  unfold decidingNode nodeDeciding
  split <;> simp_all

/-- A presentation of the node finds room: it replaces a waiting one, or the queue is not full (R70). -/
abbrev queueFits (s : State) (n : Node) : Prop := (∃ q ∈ s.queue, q.node = n) ∨ s.queue.length < 16

/-- The command that answers a presentation which is not taken (R38, R70). -/
def presentTold (s : State) (n : Node) : Option Command :=
  if configured (doorOf s n) = false ∨ (s.startup.phase = .run ∧ (nodeDeciding s n ∨ queueFits s n)) then none
  else if s.startup.phase = .run then some .busy
  else some .defer

/-- A presentation that finds room, in its place by capture (R69, R70). -/
theorem handPresentation_queued {v : State} {p : Presentation} (hd : ¬ nodeDeciding v p.node) (hf : queueFits v p.node) :
    handPresentation v p =
      v.withQueue (insertPresentation v.time.tick p (v.queue.filter fun q => !decide (q.node = p.node))) := by
  have hd : decidingNode v ≠ some p.node := mt (decidingNode_iff v p.node).1 hd
  unfold handPresentation
  rw [if_neg hd]
  by_cases hany : (v.queue.any fun q => decide (q.node = p.node)) = true
  · rw [if_pos hany]
  · have hnone : ∀ q ∈ v.queue, q.node ≠ p.node := by simpa using hany
    have hlen : v.queue.length < Config.decisionQueueCap :=
      hf.resolve_left fun ⟨q, hq, hn⟩ => hnone q hq hn
    have hself : (v.queue.filter fun q => !decide (q.node = p.node)) = v.queue :=
      List.filter_eq_self.2 fun q hq => by simpa using hnone q hq
    rw [if_neg hany, if_pos hlen, hself]

theorem handPresentation_full {v : State} {p : Presentation} (hd : ¬ nodeDeciding v p.node) (hf : ¬ queueFits v p.node) :
    handPresentation v p = queueCommand v p.node .busy := by
  have hd : decidingNode v ≠ some p.node := mt (decidingNode_iff v p.node).1 hd
  have hlen : ¬ v.queue.length < Config.decisionQueueCap := fun h => hf (.inr h)
  have hany : ¬ (v.queue.any fun q => decide (q.node = p.node)) = true := fun h => hf (.inl (by simpa using h))
  unfold handPresentation
  rw [if_neg hd, if_neg hany, if_neg hlen]

/-- A presentation's command, or its place in the queue. -/
theorem handPresent_told (v : State) (n : Node) (g : Grant) (stamp : Capture) :
    (∀ c, presentTold v n = some c →
      handPresent v n g stamp = queueCommand v n c ∧ configured (doorOf v n) = true ∧ (c = .busy ∨ c = .defer)) ∧
    (presentTold v n = none → ∃ q, handPresent v n g stamp = v.withQueue q) ∧
    (v.startup.phase ≠ .run ∨ nodeDeciding v n ∨ ¬ queueFits v n → (handPresent v n g stamp).queue = v.queue) ∧
    (v.startup.phase = .run → ¬ nodeDeciding v n → queueFits v n →
      (handPresent v n g stamp).queue =
        insertPresentation v.time.tick { node := n, grant := g, capture := stamp }
          (v.queue.filter fun q => !decide (q.node = n))) := by
  have hself : v = v.withQueue v.queue := rfl
  by_cases hrun : v.startup.phase = .run
  · have hhand : handPresent v n g stamp = handPresentation v { node := n, grant := g, capture := stamp } := if_pos hrun
    by_cases hd : nodeDeciding v n
    · have hsame : handPresent v n g stamp = v := by
        rw [hhand, handPresentation, if_pos ((decidingNode_iff v n).2 hd)]
      have hnone : presentTold v n = none := if_pos (.inr ⟨hrun, .inl hd⟩)
      rw [hsame]
      exact ⟨fun c hc => absurd (hnone.symm.trans hc) nofun, fun _ => ⟨_, hself⟩, fun _ => rfl, fun _ h => absurd hd h⟩
    · by_cases hf : queueFits v n
      · have hnone : presentTold v n = none := if_pos (.inr ⟨hrun, .inr hf⟩)
        have hq := handPresentation_queued (p := { node := n, grant := g, capture := stamp }) hd hf
        rw [hhand, hq]
        exact ⟨fun c hc => absurd (hnone.symm.trans hc) nofun, fun _ => ⟨_, rfl⟩,
          fun h => h.elim (absurd hrun) fun h => h.elim (fun h => absurd h hd) (absurd hf), fun _ _ _ => rfl⟩
      · have hq := handPresentation_full (p := { node := n, grant := g, capture := stamp }) hd hf
        rw [hhand, hq]
        refine ⟨fun c hc => ?_, fun h => ?_, fun _ => by simp, fun _ _ h => absurd h hf⟩
        · unfold presentTold at hc
          split at hc
          · cases hc
          · next hn =>
            cases hc
            exact ⟨rfl, by simpa using fun h => hn (.inl h), .inl rfl⟩
        · have hun : configured (doorOf v n) = false := by
            unfold presentTold at h
            split at h
            · next hc => exact hc.resolve_right fun hc => hc.2.elim hd hf
            · cases h
          exact ⟨_, (queueCommand_unused v n .busy hun).trans hself⟩
  · have hhand : handPresent v n g stamp = queueCommand v n .defer := if_neg hrun
    rw [hhand]
    refine ⟨fun c hc => ?_, fun h => ?_, fun _ => by simp, fun h => absurd h hrun⟩
    · unfold presentTold at hc
      split at hc
      · cases hc
      · next hn =>
        cases hc
        exact ⟨rfl, by simpa using fun h => hn (.inl h), .inr rfl⟩
    · have hun : configured (doorOf v n) = false := by
        unfold presentTold at h
        split at h
        · next hc => exact hc.resolve_right fun hc => hrun hc.1
        · cases h
      exact ⟨_, (queueCommand_unused v n .defer hun).trans hself⟩


/-- What a presentation leaves beside the queue: the command that answers it where it is not taken, and the session which that
command ends (R38, R42, R112). -/
structure PresentHeard (s : State) (l : LineNo) (a : Addr) (told : Option Command) (u : State) : Prop where
  same : unchangedBut [.time, .lines, .queue, .issue, .journal, .trunk] s u
  line : LineSet l ((told.map (lineQueued (lineAnswered (lineOf s l) a) a)).getD (lineAnswered (lineOf s l) a)) s u
  ended : endedOn s u { line := l, addr := a } ((told.map (replacedSession s { line := l, addr := a })).getD [])
    .encoderUnreachable
  records : appendsAll s u
    (backRecord s { line := l, addr := a } ++
      endRecords s ((told.map (replacedSession s { line := l, addr := a })).getD []) .encoderUnreachable)
  trunk : u.trunk =
    { s.trunk with
      notices := noticesWith s
        (endNotices s ((told.map (replacedSession s { line := l, addr := a })).getD []) .encoderUnreachable) }

section
variable {s : State} {l : LineNo} {a : Addr}

/-- With no command in flight, an answer's end changes nothing of what a newer command ends. -/
theorem replacedSession_heard (hf : flightFate (lineOf s l) a = none) (c : Command) :
    replacedSession (answerHeard s l a) { line := l, addr := a } c = replacedSession s { line := l, addr := a } c := by
  have hline := (answerHeard_line s l a).line
  have hnode : (nodeOf (answerHeard s l a) { line := l, addr := a }).command = (nodeOf s { line := l, addr := a }).command := by
    rw [nodeOf, hline, nodeOf]
    simp [lineAnswered]
  have hfate : flightFate (lineOf (answerHeard s l a) l) a = none := by rw [hline]; rfl
  have hctx : ∀ k, ctxOf (answerHeard s l a) k = ctxOf s k := fun k => by simp [ctxOf]
  unfold replacedSession
  simp only [hnode, hfate, hf, hctx, endable_congr (s := s) (t := answerHeard s l a) (by simp)]

theorem PresentHeard.queued {q : List Presentation} :
    PresentHeard s l a none ((answerHeard s l a).withQueue q) where
  same := by rw [unchangedBut_iff]; simp
  line := (answerHeard_line s l a).of_lines rfl
  ended := by
    refine ⟨?_, ?_⟩
    · simp only [Option.map_none, Option.getD_none, sessionsEnded_nil]
      simp
    · simp
  records := by simpa [endRecords] using (answerHeard_records s l a).of_journal (u := (answerHeard s l a).withQueue q) rfl
  trunk := by simp [endNotices, noticesWith]

theorem PresentHeard.answered {c : Command} (hf : flightFate (lineOf s l) a = none)
    (hd : configured (doorOf s { line := l, addr := a }) = true) (hc : c = .busy ∨ c = .defer) :
    PresentHeard s l a (some c) (queueCommand (answerHeard s l a) { line := l, addr := a } c) := by
  have hv : doorOf (answerHeard s l a) { line := l, addr := a } = doorOf s { line := l, addr := a } :=
    doorOf_congr (by simp) (by simp) _
  have hpass : ∀ m, passTaken m c = true := fun m => by rcases hc with rfl | rfl <;> rfl
  have hsess : isSessionCommand c = false := by rcases hc with rfl | rfl <;> rfl
  obtain ⟨hsame, hlines, ⟨hissue, htime⟩, hrec, htrunk⟩ := queueCommand_queued (answerHeard s l a) (hv.symm ▸ hd) (hpass _) hsess
  have hks := replacedSession_heard hf c
  obtain ⟨hends, hrecs, hnot⟩ := endings_congr (s := s) (t := answerHeard s l a) (by simp) (by simp)
    (replacedSession s { line := l, addr := a } c) .encoderUnreachable
  rw [hks] at hissue htime hrec htrunk
  rw [hends] at hissue
  rw [hrecs] at hrec
  rw [hnot] at htrunk
  have hline := (answerHeard_line s l a).set (lineQueued (lineAnswered (lineOf s l) a) a c)
  refine ⟨?_, hline.of_lines ?_, ⟨hissue, ?_⟩, hrec (answerHeard_records s l a) (by simp), ?_⟩
  · rw [unchangedBut_iff]
    simp
  · rw [hlines, linesQueued, (answerHeard_line s l a).line]
    rfl
  · simpa using htime
  · rw [htrunk]
    simp [noticesWith]

end

theorem presentTold_heard (s : State) (l : LineNo) (a : Addr) (n : Node) :
    presentTold (answerHeard s l a) n = presentTold s n := by
  have hd : doorOf (answerHeard s l a) n = doorOf s n := doorOf_congr (by simp) (by simp) _
  simp only [presentTold, hd, nodeDeciding, queueFits, answerHeard_frame]

theorem handPresent_heard {s : State} {l : LineNo} {a : Addr} (hf : flightFate (lineOf s l) a = none) (g : Grant)
    (stamp : Capture) :
    PresentHeard s l a (presentTold s { line := l, addr := a })
      (handPresent (answerHeard s l a) { line := l, addr := a } g stamp) := by
  obtain ⟨hsome, hnone, -, -⟩ := handPresent_told (answerHeard s l a) { line := l, addr := a } g stamp
  rw [presentTold_heard] at hsome hnone
  have hd : doorOf (answerHeard s l a) { line := l, addr := a } = doorOf s { line := l, addr := a } :=
    doorOf_congr (by simp) (by simp) _
  rcases ht : presentTold s { line := l, addr := a } with _ | c
  · obtain ⟨q, hq⟩ := hnone ht
    rw [hq]
    exact .queued
  · obtain ⟨hq, hconf, hc⟩ := hsome c ht
    rw [hq]
    exact .answered hf (hd ▸ hconf) hc

/-- A presentation's place in the queue, in the words of the statement (R69, R70). -/
theorem handPresent_queue (s : State) (l : LineNo) (a : Addr) (g : Grant) (stamp : Capture) :
    let n : Node := { line := l, addr := a }
    let p : Presentation := { node := n, grant := g, capture := stamp }
    let u := handPresent (answerHeard s l a) n g stamp
    let back := fun q : Presentation => (s.time.tick - q.capture.tick).toNat
    (s.startup.phase ≠ .run ∨ nodeDeciding s n ∨ ¬ queueFits s n → u.queue = s.queue) ∧
    (s.startup.phase = .run → ¬ nodeDeciding s n → queueFits s n →
      ∃ older newer, s.queue.filter (fun q => q.node != n) = older ++ newer ∧ u.queue = older ++ p :: newer ∧
        (∀ q ∈ older, back p ≤ back q) ∧ ∀ q, newer.head? = some q → back q < back p) := by
  intro n p u back
  obtain ⟨-, -, hkept, hplaced⟩ := handPresent_told (answerHeard s l a) n g stamp
  simp only [nodeDeciding, queueFits, answerHeard_frame] at hkept hplaced
  refine ⟨hkept, fun hr hd hq => ?_⟩
  obtain ⟨older, newer, hsplit, hins, hold, hnew⟩ :=
    insertPresentation_split s.time.tick p (s.queue.filter fun q => !decide (q.node = n))
  have hne : ∀ q : Presentation, (q.node != n) = !decide (q.node = n) := fun q => by simp [bne, BEq.beq]
  simp only [hne]
  exact ⟨older, newer, hsplit, (hplaced hr hd hq).trans hins, hold, hnew⟩


/-! ### The status of a minibar and of an encoder (R37, R143) -/

theorem mergeItem_eq (n : Node) (x : Compartments) (y : Option Compartments) (ws : List MinibarWork) :
    mergeItem n x y ws = itemQueued n (.item n x y) ws := by
  induction ws with
  | nil => rfl
  | cons w ws ih =>
    cases w
    case item m a b => by_cases h : m = n <;> simp [mergeItem, itemQueued, h, ih]
    all_goals simp [mergeItem, itemQueued, ih]

/-- An encoder's change to FAULT (R37). -/
abbrev becomesFaulty (x : NodeCtl) (status : Byte) : Prop := status ≠ 0 ∧ x.faulty ≠ some true

/-- A node's status kept. -/
def statusKept (u : State) (n : Node) (status : Byte) : State :=
  setNode u n { nodeOf u n with faulty := some (decide (status ≠ 0)) }

theorem encoderStatus_eq (u : State) (n : Node) (status : Byte) :
    encoderStatus u n status =
      if becomesFaulty (nodeOf u n) status then endNodeSession (statusKept u n status) n .encoderSilent
      else statusKept u n status := by
  by_cases h : becomesFaulty (nodeOf u n) status
  · have hyes : (decide (status ≠ 0) && decide ((nodeOf u n).faulty ≠ some true)) = true := by
      rw [← Bool.decide_and, decide_eq_true h]
    rw [if_pos h]
    simp only [encoderStatus, statusKept, hyes, if_true]
  · have hno : (decide (status ≠ 0) && decide ((nodeOf u n).faulty ≠ some true)) = false := by
      rw [← Bool.decide_and, decide_eq_false h]
    rw [if_neg h]
    simp only [encoderStatus, statusKept, hno, if_false, Bool.false_eq_true]

/-- A line with its node's status kept. -/
def faultKept (c : LineCtl) (a : Addr) (status : Byte) : LineCtl :=
  { c with nodes := put c.nodes a { look c.nodes a with faulty := some (decide (status ≠ 0)) } }

/-- The line of a session ended at a node of it. -/
theorem EndedAt.lineSet {s w t : State} {l : LineNo} {a : Addr} {c : LineCtl} {ks : List (Fin 2)} {why : FailReason}
    (h : EndedAt w { line := l, addr := a } ks why t) (hw : LineSet l c s w) :
    LineSet l (if ks = [] then c else lineWithdrawn c a) s t := by
  have hlines := h.lines
  split at hlines
  · next hk =>
    rw [if_pos hk]
    exact hw.of_lines hlines
  · next hk =>
    have hset := hw.set (lineWithdrawn c a)
    rw [if_neg hk]
    refine hset.of_lines ?_
    rw [hlines, linesWithdrawn, hw.line]
    rfl

theorem statusKept_line {s u : State} {l : LineNo} {a : Addr} {c : LineCtl} (h : LineSet l c s u) (status : Byte) :
    LineSet l (faultKept c a status) s (statusKept u { line := l, addr := a } status) := by
  refine (h.set (faultKept c a status)).of_lines ?_
  simp [statusKept, faultKept, setNode, LineCtl.withNode, h.line, nodeOf]

@[simp] theorem statusKept_frame (u : State) (n : Node) (status : Byte) :
    (statusKept u n status).pending = u.pending ∧ (statusKept u n status).time = u.time ∧
    (statusKept u n status).queue = u.queue ∧ (statusKept u n status).tracker = u.tracker ∧
    (statusKept u n status).override = u.override ∧ (statusKept u n status).issue = u.issue ∧
    (statusKept u n status).minibar = u.minibar ∧ (statusKept u n status).store = u.store ∧
    (statusKept u n status).port = u.port ∧ (statusKept u n status).loader = u.loader ∧
    (statusKept u n status).pruner = u.pruner ∧ (statusKept u n status).journal = u.journal ∧
    (statusKept u n status).trunk = u.trunk ∧ (statusKept u n status).startup = u.startup ∧
    (statusKept u n status).pins = u.pins := by
  simp [statusKept]

theorem encoderStatus_ended (u : State) (n : Node) (status : Byte) :
    EndedAt (statusKept u n status) n (if becomesFaulty (nodeOf u n) status then endable u n else []) .encoderSilent
      (encoderStatus u n status) := by
  rw [encoderStatus_eq]
  have h := endNodeSession_ended (statusKept u n status) n (why := .encoderSilent) nofun
  rw [endable_congr (s := u) (t := statusKept u n status) (by simp)] at h
  by_cases hb : becomesFaulty (nodeOf u n) status
  · rw [if_pos hb, if_pos hb]
    exact h
  · rw [if_neg hb, if_neg hb]
    exact .nil _ n _

/-! ### What stands between the event and the status -/

theorem relockPending_ended {s t : State} {n : Node} {ks : List (Fin 2)}
    (h : t.time =
      { s.time with
        deadlines :=
          if ks = [] then s.time.deadlines
          else s.time.deadlines.filter fun d => !(d.node == n && d.kind == .issueTimeout) }) :
    relockPending t n = relockPending s n := by
  unfold relockPending
  rw [h]
  dsimp only
  split
  · rfl
  · rw [List.any_filter]
    congr 1
    funext d
    by_cases hk : d.kind = .relock <;> simp [hk]

/-- With no session ended, the cause is of no account. -/
theorem endings_nil (s : State) (why other : FailReason) :
    sessionsEnded s [] why = sessionsEnded s [] other ∧ endRecords s [] why = endRecords s [] other ∧
      endNotices s [] why = endNotices s [] other := by
  rw [sessionsEnded_nil, sessionsEnded_nil]
  exact ⟨rfl, rfl, rfl⟩

theorem lineQueued_faulty (d : LineCtl) (a : Addr) (c : Command) :
    (look (lineQueued d a c).nodes a).faulty = (look d.nodes a).faulty := by
  unfold lineQueued
  dsimp only
  split
  · simp
  · split <;> simp

/-- A session's command that a newer one replaces is pending no more. -/
theorem replaced_gone {s : State} {l : LineNo} {a : Addr} {c : Command}
    (h : replacedSession s { line := l, addr := a } c ≠ []) (hc : isSessionCommand c = false) (x : Command)
    (hx : (look (lineQueued (lineAnswered (lineOf s l) a) a c).nodes a).command = some x) : isSessionCommand x = false := by
  have hnode : (look (lineAnswered (lineOf s l) a).nodes a).command = (nodeOf s { line := l, addr := a }).command := by
    simp [lineAnswered, nodeOf]
  rw [lineQueued_pending, hnode] at hx
  unfold replacedSession at h
  split at h
  · exact absurd rfl h
  · next old ho =>
    split at h
    · next hold =>
      rw [ho] at hx
      simp only [hold.1, Bool.false_eq_true, if_false, Option.some.injEq] at hx
      exact hx ▸ hc
    · exact absurd rfl h

theorem replacedSession_endable {s : State} {n : Node} {c : Command} {k : Fin 2} (h : k ∈ replacedSession s n c) :
    ctxOfNode s n = some k ∧ replacedSession s n c = [k] := by
  unfold replacedSession at h ⊢
  split at h
  · cases h
  · next old ho =>
    split at h
    · next hold =>
      simp only [hold, and_self, ne_eq, not_false_eq_true, if_true]
      obtain ⟨hk, hst⟩ := List.mem_filter.1 h
      rcases endable_cases s n with he | ⟨j, he, hj, -⟩
      · rw [he] at hk; cases hk
      · obtain rfl : k = j := by simpa [he] using hk
        exact ⟨hj, by rw [he, List.filter_cons, if_pos hst]; rfl⟩
    · cases h


/-! ### A presentation's answer (R37, R38) -/

/-- What an answer leaves: its line, the sessions ended, a door's reports, the Minibar Engine's work, the records and notices. -/
structure AnswerLeft (s : State) (l : LineNo) (a : Addr) (known : LineCtl) (ks : List (Fin 2)) (why : FailReason)
    (reports : List Bool) (bolt : Option Bool) (work : List MinibarWork) (t : State) : Prop where
  same : unchangedBut [.time, .lines, .queue, .tracker, .issue, .minibar, .journal, .trunk] s t
  line : LineSet l (if ks = [] then known else lineWithdrawn known a) s t
  issue : t.issue = sessionsEnded s ks why
  door : doorReported s t { line := l, addr := a } reports bolt
    (if ks = [] then s.time.deadlines
      else s.time.deadlines.filter fun d => !(d.node == ({ line := l, addr := a } : Node) && d.kind == .issueTimeout))
  minibar : t.minibar = work
  records : appendsAll s t
    (backRecord s { line := l, addr := a } ++ endRecords s ks why ++ contactRecords s { line := l, addr := a } reports)
  trunk : t.trunk =
    { s.trunk with notices := noticesWith s (endNotices s ks why ++ contactNotices s { line := l, addr := a } reports) }

/-- A node's line with its answer taken, and the command that answers its presentation. -/
def presentLine (s : State) (l : LineNo) (a : Addr) (told : Option Command) : LineCtl :=
  (told.map (lineQueued (lineAnswered (lineOf s l) a) a)).getD (lineAnswered (lineOf s l) a)

/-- The sessions that the command ends. -/
def presentEnds (s : State) (n : Node) (told : Option Command) : List (Fin 2) := (told.map (replacedSession s n)).getD []

section
variable {s u : State} {l : LineNo} {a : Addr} {told : Option Command}

theorem presentLine_gone (ht : ∀ c, told = some c → isSessionCommand c = false)
    (h : presentEnds s { line := l, addr := a } told ≠ []) :
    ∀ x, (look (presentLine s l a told).nodes a).command = some x → isSessionCommand x = false := by
  rcases told with _ | c
  · exact absurd rfl h
  · exact replaced_gone h (ht c rfl)

theorem presentEnds_one {k : Fin 2} (h : k ∈ presentEnds s { line := l, addr := a } told) :
    ctxOfNode s { line := l, addr := a } = some k ∧ presentEnds s { line := l, addr := a } told = [k] := by
  rcases told with _ | c
  · cases h
  · exact replacedSession_endable h

theorem presentLine_faulty :
    (look (presentLine s l a told).nodes a).faulty = (nodeOf s { line := l, addr := a }).faulty := by
  rcases told with _ | c
  · simp [presentLine, lineAnswered, nodeOf]
  · simp [presentLine, lineQueued_faulty, lineAnswered, nodeOf]

theorem PresentHeard.tracker (h : PresentHeard s l a told u) : u.tracker = s.tracker := h.same.2 .tracker (by decide)

theorem PresentHeard.tables (h : PresentHeard s l a told u) : u.loader = s.loader ∧ u.store = s.store :=
  ⟨h.same.2 .loader (by decide), h.same.2 .store (by decide)⟩

/-- A door's status after its presentation. -/
theorem PresentHeard.door (h : PresentHeard s l a told u) (ht : ∀ c, told = some c → isSessionCommand c = false)
    {reports : List Bool} {bolt : Option Bool} {t : State} (hd : DoorSaid u { line := l, addr := a } reports bolt t) :
    AnswerLeft s l a (presentLine s l a told) (presentEnds s { line := l, addr := a } told) .encoderUnreachable reports bolt
      s.minibar t := by
  obtain ⟨hl, hst⟩ := h.tables
  have hrel := relockPending_ended h.ended.2
  have hcs := contactsSaid_congr (reports := reports) h.tracker hrel
  have hclock : u.time.clock = s.time.clock := by rw [h.ended.2]
  have hrecord := contactRecord_congr hclock { line := l, addr := a }
  have hwith : (if presentEnds s { line := l, addr := a } told = [] then presentLine s l a told
      else lineWithdrawn (presentLine s l a told) a) = presentLine s l a told := by
    split
    · rfl
    · next hne => exact lineWithdrawn_other (presentLine_gone ht hne)
  refine ⟨?_, ?_, ?_, hd.reported h.tracker h.ended.2 hrel hl hst, ?_, ?_, ?_⟩
  · refine unchangedBut.step ⟨h.same.1, fun b hb => h.same.2 b fun hm => hb ?_⟩
      ⟨hd.same.1, fun b hb => hd.same.2 b fun hm => hb ?_⟩
    all_goals (revert hm; cases b <;> decide)
  · rw [hwith]
    exact h.line.of_lines (hd.same.2 .lines (by decide))
  · exact (hd.same.2 .issue (by decide)).trans h.ended.1
  · exact (hd.same.2 .minibar (by decide)).trans (h.same.2 .minibar (by decide))
  · have := hd.records h.records (by rw [h.trunk])
    rw [hcs, hrecord] at this
    exact this
  · rw [hd.trunk, hcs, noticesWith_append, h.trunk]
    simp only [noticesWith, hclock, h.trunk]
    rfl

/-- A minibar's or encoder's status touches no door. -/
theorem PresentHeard.quiet (h : PresentHeard s l a told u) (ht : ∀ c, told = some c → isSessionCommand c = false) :
    AnswerLeft s l a (presentLine s l a told) (presentEnds s { line := l, addr := a } told) .encoderUnreachable [] none
      s.minibar u := h.door ht (.nil u _)

/-- A minibar's status after its presentation. -/
theorem PresentHeard.minibarItem (h : PresentHeard s l a told u) (ht : ∀ c, told = some c → isSessionCommand c = false)
    (work : List MinibarWork) :
    AnswerLeft s l a (presentLine s l a told) (presentEnds s { line := l, addr := a } told) .encoderUnreachable [] none
      work (u.withMinibar work) := by
  obtain ⟨hsame, hline, hissue, hdoor, -, hrec, htrunk⟩ := h.quiet ht
  refine ⟨?_, hline.of_lines rfl, hissue, hdoor.over rfl rfl rfl rfl, rfl, hrec.of_journal rfl, htrunk⟩
  rw [unchangedBut_iff] at hsame ⊢
  simp at hsame ⊢
  exact hsame

/-- An encoder's status after its presentation: a session that the command has not ended ends with a change to FAULT. -/
theorem PresentHeard.encoder (h : PresentHeard s l a told u) (ht0 : ∀ c, told = some c → isSessionCommand c = false)
    (hs : sessionsSound s) (status : Byte) :
    AnswerLeft s l a (faultKept (presentLine s l a told) a status)
      (if presentEnds s { line := l, addr := a } told ≠ [] then presentEnds s { line := l, addr := a } told
        else if becomesFaulty (nodeOf s { line := l, addr := a }) status then endable s { line := l, addr := a } else [])
      (if presentEnds s { line := l, addr := a } told ≠ [] then .encoderUnreachable else .encoderSilent) [] none s.minibar
      (encoderStatus u { line := l, addr := a } status) := by
  have hended := encoderStatus_ended u { line := l, addr := a } status
  have hfaulty : (nodeOf u { line := l, addr := a }).faulty = (nodeOf s { line := l, addr := a }).faulty := by
    rw [nodeOf, h.line.line]
    exact presentLine_faulty
  have hbreaks : becomesFaulty (nodeOf u { line := l, addr := a }) status ↔
      becomesFaulty (nodeOf s { line := l, addr := a }) status := by simp only [becomesFaulty, hfaulty]
  simp only [hbreaks] at hended
  have hline := hended.lineSet (statusKept_line (a := a) h.line status)
  have hkept : unchangedBut [.time, .lines, .queue, .tracker, .issue, .minibar, .journal, .trunk] s
      (encoderStatus u { line := l, addr := a } status) := by
    have h1 := (unchangedBut_iff _ _ _).1 h.same
    rw [unchangedBut_iff]
    simp at h1 ⊢
    simp [h1]
  obtain ⟨hl, hst⟩ := h.tables
  have htracker : (encoderStatus u { line := l, addr := a } status).tracker = s.tracker := by simpa using h.tracker
  have hminibar : (encoderStatus u { line := l, addr := a } status).minibar = s.minibar := by
    have hm : u.minibar = s.minibar := h.same.2 .minibar (by decide)
    simpa using hm
  have hquiet : ∀ {left}, (encoderStatus u { line := l, addr := a } status).time = { s.time with deadlines := left } →
      relockPending (encoderStatus u { line := l, addr := a } status) { line := l, addr := a } =
        relockPending s { line := l, addr := a } →
      doorReported s (encoderStatus u { line := l, addr := a } status) { line := l, addr := a } [] none left := fun ht hr =>
    (DoorSaid.nil _ _).reported htracker ht hr (by simpa using hl) (by simpa using hst)
  have hnone : contactRecords s { line := l, addr := a } [] = [] ∧ contactNotices s { line := l, addr := a } [] = [] := ⟨rfl, rfl⟩
  by_cases hR : presentEnds s { line := l, addr := a } told = []
  · have hR' : (told.map (replacedSession s { line := l, addr := a })).getD [] = [] := hR
    have hissue : u.issue = s.issue := by rw [h.ended.1, hR', sessionsEnded_nil]
    have htime : u.time = s.time := by rw [h.ended.2, hR', if_pos rfl]
    have htrunk : u.trunk = s.trunk := by rw [h.trunk, hR']; rfl
    have hrecords := h.records
    rw [hR'] at hrecords
    rw [endable_congr hissue] at hended hline
    simp only [hR, ne_eq, not_true_eq_false, if_false]
    generalize (if becomesFaulty (nodeOf s { line := l, addr := a }) status then endable s { line := l, addr := a } else []) = ks
      at hended hline ⊢
    obtain ⟨-, -, ⟨hi, ht⟩, hrec, htr⟩ := hended
    obtain ⟨hes, her, hen⟩ := endings_congr (s := s) (t := statusKept u { line := l, addr := a } status) (by simpa using hissue)
      (by simp [htime]) ks .encoderSilent
    rw [hes] at hi
    rw [her] at hrec
    rw [hen] at htr
    simp only [statusKept_frame, htime] at ht
    refine ⟨hkept, hline, hi, hquiet ht (relockPending_ended ht), hminibar, ?_, ?_⟩
    · have := hrec (hrecords.of_journal (by simp)) (by simp [htrunk])
      simpa [endRecords, hnone] using this
    · rw [htr, hnone.2, List.append_nil]
      simp only [statusKept_frame, htrunk, noticesWith, htime]
  · obtain ⟨k, hk⟩ := List.exists_mem_of_ne_nil _ hR
    obtain ⟨hnode, hone⟩ := presentEnds_one hk
    have hgone : endable u { line := l, addr := a } = [] :=
      endable_ended hs hnode (why := .encoderUnreachable) (by rw [← hone]; exact h.ended.1)
    rw [hgone, ite_self] at hended hline
    rw [if_pos rfl] at hline
    obtain ⟨-, -, ⟨hi, ht⟩, hrec, htr⟩ := hended
    rw [sessionsEnded_nil] at hi
    simp only [statusKept_frame, if_true] at hi ht
    have ht' := ht.trans h.ended.2
    have hpend : ∀ x, (look (faultKept (presentLine s l a told) a status).nodes a).command = some x →
        isSessionCommand x = false := fun x hx => presentLine_gone ht0 hR x (by simpa [faultKept] using hx)
    have hsame : (if presentEnds s { line := l, addr := a } told = [] then faultKept (presentLine s l a told) a status
        else lineWithdrawn (faultKept (presentLine s l a told) a status) a) = faultKept (presentLine s l a told) a status := by
      rw [if_neg hR, lineWithdrawn_other hpend]
    rw [if_pos hR, if_pos hR]
    refine ⟨hkept, hsame.symm ▸ hline, hi.trans h.ended.1, hquiet ht' (relockPending_ended ht'), hminibar, ?_, ?_⟩
    · have := hrec (h.records.of_journal (by simp)) (by simp [h.trunk])
      have hnil : endRecords (statusKept u { line := l, addr := a } status) [] .encoderSilent = [] := rfl
      rw [hnil, List.append_nil] at this
      rw [hnone.1, List.append_nil]
      exact this
    · rw [htr, hnone.2, List.append_nil]
      simp only [statusKept_frame, endNotices, List.filter_nil, List.map_nil, noticesWith, List.foldl_nil]
      exact h.trunk

end


/-- With no session ended, the cause may be read either way. -/
theorem AnswerLeft.cause {s t : State} {l : LineNo} {a : Addr} {known : LineCtl} {ks : List (Fin 2)} {why other : FailReason}
    {reports : List Bool} {bolt : Option Bool} {work : List MinibarWork}
    (h : AnswerLeft s l a known ks why reports bolt work t) (hw : ks ≠ [] → why = other) :
    AnswerLeft s l a known ks other reports bolt work t := by
  by_cases hk : ks = []
  · subst hk
    obtain ⟨hsame, hline, hissue, hdoor, hm, hrec, htrunk⟩ := h
    obtain ⟨hi, hr, hn⟩ := endings_nil s why other
    exact ⟨hsame, hline, hi ▸ hissue, hdoor, hm, hr ▸ hrec, hn ▸ htrunk⟩
  · exact hw hk ▸ h

/-- A presentation's answer taken by the kind of its node. -/
theorem presentation_left {s : State} {l : LineNo} {a : Addr} {kind : NodeKind} {g : Grant} {stamp : Capture} (status : Byte)
    (hs : sessionsSound s) (hf : flightFate (lineOf s l) a = none) (hk : kind ≠ .unused) :
    let n : Node := { line := l, addr := a }
    let told := presentTold s n
    let replaced := presentEnds s n told
    let broken := kind = .encoder ∧ becomesFaulty (nodeOf s n) status
    AnswerLeft s l a
      (if kind = .encoder then faultKept (presentLine s l a told) a status else presentLine s l a told)
      (if replaced ≠ [] then replaced else if broken then endable s n else [])
      (if replaced ≠ [] then .encoderUnreachable else .encoderSilent)
      (if kind = .roomDoor ∨ kind = .commonGate then [status.getLsbD 0 || status.getLsbD 2] else [])
      (if kind = .roomDoor then some (status.getLsbD 1) else none)
      (if kind = .minibar then itemQueued n (.item n status none) s.minibar else s.minibar)
      (handAnswer (answerHeard s l a) n kind (.present g) status stamp) := by
  intro n told replaced broken
  have hheard := handPresent_heard hf g stamp
  obtain ⟨u, hu⟩ : ∃ u, u = handPresent (answerHeard s l a) n g stamp := ⟨_, rfl⟩
  have hheard : PresentHeard s l a told u := hu ▸ hheard
  have ht : ∀ c, told = some c → isSessionCommand c = false := fun c hc => by
    have htold : presentTold s n = some c := hc
    unfold presentTold at htold
    split at htold
    · cases htold
    · split at htold <;> (cases htold; rfl)
  have hand : handAnswer (answerHeard s l a) n kind (.present g) status stamp = handStatus u n kind (.present g) status := by
    rw [handAnswer, handEvent, if_neg hk, hu]
  rw [hand]
  have plain : ¬ broken → (if replaced ≠ [] then replaced else if broken then endable s n else []) = replaced := fun h => by
    by_cases hr : replaced = []
    · simp only [hr, ne_eq, not_true_eq_false, if_false, h]
    · rw [if_pos hr]
  have caused : replaced ≠ [] →
      FailReason.encoderUnreachable = if replaced ≠ [] then .encoderUnreachable else .encoderSilent := fun h => (if_pos h).symm
  cases kind
  case unused => exact absurd rfl hk
  case encoder =>
    have h := hheard.encoder ht hs status
    have hb : broken ↔ becomesFaulty (nodeOf s n) status := and_iff_right rfl
    simp only [hb]
    exact h
  case minibar =>
    rw [plain (fun h => absurd h.1 nofun)]
    have hm : u.minibar = s.minibar := hheard.same.2 .minibar (by decide)
    have hitem : handStatus u n .minibar (.present g) status = u.withMinibar (itemQueued n (.item n status none) s.minibar) := by
      rw [← mergeItem_eq, ← hm]
      rfl
    rw [hitem]
    exact (hheard.minibarItem ht _).cause caused
  case roomDoor =>
    rw [plain (fun h => absurd h.1 nofun)]
    exact (hheard.door ht (doorStatus_said (.present g) status (.inr rfl))).cause caused
  case commonGate =>
    rw [plain (fun h => absurd h.1 nofun)]
    exact (hheard.door ht (doorStatus_said (.present g) status (.inl rfl))).cause caused

theorem presentation_queue {v : State} {n : Node} {kind : NodeKind} {g : Grant} {stamp : Capture} (status : Byte)
    (hk : kind ≠ .unused) :
    (handAnswer v n kind (.present g) status stamp).queue = (handPresent v n g stamp).queue := by
  rw [handAnswer, handEvent, if_neg hk]
  cases kind <;> simp [handStatus, handContact, reportItem]


/-! ### The reports of an encoder (R107 to R109, R112) -/

/-- A session holding its BLANK's serial, its composition asked for (R107). -/
def blankHeld (v : State) (k : Fin 2) (serial : Serial) : State :=
  v.withIssue
    { ctxs := put v.issue.ctxs k { ctxOf v k with heldBlank := some serial }
      work := v.issue.work ++ [.composition k] }

/-- A session's outcome decided DONE, its closing asked for (R109, R115). -/
def writtenDone (v : State) (n : Node) (k : Fin 2) : State :=
  (withdraw (cancel v n .issueTimeout) n).withIssue
    { ctxs := put v.issue.ctxs k { ctxOf v k with outcome := some .done }
      work := v.issue.work ++ [.closing k] }

section
variable {v : State} {n : Node}

theorem ctxOfNode_endable_nil (h : endable v n = []) {k : Fin 2} (hk : ctxOfNode v n = some k) :
    (ctxOf v k).outcome ≠ none := fun ho => by
  have := mem_endable.2 ⟨hk, ho⟩
  rw [h] at this
  cases this

theorem blankReport_none (h : endable v n = []) (serial : Serial) : blankReport v n serial = v := by
  unfold blankReport
  split
  · rfl
  · next k hk => exact if_neg fun hc => ctxOfNode_endable_nil h hk hc.2.2

theorem writtenReport_none (h : endable v n = []) : writtenReport v n = v := by
  unfold writtenReport
  split
  · rfl
  · next k hk => exact if_neg fun hc => ctxOfNode_endable_nil h hk hc.2

theorem writeFailedReport_none (h : endable v n = []) : writeFailedReport v n = v := by
  unfold writeFailedReport
  split
  · rfl
  · next k hk =>
    split
    · exact endSession_decided (ctxOfNode_endable_nil h hk) _
    · rfl

theorem blankReport_some {k : Fin 2} (hk : k ∈ endable v n) (serial : Serial) :
    blankReport v n serial =
      if (ctxOf v k).state = .awaitBlank ∧ (ctxOf v k).heldBlank = none then blankHeld v k serial else v := by
  obtain ⟨hn, ho⟩ := mem_endable.1 hk
  have hc : blankReport v n serial =
      if (ctxOf v k).state = .awaitBlank ∧ (ctxOf v k).heldBlank = none ∧ (ctxOf v k).outcome = none then
        blankHeld v k serial
      else v := by
    simp only [blankReport, hn]
    rfl
  simp only [hc, ho, and_true]

theorem writtenReport_some {k : Fin 2} (hk : k ∈ endable v n) :
    writtenReport v n = if (ctxOf v k).state = .writing then writtenDone v n k else v := by
  obtain ⟨hn, ho⟩ := mem_endable.1 hk
  have hi : (withdraw (cancel v n .issueTimeout) n).issue = v.issue := by simp [withdraw_eq]
  have hw : ∀ (w : State) (x : IssueCtx), w.issue = v.issue →
      (setCtx w k x).withIssue { (setCtx w k x).issue with work := (setCtx w k x).issue.work ++ [.closing k] } =
        w.withIssue { ctxs := put v.issue.ctxs k x, work := v.issue.work ++ [.closing k] } := fun w x h => by
    rw [← h]
    rfl
  have hc : writtenReport v n =
      if (ctxOf v k).state = .writing ∧ (ctxOf v k).outcome = none then writtenDone v n k else v := by
    simp only [writtenReport, hn, hw _ _ hi]
    rfl
  simp only [hc, ho, and_true]

theorem writeFailedReport_some {k : Fin 2} (hk : k ∈ endable v n) :
    writeFailedReport v n = if (ctxOf v k).heldBlank = none then endSession v k .writeFailed else v := by
  obtain ⟨hn, -⟩ := mem_endable.1 hk
  simp only [writeFailedReport, hn]

theorem encoderStatus_quiet {u : State} {status : Byte} (h : becomesFaulty (nodeOf u n) status → endable u n = []) :
    encoderStatus u n status = statusKept u n status := by
  rw [encoderStatus_eq]
  split
  · next hb =>
    exact endNodeSession_none ((endable_congr (s := u) (t := statusKept u n status) (by simp) n).trans (h hb)) _
  · rfl

end

/-! ### A node's line after its answer -/

/-- A node of the line has answered: no exchange is in flight, it is PRESENT, and its status is the one it had. -/
structure LineHeard (d : LineCtl) (a : Addr) (c : LineCtl) : Prop where
  idle : c.exchange = none
  missed : (look c.nodes a).missed = 0
  silent : (look c.nodes a).silent = false
  faulty : (look c.nodes a).faulty = (look d.nodes a).faulty

theorem LineHeard.answered (d : LineCtl) (a : Addr) : LineHeard d a (lineAnswered d a) := by
  constructor <;> simp [lineAnswered]

theorem LineHeard.withdrawn {d c : LineCtl} {a : Addr} (h : LineHeard d a c) : LineHeard d a (lineWithdrawn c a) := by
  obtain ⟨h1, h2, h3, h4⟩ := h
  unfold lineWithdrawn
  dsimp only
  split
  · split
    · exact ⟨by simp [h1], h2, h3, h4⟩
    · exact ⟨by simp [h1], by simpa using h2, by simpa using h3, by simpa using h4⟩
  · exact ⟨h1, h2, h3, h4⟩


theorem LineHeard.status {d c : LineCtl} {a : Addr} (h : LineHeard d a c) (status : Byte) :
    LineHeard (faultKept d a status) a (faultKept c a status) := by
  obtain ⟨h1, h2, h3, -⟩ := h
  exact ⟨h1, by simpa [faultKept] using h2, by simpa [faultKept] using h3, by simp [faultKept]⟩

section
variable {s u : State} {l : LineNo} {a : Addr} {c : LineCtl} {status : Byte}

/-- An encoder's line once its status is kept. -/
theorem encoderStatus_line (hu : LineSet l c s u) (h : LineHeard (lineOf s l) a c) :
    ∃ e, LineSet l e s (encoderStatus u { line := l, addr := a } status) ∧ LineHeard (faultKept (lineOf s l) a status) a e := by
  have hline := (encoderStatus_ended u { line := l, addr := a } status).lineSet (statusKept_line (a := a) hu status)
  have both : ∀ ks : List (Fin 2), LineHeard (faultKept (lineOf s l) a status) a
      (if ks = [] then faultKept c a status else lineWithdrawn (faultKept c a status) a) := fun ks => by
    split
    · exact h.status status
    · exact (h.status status).withdrawn
  exact ⟨_, hline, both _⟩

theorem becomesFaulty_heard (hu : LineSet l c s u) (h : LineHeard (lineOf s l) a c) :
    becomesFaulty (nodeOf u { line := l, addr := a }) status ↔ becomesFaulty (look (lineOf s l).nodes a) status := by
  simp only [becomesFaulty, nodeOf, hu.line, h.faulty]

end

/-- What the end of an encoder's session by its own answer leaves (R112 to R115). -/
structure EncoderEnded (s : State) (l : LineNo) (a : Addr) (ks : List (Fin 2)) (why : FailReason) (t : State) : Prop where
  gone : sessionCommandGone t { line := l, addr := a }
  time : timeoutCancelled s t { line := l, addr := a }
  issue : t.issue = sessionsEnded s ks why
  records : appendsAll s t (backRecord s { line := l, addr := a } ++ endRecords s ks why)
  trunk : t.trunk = { s.trunk with notices := noticesWith s (endNotices s ks why) }

section
variable {s u t : State} {l : LineNo} {a : Addr} {c : LineCtl} {ks : List (Fin 2)} {why : FailReason}

/-- A session ended over a state that has heard the answer. -/
theorem EndedAt.heard (h : EndedAt u { line := l, addr := a } ks why t) (hne : ks ≠ []) (hu : LineSet l c s u)
    (hi : c.exchange = none) (htime : u.time = s.time) (htrunk : u.trunk = s.trunk)
    (hrec : appendsAll s u (backRecord s { line := l, addr := a }))
    (hends : sessionsEnded u ks why = sessionsEnded s ks why ∧ endRecords u ks why = endRecords s ks why ∧
      endNotices u ks why = endNotices s ks why) : EncoderEnded s l a ks why t := by
  obtain ⟨hes, her, hen⟩ := hends
  have hline := h.lineSet hu
  rw [if_neg hne] at hline
  obtain ⟨-, -, ⟨hissue, ht⟩, hrecs, htr⟩ := h
  rw [if_neg hne, htime] at ht
  refine ⟨fun x hx => ?_, ht, hissue.trans hes, ?_, ?_⟩
  · rw [nodeOf, hline.line] at hx
    exact lineWithdrawn_gone c a hi x hx
  · rw [← her]
    exact hrecs hrec (by rw [htrunk])
  · rw [htr, hen, htrunk]
    simp only [noticesWith, htrunk, htime]

/-- The status kept afterwards changes nothing of that. -/
theorem EncoderEnded.status (h : EncoderEnded s l a ks why t) (status : Byte) :
    EncoderEnded s l a ks why (statusKept t { line := l, addr := a } status) := by
  obtain ⟨hgone, htime, hissue, hrec, htrunk⟩ := h
  refine ⟨fun x hx => hgone x ?_, ?_, ?_, hrec.of_journal (by simp), ?_⟩
  · rw [← hx, statusKept, nodeOf_setNode, if_pos rfl]
  · simpa [timeoutCancelled] using htime
  · simpa using hissue
  · simpa using htrunk

/-- A BLANK just held is discarded with its composition by the session's end. -/
theorem endings_blankHeld (v : State) {k : Fin 2} (serial : Serial) (why : FailReason) :
    sessionsEnded (blankHeld v k serial) [k] why = sessionsEnded v [k] why ∧
      endRecords (blankHeld v k serial) [k] why = endRecords v [k] why ∧
      endNotices (blankHeld v k serial) [k] why = endNotices v [k] why := by
  have hctx : ctxOf (blankHeld v k serial) k = { ctxOf v k with heldBlank := some serial } := by
    simp [blankHeld, ctxOf]
  have hclock : (blankHeld v k serial).time.clock = v.time.clock := rfl
  refine ⟨?_, ?_, ?_⟩
  · have hwork : (blankHeld v k serial).issue.work = v.issue.work ++ [.composition k] := rfl
    have hctxs : (blankHeld v k serial).issue.ctxs = put v.issue.ctxs k { ctxOf v k with heldBlank := some serial } := rfl
    simp only [sessionsEnded, List.foldl_cons, List.foldl_nil, hctx, hwork, hctxs, put_put, List.filter_cons, burns,
      List.filter_append, List.any_cons, List.any_nil, beq_self_eq_true, Bool.or_false, Bool.not_true, Bool.false_eq_true,
      if_false, List.filter_nil, List.append_nil]
  · simp only [endRecords, List.filter_cons, List.filter_nil, hctx, stampedRecord_congr hclock]
    split <;> simp [hctx]
  · simp only [endNotices, List.filter_cons, List.filter_nil, hctx]
    split <;> simp [hctx]

end

/-- A BLANK held leaves its session one that can end. -/
theorem endable_blankHeld (v : State) (n : Node) (k : Fin 2) (serial : Serial) :
    endable (blankHeld v k serial) n = endable v n := by
  have hctx : ∀ j, ctxOf (blankHeld v k serial) j =
      if k = j then { ctxOf v k with heldBlank := some serial } else ctxOf v j := fun j => by
    simp [blankHeld, ctxOf, look_put]
  have hopen : ∀ j, (isOpen (ctxOf (blankHeld v k serial) j) && decide ((ctxOf (blankHeld v k serial) j).node = n)) =
      (isOpen (ctxOf v j) && decide ((ctxOf v j).node = n)) := fun j => by
    rw [hctx]
    split
    · next h => subst h; rfl
    · rfl
  have hout : ∀ j, (ctxOf (blankHeld v k serial) j).outcome = (ctxOf v j).outcome := fun j => by
    rw [hctx]
    split
    · next h => subst h; rfl
    · rfl
  simp only [endable, ctxOfNode, hopen, hout]

section
variable (v : State) (n : Node) (k : Fin 2)

theorem writtenDone_lines : (writtenDone v n k).lines = linesWithdrawn v n := by
  simp [writtenDone, withdraw_eq, linesWithdrawn, lineOf]

@[simp] theorem writtenDone_frame :
    (writtenDone v n k).pending = v.pending ∧ (writtenDone v n k).queue = v.queue ∧
    (writtenDone v n k).tracker = v.tracker ∧ (writtenDone v n k).override = v.override ∧
    (writtenDone v n k).minibar = v.minibar ∧ (writtenDone v n k).store = v.store ∧
    (writtenDone v n k).port = v.port ∧ (writtenDone v n k).loader = v.loader ∧ (writtenDone v n k).pruner = v.pruner ∧
    (writtenDone v n k).journal = v.journal ∧ (writtenDone v n k).trunk = v.trunk ∧
    (writtenDone v n k).startup = v.startup ∧ (writtenDone v n k).pins = v.pins ∧
    (writtenDone v n k).time =
      { v.time with deadlines := v.time.deadlines.filter fun d => !(d.node == n && d.kind == .issueTimeout) } ∧
    (writtenDone v n k).issue =
      { ctxs := put v.issue.ctxs k { ctxOf v k with outcome := some .done }, work := v.issue.work ++ [.closing k] } := by
  simp [writtenDone, withdraw_eq, cancel, setDeadlines, BEq.beq]

/-- A session decided DONE can end no more. -/
theorem writtenDone_decided {k : Fin 2} (hk : k ∈ endable v n) : endable (writtenDone v n k) n = [] := by
  have hctx : ∀ j, ctxOf (writtenDone v n k) j =
      if k = j then { ctxOf v k with outcome := some .done } else ctxOf v j := fun j => by
    simp [ctxOf, look_put]
  have hopen : ∀ j, (isOpen (ctxOf (writtenDone v n k) j) && decide ((ctxOf (writtenDone v n k) j).node = n)) =
      (isOpen (ctxOf v j) && decide ((ctxOf v j).node = n)) := fun j => by
    rw [hctx]
    split
    · next h => subst h; rfl
    · rfl
  have hnode : ctxOfNode (writtenDone v n k) n = some k := by
    have : ctxOfNode (writtenDone v n k) n = ctxOfNode v n := by simp only [ctxOfNode, hopen]
    rw [this]
    exact (mem_endable.1 hk).1
  simp [endable, hnode, hctx]

end


theorem word4_eq (w x y z : Byte) :
    word4 w x y z = BitVec.ofNat 32 ([w, x, y, z].foldl (fun v b => v * 256 + b.toNat) 0) := by
  apply BitVec.eq_of_toNat_eq
  have hw := w.isLt
  have hx := x.isLt
  have hy := y.isLt
  have hz := z.isLt
  have shift : ∀ (m b : Nat), b < 256 → m <<< 8 ||| b = m * 256 + b := fun m b h => by
    rw [← Nat.shiftLeft_add_eq_or_of_lt (i := 8) h, Nat.shiftLeft_eq]
  simp only [word4, BitVec.toNat_append, BitVec.toNat_ofNat, List.foldl_cons, List.foldl_nil]
  rw [shift _ _ hx, shift _ _ hy, shift _ _ hz]
  omega

/-- The event of an encoder, by what stands of its node's session (R107 to R109). -/
theorem encoderEvent_cases {v : State} {n : Node} {event : Nat} {content : List Byte} (status : Byte) (stamp : Capture)
    (hc : content.length = eventLength event) :
    let u := handEvent v n .encoder (plainEvent event content) status stamp
    let serial : Serial := BitVec.ofNat 32 (content.foldl (fun v b => v * 256 + b.toNat) 0)
    (endable v n = [] → u = v) ∧
      ∀ k ∈ endable v n,
        (event = 5 → u =
          if (ctxOf v k).state = .awaitBlank ∧ (ctxOf v k).heldBlank = none then blankHeld v k serial else v) ∧
        (event = 6 → u = if (ctxOf v k).state = .writing then writtenDone v n k else v) ∧
        (event = 7 → u = if (ctxOf v k).heldBlank = none then endSession v k .writeFailed else v) ∧
        (event ≠ 5 → event ≠ 6 → event ≠ 7 → u = v) := by
  intro u serial
  have other : event ≠ 5 → event ≠ 6 → event ≠ 7 → u = v := fun h5 h6 h7 => by
    have hev : ∀ ev, plainEvent event content = ev → ev ≠ .written ∧ ev ≠ .writeFailed ∧ ∀ x, ev ≠ .blank x := by
      intro ev he
      subst he
      unfold plainEvent
      split
      case h_4 => exact absurd rfl h5
      case h_5 => exact absurd rfl h6
      case h_6 => exact absurd rfl h7
      all_goals exact ⟨nofun, nofun, nofun⟩
    obtain ⟨hw, hf, hb⟩ := hev _ rfl
    show handEvent v n .encoder (plainEvent event content) status stamp = v
    cases he : plainEvent event content
    case present g => exact absurd he (plainEvent_noPresent event content g)
    case written => exact absurd he hw
    case writeFailed => exact absurd he hf
    case blank x => exact absurd he (hb x)
    all_goals rfl
  have five : event = 5 → u = blankReport v n serial := fun h => by
    subst h
    obtain ⟨w, x, y, z, rfl⟩ : ∃ w x y z, content = [w, x, y, z] := by
      match content, hc with
      | [w, x, y, z], _ => exact ⟨w, x, y, z, rfl⟩
    show handEvent v n .encoder (.blank (word4 w x y z)) status stamp = _
    rw [handEvent, if_pos rfl, word4_eq]
  have six : event = 6 → u = writtenReport v n := fun h => by
    subst h
    show handEvent v n .encoder .written status stamp = _
    rw [handEvent, if_pos rfl]
  have seven : event = 7 → u = writeFailedReport v n := fun h => by
    subst h
    show handEvent v n .encoder .writeFailed status stamp = _
    rw [handEvent, if_pos rfl]
  refine ⟨fun hk => ?_, fun k hk => ⟨fun h => ?_, fun h => ?_, fun h => ?_, other⟩⟩
  · by_cases h5 : event = 5
    · rw [five h5, blankReport_none hk]
    · by_cases h6 : event = 6
      · rw [six h6, writtenReport_none hk]
      · by_cases h7 : event = 7
        · rw [seven h7, writeFailedReport_none hk]
        · exact other h5 h6 h7
  · rw [five h, blankReport_some hk]
  · rw [six h, writtenReport_some hk]
  · rw [seven h, writeFailedReport_some hk]


/-- What an encoder's answer does, its event before its status (R37, R107 to R109, R112). -/
structure EncoderAnswered (s : State) (l : LineNo) (a : Addr) (event : Nat) (content : List Byte) (status : Byte) (t : State) :
    Prop where
  same : unchangedBut [.time, .lines, .issue, .journal, .trunk] s t
  line : ∃ e, LineSet l e s t ∧ LineHeard (faultKept (lineOf s l) a status) a e
  quiet : endable s { line := l, addr := a } = [] ∨
      (¬ becomesFaulty (look (lineOf s l).nodes a) status ∧
        ¬ (event = 6 ∧ ∃ k ∈ endable s { line := l, addr := a }, (ctxOf s k).state = .writing) ∧
        ¬ (event = 7 ∧ ∃ k ∈ endable s { line := l, addr := a }, (ctxOf s k).heldBlank = none) ∧
        ¬ (event = 5 ∧ ∃ k ∈ endable s { line := l, addr := a },
            (ctxOf s k).state = .awaitBlank ∧ (ctxOf s k).heldBlank = none)) →
    t = statusKept (answerHeard s l a) { line := l, addr := a } status
  blank : ∀ k ∈ endable s { line := l, addr := a },
    event = 5 → (ctxOf s k).state = .awaitBlank → (ctxOf s k).heldBlank = none →
    ¬ becomesFaulty (look (lineOf s l).nodes a) status →
    t = statusKept
      (blankHeld (answerHeard s l a) k (BitVec.ofNat 32 (content.foldl (fun v b => v * 256 + b.toNat) 0)))
      { line := l, addr := a } status
  written : ∀ k ∈ endable s { line := l, addr := a }, event = 6 → (ctxOf s k).state = .writing →
    t = statusKept (writtenDone (answerHeard s l a) { line := l, addr := a } k) { line := l, addr := a } status
  failed : sessionsSound s → ∀ k ∈ endable s { line := l, addr := a }, event = 7 → (ctxOf s k).heldBlank = none →
    EncoderEnded s l a (endable s { line := l, addr := a }) .writeFailed t
  broken : ∀ k ∈ endable s { line := l, addr := a }, becomesFaulty (look (lineOf s l).nodes a) status →
    ¬ (event = 6 ∧ (ctxOf s k).state = .writing) → ¬ (event = 7 ∧ (ctxOf s k).heldBlank = none) →
    EncoderEnded s l a (endable s { line := l, addr := a }) .encoderSilent t

theorem encoderAnswer_answered (s : State) (l : LineNo) (a : Addr) {event : Nat} {content : List Byte} (status : Byte)
    (stamp : Capture) (hc : content.length = eventLength event) :
    EncoderAnswered s l a event content status
      (handAnswer (answerHeard s l a) { line := l, addr := a } .encoder (plainEvent event content) status stamp) := by
  obtain ⟨n, hn⟩ : ∃ n : Node, n = { line := l, addr := a } := ⟨_, rfl⟩
  obtain ⟨v, hv⟩ : ∃ v, v = answerHeard s l a := ⟨_, rfl⟩
  obtain ⟨u, hu⟩ : ∃ u, u = handEvent v n .encoder (plainEvent event content) status stamp := ⟨_, rfl⟩
  have ht : handAnswer v n .encoder (plainEvent event content) status stamp = encoderStatus u n status := by rw [hu]; rfl
  have hvi : v.issue = s.issue := by simp [hv]
  have hvt : v.time = s.time := by simp [hv]
  have hvk : v.trunk = s.trunk := by simp [hv]
  have hvl : LineSet l (lineAnswered (lineOf s l) a) s v := hv ▸ answerHeard_line s l a
  have hvr : appendsAll s v (backRecord s n) := hn ▸ hv ▸ answerHeard_records s l a
  have hheard := LineHeard.answered (lineOf s l) a
  have hctx : ∀ k, ctxOf v k = ctxOf s k := fun k => by simp [ctxOf, hvi]
  have hend : endable v n = endable s n := endable_congr hvi n
  obtain ⟨hnil, hcases⟩ := encoderEvent_cases (v := v) (n := n) status stamp hc
  rw [← hu, hend] at hnil hcases
  simp only [hctx] at hcases
  rw [← hn, ← hv, ht]
  have hone : ∀ k ∈ endable s n, endable s n = [k] ∧ ctxOfNode s n = some k ∧ (ctxOf s k).outcome = none := fun k hk => by
    rcases endable_cases s n with h | ⟨j, h, hj, ho⟩
    · rw [h] at hk; cases hk
    · obtain rfl : k = j := by simpa [h] using hk
      exact ⟨h, hj, ho⟩
  have hended : ∀ k ∈ endable s n, EndedAt v n [k] .writeFailed (endSession v k .writeFailed) := fun k hk => by
    obtain ⟨-, hnode, ho⟩ := hone k hk
    exact .one ((ctxOfNode_congr hvi n).trans hnode) (by rw [hctx, ho]) nofun
  have kinds : u = v ∨ (∃ k x, u = blankHeld v k x) ∨ (∃ k, u = writtenDone v n k) ∨
      ∃ k ∈ endable s n, u = endSession v k .writeFailed := by
    by_cases hks : endable s n = []
    · exact .inl (hnil hks)
    · obtain ⟨k, hk⟩ := List.exists_mem_of_ne_nil _ hks
      obtain ⟨h5, h6, h7, hother⟩ := hcases k hk
      by_cases e5 : event = 5
      · have := h5 e5
        split at this
        · exact .inr (.inl ⟨_, _, this⟩)
        · exact .inl this
      · by_cases e6 : event = 6
        · have := h6 e6
          split at this
          · exact .inr (.inr (.inl ⟨_, this⟩))
          · exact .inl this
        · by_cases e7 : event = 7
          · have := h7 e7
            split at this
            · exact .inr (.inr (.inr ⟨k, hk, this⟩))
            · exact .inl this
          · exact .inl (hother e5 e6 e7)
  have hsv : unchangedBut [.time, .lines, .issue, .journal, .trunk] s v := by
    rw [unchangedBut_iff]
    simp [hv]
  have hsu : unchangedBut [.time, .lines, .issue, .journal, .trunk] s u := by
    refine hsv.step ?_
    rcases kinds with h | ⟨k, x, h⟩ | ⟨k, h⟩ | ⟨k, hk, h⟩
    · rw [h, unchangedBut_iff]
      simp
    · rw [h, unchangedBut_iff]
      simp [blankHeld]
    · rw [h, unchangedBut_iff]
      simp
    · rw [h]
      exact (hended k hk).same
  obtain ⟨c, huc, hch⟩ : ∃ c, LineSet l c s u ∧ LineHeard (lineOf s l) a c := by
    rcases kinds with h | ⟨k, x, h⟩ | ⟨k, h⟩ | ⟨k, hk, h⟩
    · exact ⟨_, h ▸ hvl, hheard⟩
    · exact ⟨_, h ▸ hvl.of_lines rfl, hheard⟩
    · refine ⟨_, ?_, hheard.withdrawn⟩
      have hset := hvl.set (lineWithdrawn (lineAnswered (lineOf s l) a) a)
      refine h ▸ hset.of_lines ?_
      rw [writtenDone_lines, linesWithdrawn, hn, hvl.line]
      rfl
    · have hline := (hn ▸ hended k hk : EndedAt v { line := l, addr := a } [k] _ _).lineSet hvl
      rw [if_neg nofun] at hline
      exact ⟨_, h ▸ hline, hheard.withdrawn⟩
  have hbreaks : becomesFaulty (nodeOf u n) status ↔ becomesFaulty (look (lineOf s l).nodes a) status :=
    hn ▸ becomesFaulty_heard huc hch
  have hquiet : (becomesFaulty (look (lineOf s l).nodes a) status → endable u n = []) →
      encoderStatus u n status = statusKept u n status := fun h => encoderStatus_quiet fun hb => h (hbreaks.1 hb)
  have hends : ∀ (k : Fin 2) (why : FailReason), sessionsEnded v [k] why = sessionsEnded s [k] why ∧
      endRecords v [k] why = endRecords s [k] why ∧ endNotices v [k] why = endNotices s [k] why :=
    fun k why => endings_congr hvi (by rw [hvt]) [k] why
  -- a session still undecided ends with a change to FAULT
  have broken : ∀ (w : State) (k : Fin 2), u = w → k ∈ endable s n → endable w n = endable s n →
      w.time = s.time → w.trunk = s.trunk → w.journal = v.journal →
      (sessionsEnded w [k] .encoderSilent = sessionsEnded s [k] .encoderSilent ∧
        endRecords w [k] .encoderSilent = endRecords s [k] .encoderSilent ∧
        endNotices w [k] .encoderSilent = endNotices s [k] .encoderSilent) →
      becomesFaulty (look (lineOf s l).nodes a) status →
      EncoderEnded s l a (endable s n) .encoderSilent (encoderStatus u n status) := by
    intro w k huw hk hew htime htrunk hj hes hb
    subst huw
    have h := encoderStatus_ended u n status
    rw [if_pos (hbreaks.2 hb), hew, (hone k hk).1] at h
    rw [(hone k hk).1]
    obtain ⟨h1, h2, h3⟩ := endings_congr (s := u) (t := statusKept u n status) (by simp) (by simp) [k] .encoderSilent
    obtain ⟨g1, g2, g3⟩ := hes
    subst hn
    exact h.heard nofun (statusKept_line (a := a) huc status) hch.idle (by simpa using htime) (by simpa using htrunk)
      ((hvr.of_journal hj).of_journal (by simp)) ⟨h1.trans g1, h2.trans g2, h3.trans g3⟩
  refine ⟨hsu.step (by rw [unchangedBut_iff]; simp), hn ▸ encoderStatus_line huc hch, fun hq => ?_, fun k hk h5 hst hb hno => ?_,
    fun k hk h6 hst => ?_, fun hs k hk h7 hb => ?_, fun k hk hb hno6 hno7 => ?_⟩
  · rw [← hn] at hq
    have huv : u = v := by
      by_cases hks : endable s n = []
      · exact hnil hks
      · obtain ⟨k, hk⟩ := List.exists_mem_of_ne_nil _ hks
        obtain ⟨-, hq6, hq7, hq5⟩ := hq.resolve_left hks
        obtain ⟨h5, h6, h7, hother⟩ := hcases k hk
        by_cases e5 : event = 5
        · rw [h5 e5, if_neg fun hc => hq5 ⟨e5, k, hk, hc⟩]
        · by_cases e6 : event = 6
          · rw [h6 e6, if_neg fun hc => hq6 ⟨e6, k, hk, hc⟩]
          · by_cases e7 : event = 7
            · rw [h7 e7, if_neg fun hc => hq7 ⟨e7, k, hk, hc⟩]
            · exact hother e5 e6 e7
    rw [hquiet fun hb => huv ▸ hend.trans (hq.resolve_right fun h => h.1 hb), huv, hv, hn]
  · rw [← hn] at hk
    have hub := (hcases k hk).1 h5
    rw [if_pos ⟨hst, hb⟩] at hub
    rw [hquiet fun h => absurd h hno, hub, hv, hn]
  · rw [← hn] at hk
    have huw := (hcases k hk).2.1 h6
    rw [if_pos hst] at huw
    rw [hquiet fun _ => huw ▸ writtenDone_decided v n (hend ▸ hk), huw, hv, hn]
  · rw [← hn] at hk ⊢
    have huf := (hcases k hk).2.2.1 h7
    rw [if_pos hb] at huf
    have he := hended k hk
    rw [← huf] at he
    have hgone : endable u n = [] := endable_ended hs (hone k hk).2.1 (he.ended.1.trans (hends k _).1)
    rw [hquiet fun _ => hgone, (hone k hk).1]
    subst hn
    exact (he.heard nofun hvl hheard.idle hvt hvk hvr (hends k _)).status status
  · rw [← hn] at hk ⊢
    obtain ⟨h5, h6, h7, hother⟩ := hcases k hk
    have plain : u = v → EncoderEnded s l a (endable s n) .encoderSilent (encoderStatus u n status) := fun h =>
      broken v k h hk hend hvt hvk rfl (hends k _) hb
    by_cases e5 : event = 5
    · have hub := h5 e5
      split at hub
      · obtain ⟨g1, g2, g3⟩ := endings_blankHeld v (k := k) (BitVec.ofNat 32 (content.foldl (fun v b => v * 256 + b.toNat) 0))
          .encoderSilent
        obtain ⟨f1, f2, f3⟩ := hends k .encoderSilent
        exact broken _ k hub hk ((endable_blankHeld _ _ _ _).trans hend) hvt hvk rfl
          ⟨g1.trans f1, g2.trans f2, g3.trans f3⟩ hb
      · exact plain hub
    · by_cases e6 : event = 6
      · exact plain ((h6 e6).trans (if_neg fun hc => hno6 ⟨e6, hc⟩))
      · by_cases e7 : event = 7
        · exact plain ((h7 e7).trans (if_neg fun hc => hno7 ⟨e7, hc⟩))
        · exact plain (hother e5 e6 e7)


/-! ### Answers passed up (R46, R48, R197) -/

/-- A content of its event's length is that event's (R210). -/
theorem parseEvent_some {event : Nat} {content : List Byte} (he : event < 8) (hc : content.length = eventLength event) :
    ∃ ev, parseEvent (BitVec.ofNat 3 event) content = some ev := by
  by_cases h1 : event = 1
  · subst h1
    match content, hc with
    | [s0, s1, s2, s3, c, g, r0, r1, a0, a1, a2, e0, e1, e2, z0, z1, o, k0, k1], _ => exact ⟨_, rfl⟩
  · exact ⟨_, parseEvent_plain he h1 hc⟩

theorem takeAnswer_passed {s : State} {l : LineNo} {d : DoorEntry} {ans : NodeAnswer} {event : NodeEvent} {stamp : Capture}
    (hm : (lineOf s l).mode = .transparent ∨ (lineOf s l).mode = .holding true) :
    takeAnswer (endExchange s l) l d ans event stamp = passUp (answerHeard s l ans.addr) l ans.addr ans.chars := by
  have hup : passesUp (lineOf (endExchange s l) l).mode = true := by
    simp only [endExchange, lineOf_setLine, if_true]
    rcases hm with hm | hm <;> rw [hm] <;> rfl
  simp [takeAnswer, hup, answerHeard]

theorem passUp_eq (s : State) (l : LineNo) (a : Addr) (chars : List Byte) :
    passUp s l a chars =
      s.withTrunk
        { s.trunk with
          outQueue := s.trunk.outQueue ++ if passUpCount s.trunk.outQueue < 4 then [.passUp l a chars] else [] } := by
  unfold passUp
  by_cases h : passUpCount s.trunk.outQueue < 4
  · have h' : passUpCount s.trunk.outQueue < Config.fifoCap := h
    rw [if_pos h', if_pos h]
  · have h' : ¬ passUpCount s.trunk.outQueue < Config.fifoCap := h
    rw [if_neg h', if_neg h, List.append_nil]
    rfl

theorem lineAnswered_kept (d : LineCtl) (a : Addr) (status : Byte) :
    faultKept (lineAnswered d a) a status =
      { d with
        exchange := none
        nodes := put d.nodes a
          { look d.nodes a with missed := 0, silent := false, faulty := some (decide (status ≠ 0)) } } := by
  simp [faultKept, lineAnswered, put_put]

theorem flightFate_window {s : State} {l : LineNo} {a : Addr} {e : Exchange} (hf : flying s l e)
    (hk : e.kind = .poll a ∨ e.kind = .call) : flightFate (lineOf s l) a = none := by
  unfold flightFate
  rw [hf.2]
  rcases hk with hk | hk <;> simp [hk]

theorem configured_of_kind {d : DoorEntry} (h : d.kind ≠ .unused) : configured d = true := by
  simpa [configured] using h

/-- What an answer passed up leaves. -/
theorem passUp_left (s : State) (l : LineNo) (a : Addr) (chars : List Byte) :
    let t := settle (passUp (answerHeard s l a) l a chars)
    unchangedBut [.lines, .journal, .trunk] s t ∧ LineSet l (lineAnswered (lineOf s l) a) s t ∧
      appendsAll s t (backRecord s { line := l, addr := a }) ∧
      trunkIs t
        { s.trunk with
          outQueue := s.trunk.outQueue ++ if passUpCount s.trunk.outQueue < 4 then [.passUp l a chars] else [] } := by
  refine ⟨unchangedBut.settled ?_, (answerHeard_line s l a).of_lines (by simp),
    ((answerHeard_records s l a).of_journal (by simp)).settled, trunkIs.settled (trunkIs_of_eq ?_)⟩
  · rw [unchangedBut_iff]
    simp
  · rw [passUp_eq]
    simp

/-- What a report item queued leaves. -/
theorem minibarWork_left (s : State) (l : LineNo) (a : Addr) (work : List MinibarWork) :
    let t := settle ((answerHeard s l a).withMinibar work)
    unchangedBut [.lines, .minibar, .journal] s t ∧ LineSet l (lineAnswered (lineOf s l) a) s t ∧
      appendsAll s t (backRecord s { line := l, addr := a }) ∧ t.minibar = work := by
  refine ⟨unchangedBut.settled ?_, (answerHeard_line s l a).of_lines (by simp),
    ((answerHeard_records s l a).of_journal rfl).settled, by simp⟩
  rw [unchangedBut_iff]
  simp

theorem EncoderEnded.settled {s t : State} {l : LineNo} {a : Addr} {ks : List (Fin 2)} {why : FailReason}
    (h : EncoderEnded s l a ks why t) :
    sessionCommandGone (settle t) { line := l, addr := a } ∧ timeoutCancelled s (settle t) { line := l, addr := a } ∧
      (settle t).issue = sessionsEnded s ks why ∧
      appendsAll s (settle t) (backRecord s { line := l, addr := a } ++ endRecords s ks why) ∧
      trunkIs (settle t) { s.trunk with notices := noticesWith s (endNotices s ks why) } := by
  obtain ⟨hgone, htime, hissue, hrec, htrunk⟩ := h
  refine ⟨fun x hx => hgone x ?_, ?_, ?_, hrec.settled, trunkIs.settled (trunkIs_of_eq htrunk)⟩
  · simpa [nodeOf, lineOf] using hx
  · simpa [timeoutCancelled] using htime
  · simpa using hissue

section
variable {s w : State} {l : LineNo} {a : Addr} (status : Byte)

/-- The line and the records of an encoder's answer that withdraws nothing. -/
theorem statusKept_left (hl : w.lines = (answerHeard s l a).lines) (hj : w.journal = (answerHeard s l a).journal) :
    LineSet l (faultKept (lineAnswered (lineOf s l) a) a status) s (settle (statusKept w { line := l, addr := a } status)) ∧
      appendsAll s (settle (statusKept w { line := l, addr := a } status)) (backRecord s { line := l, addr := a }) :=
  ⟨(statusKept_line ((answerHeard_line s l a).of_lines hl) status).of_lines (by simp),
    (((answerHeard_records s l a).of_journal hj).of_journal (by simp)).settled⟩

theorem statusKept_same :
    unchangedBut [.lines, .journal] s (settle (statusKept (answerHeard s l a) { line := l, addr := a } status)) := by
  refine unchangedBut.settled ?_
  rw [unchangedBut_iff]
  simp

theorem endable_unique {n : Node} {k j : Fin 2} (hk : k ∈ endable s n) (hj : j ∈ endable s n) : k = j := by
  have h1 := (mem_endable.1 hk).1
  rw [(mem_endable.1 hj).1] at h1
  exact (Option.some.inj h1).symm

/-- An encoder's WRITTEN: the session decided DONE, its command and its timeout gone (R109, R115). -/
theorem writtenDone_left (k : Fin 2) :
    let n : Node := { line := l, addr := a }
    let t := settle (statusKept (writtenDone (answerHeard s l a) n k) n status)
    unchangedBut [.time, .lines, .issue, .journal] s t ∧ sessionCommandGone t n ∧ timeoutCancelled s t n ∧
      appendsAll s t (backRecord s n) ∧
      t.issue =
        { ctxs := put s.issue.ctxs k { ctxOf s k with outcome := some .done }, work := s.issue.work ++ [.closing k] } := by
  intro n t
  have hset := (answerHeard_line s l a).set (lineWithdrawn (lineAnswered (lineOf s l) a) a)
  have hdone : LineSet l (lineWithdrawn (lineAnswered (lineOf s l) a) a) s (writtenDone (answerHeard s l a) n k) := by
    refine hset.of_lines ?_
    rw [writtenDone_lines, linesWithdrawn, (answerHeard_line s l a).line]
    rfl
  have hline := (statusKept_line (a := a) hdone status).of_lines (u := t) (by simp [t, n])
  refine ⟨unchangedBut.settled ?_, fun x hx => ?_, ?_, ?_, ?_⟩
  · rw [unchangedBut_iff]
    simp
  · have hx : (look (lineWithdrawn (lineAnswered (lineOf s l) a) a).nodes a).command = some x := by
      rw [nodeOf, hline.line] at hx
      simpa [faultKept, n] using hx
    exact lineWithdrawn_gone _ a rfl x hx
  · simp [timeoutCancelled, t]
  · exact ((answerHeard_records s l a).of_journal (by simp)).settled
  · simp [t, ctxOf]

end

/-- A minibar's answer is one report item (R143). -/
theorem minibarAnswer_eq (v : State) (n : Node) {event : Nat} {content : List Byte} (status : Byte) (stamp : Capture)
    (hc : content.length = eventLength event) :
    handAnswer v n .minibar (plainEvent event content) status stamp =
      v.withMinibar
        (itemQueued n
          (if event = 4 then .item n (content.getD 0 0) (if content = [status] then none else some status)
          else .item n status none)
          v.minibar) := by
  have hne : NodeKind.minibar ≠ .encoder := nofun
  by_cases h4 : event = 4
  · subst h4
    obtain ⟨w, rfl⟩ := List.length_eq_one_iff.1 hc
    rw [if_pos rfl, ← mergeItem_eq]
    simp only [handAnswer, handEvent, handStatus, reportItem, plainEvent, List.getD_cons_zero, List.cons.injEq, and_true,
      eq_comm (a := status)]
  · rw [if_neg h4, ← mergeItem_eq]
    have hhand : handEvent v n .minibar (plainEvent event content) status stamp = v := by
      cases hev : plainEvent event content
      case present g => exact absurd hev (plainEvent_noPresent event content g)
      all_goals rfl
    have hset : ∀ x, plainEvent event content ≠ .compartments x := fun x => by
      unfold plainEvent
      split
      case h_3 => exact absurd rfl h4
      all_goals nofun
    rw [handAnswer, hhand, handStatus]
    unfold reportItem
    split
    · next x hx => exact absurd hx (hset x)
    · rfl

/-- Settles O20: the event and then the status are handed on by the kind of the node, each by the lemma on its kind. -/
theorem presentationIsQueued : Obligations.PresentationIsQueued := by
  refine ⟨?_, ?_⟩
  · intro s l a e st chars ans g hs hf hk hst hm hp ha hev n p back kind deciding fits told replaced broken ks why left shown
      reports hkind
    have hexec := exec_answerTaken hf hk hp ha ((takenEvent_decide hm).trans hev) (configured_of_kind hkind)
    rw [takeAnswer_handed hm, ha, hst] at hexec
    obtain ⟨t, ht⟩ : ∃ t, t = handAnswer (answerHeard s l a) n kind (.present g) ans.status st := ⟨_, rfl⟩
    have hexec : exec (.answerReceived l (.ends chars)) s = .next (settle t) := by rw [ht]; exact hexec
    have hleft := presentation_left (g := g) (stamp := st) ans.status hs (flightFate_window hf hk) hkind
    have hqueue : t.queue = (handPresent (answerHeard s l a) n g st).queue := ht ▸ presentation_queue ans.status hkind
    obtain ⟨hkept, hplaced⟩ := handPresent_queue s l a g st
    rw [← hqueue] at hkept hplaced
    dsimp only at hleft
    rw [← ht] at hleft
    obtain ⟨hsame, hline, hissue, hdoor, hminibar, hrec, htrunk⟩ := hleft
    have hset := hline.of_lines (u := settle t) (by simp)
    have htime : (settle t).queue = t.queue := by simp
    refine ⟨settle t, hexec, hsame.settled, hset.others, ?_, ?_, ?_, ?_, ?_, ?_, ?_, ?_⟩
    · rw [htime]
      exact hkept
    · rw [htime]
      exact hplaced
    · rw [hset.line]
      rfl
    · exact (show (settle t).issue = t.issue by simp).trans hissue
    · exact hdoor.over (by simp) (by simp) (by simp) (by simp)
    · simpa using hminibar
    · exact hrec.settled
    · exact trunkIs.settled (trunkIs_of_eq htrunk)
  · intro s l a e event status content hf hk he n x kind back received kept
    refine ⟨fun hm hkind => ?_, fun hm h1 hc => ?_⟩
    · have hlen : content.length ≤ 39 := hm.elim (fun h => h.2) fun h => h.2 ▸ eventLength_le event
      have hmode : (lineOf s l).mode = .transparent ∨ (lineOf s l).mode = .holding true := hm.imp And.left And.left
      have hparse := answerFrame_delivered (a := a) (status := status) he hlen
      obtain ⟨ev, hev⟩ : ∃ ev, takenEvent (lineOf s l).mode
          { addr := a, status := status, event := parseEvent (BitVec.ofNat 3 event) content
            chars := [BitVec.ofNat 8 (8 * a.val + event), BitVec.ofNat 8 (content.length + 1), status] ++ content } =
            some ev := by
        rcases hm with ⟨hm, -⟩ | ⟨hm, hc⟩
        · exact ⟨_, if_pos hm⟩
        · obtain ⟨ev, hev⟩ := parseEvent_some he hc
          exact ⟨ev, (if_neg (by rw [hm]; nofun)).trans hev⟩
      have hexec := exec_answerTaken hf hk hparse rfl hev (configured_of_kind hkind)
      rw [takeAnswer_passed hmode] at hexec
      obtain ⟨hsame, hline, hrec, htrunk⟩ := passUp_left s l a
        ([BitVec.ofNat 8 (8 * a.val + event), BitVec.ofNat 8 (content.length + 1), status] ++ content)
      exact ⟨_, ⟨hexec, hline.others⟩, hsame, hline.line, hrec, htrunk⟩
    · have hparse := answerFrame_delivered (a := a) (status := status) he (hc ▸ eventLength_le event)
      rw [parseEvent_plain he h1 hc] at hparse
      have taken : kind ≠ .unused →
          exec (.answerReceived l (.ends (answerFrame a event (status :: content)))) s =
            .next (settle (handAnswer (answerHeard s l a) n kind (plainEvent event content) status
              (e.stamp.getD (captureNow s)))) := fun hkind => by
        have hexec := exec_answerTaken hf hk hparse rfl (takenEvent_decide hm) (configured_of_kind hkind)
        rw [takeAnswer_handed hm] at hexec
        exact hexec
      refine ⟨fun hkind => ?_, fun hkind => ?_⟩
      · have hexec := taken (by rw [hkind]; nofun)
        rw [hkind, minibarAnswer_eq _ n status _ hc] at hexec
        obtain ⟨hsame, hline, hrec, hwork⟩ := minibarWork_left s l a
          (itemQueued n
            (if event = 4 then .item n (content.getD 0 0) (if content = [status] then none else some status)
            else .item n status none)
            (answerHeard s l a).minibar)
        refine ⟨_, ⟨hexec, hline.others⟩, hsame, hline.line, hrec, hwork.trans ?_⟩
        rw [(answerHeard_same s l a).2 .minibar (by decide)]
      · intro fault breaks ks doneNow failedNow blankNow
        have hexec := taken (by rw [hkind]; nofun)
        rw [hkind] at hexec
        obtain ⟨t, ht⟩ : ∃ t, t = handAnswer (answerHeard s l a) n .encoder (plainEvent event content) status
            (e.stamp.getD (captureNow s)) := ⟨_, rfl⟩
        rw [← ht] at hexec
        obtain ⟨hsame, ⟨c, hline, hheard⟩, hquiet, hblank, hwritten, hfailed, hbroken⟩ :=
          ht ▸ encoderAnswer_answered s l a status (e.stamp.getD (captureNow s)) hc
        have hlineT := hline.of_lines (u := settle t) (by simp)
        have hnode : nodeOf (settle t) n = look c.nodes a := by rw [nodeOf, hlineT.line]
        refine ⟨settle t, ⟨hexec, hlineT.others⟩, hsame.settled, ?_, ?_, ?_, ?_, ?_, ?_, ?_, ?_⟩
        · rw [hlineT.line]; exact hheard.idle
        · rw [hnode, hheard.faulty]
          simp only [faultKept, look_put_same, fault]
        · rw [hnode]; exact hheard.missed
        · rw [hnode]; exact hheard.silent
        · intro hq
          have hv := hquiet (hq.imp_right fun ⟨hb, h6, h7, h5⟩ => ⟨hb, h6, h7, h5⟩)
          rw [hv]
          obtain ⟨hline', hrec'⟩ := statusKept_left (w := answerHeard s l a) status rfl rfl
          exact ⟨statusKept_same status, hline'.line.trans (lineAnswered_kept _ _ _), hrec'⟩
        · rintro k hk ⟨h5, j, hj, hst, hbl⟩ hno
          obtain rfl : k = j := endable_unique hk hj
          rw [hblank k hk h5 hst hbl hno]
          obtain ⟨hline', hrec'⟩ := statusKept_left (s := s) (l := l) (a := a)
            (w := blankHeld (answerHeard s l a) k (BitVec.ofNat 32 (content.foldl (fun v b => v * 256 + b.toNat) 0))) status
            rfl rfl
          refine ⟨unchangedBut.settled ?_, hline'.line.trans (lineAnswered_kept _ _ _), hrec', ?_⟩
          · rw [unchangedBut_iff]
            simp [blankHeld]
          · simp [blankHeld, ctxOf]
        · rintro k hk ⟨h6, j, hj, hst⟩
          obtain rfl : k = j := endable_unique hk hj
          rw [hwritten k hk h6 hst]
          exact writtenDone_left status k
        · intro hs hcause why
          have hend : EncoderEnded s l a ks why t := by
            by_cases hfn : failedNow
            · obtain ⟨h7, k, hk, hb⟩ := hfn
              rw [show why = .writeFailed from if_pos ⟨h7, k, hk, hb⟩]
              exact hfailed hs k hk h7 hb
            · obtain ⟨hb, hne, hnd⟩ := hcause.resolve_left hfn
              obtain ⟨k, hk⟩ := List.exists_mem_of_ne_nil _ hne
              rw [show why = .encoderSilent from if_neg hfn]
              exact hbroken k hk hb (fun h => hnd ⟨h.1, k, hk, h.2⟩) fun h => hfn ⟨h.1, k, hk, h.2⟩
          exact hend.settled

end Sys2Proof.Machine
end

section
/-!
POST (10_table_store.md, R173, R177, R178): what one entry taken or refused leaves, the same for every table.
-/

namespace Sys2Proof.Machine

/-! ### The loader and the reply after an entry -/

section
variable {s u : State} {w : LoadWindow} {ld now : LoadInHand} {i : Nat} {e : List Byte} {es : List (List Byte)}

theorem exec_post (hr : s.working = true) (hp : s.port.inHand = none) (hb : s.loader.buffer.length < 2)
    (hw : s.loader.window = some w) (hl : s.loader.load = some ld) (he : ld.entries = e :: es) :
    exec .post s = .next (settle (postNext s w ld e es)) := by
  have hready : postReady s = true := by
    have hstop : s.stopping = false := by simp_all [State.working]
    simpa [postReady, hstop, hl, he, Config.postCap] using Nat.le_of_lt_succ hb
  have hserving : s.serving = true := by simp_all [State.working]
  simp [exec, execPost, hready, hserving, hp, hl, hw, he, done]

theorem cursorAfter_at (w : LoadWindow) (i : Nat) : cursorAfter w (.at i) = cursorPast w i := rfl

theorem settle_loader (s : State) : (settle s).loader = s.loader := by simp

theorem loadAfter_loader (u : State) (w : LoadWindow) (now : LoadInHand) (es : List (List Byte)) :
    (loadAfter u w { now with entries := es }).loader =
      { u.loader with cursor := cursorAfter w u.loader.cursor, load := loadLeft es now } := by
  cases es <;> simp [loadAfter, loadLeft]

/-- The counts of a LOAD are told once its last entry is over (R178). -/
theorem loadAfter_told (u : State) (w : LoadWindow) (now : LoadInHand) (es : List (List Byte)) :
    trunkIs (loadAfter u w { now with entries := es })
      (loadTold u.trunk es now (cursorAfter w u.loader.cursor)) := by
  have hans : ∀ c, loadReply { now with entries := [] } c = loadAnswer now c := fun c => loadReply_eq _ c
  cases es with
  | cons e es => exact trunkIs_of_eq (by simp [loadAfter, loadTold])
  | nil =>
    cases hr : u.trunk.inHand with
    | none => exact trunkIs_of_eq (by simp [loadAfter, loadTold, answerRequest, hr])
    | some r =>
      refine trunkIs_of_eq ?_
      simp only [loadAfter, List.isEmpty_nil, if_true, hans, loadTold, hr]
      rw [answerRequest_some _ r _ (by simpa using hr)]
      simp

theorem loadAfter_unchanged (u : State) (w : LoadWindow) (ld : LoadInHand) :
    unchangedBut [.loader, .trunk] u (loadAfter u w ld) := by
  rw [unchangedBut_iff]
  simp

theorem unchangedBut.mono {bs cs : List Block} {s t : State} (h : unchangedBut bs s t) (hsub : ∀ b ∈ bs, b ∈ cs) :
    unchangedBut cs s t := ⟨h.1, fun b hb => h.2 b fun hmem => hb (hsub b hmem)⟩

/-- An entry refused: the first refusal is kept, and nothing else changes but the cursor and the count (R177, R178). -/
theorem postRefused {at_ : Option Nat} {why : RefuseReason} (hr : s.working = true) (hp : s.port.inHand = none)
    (hb : s.loader.buffer.length < 2) (hw : s.loader.window = some w) (hl : s.loader.load = some ld)
    (he : ld.entries = e :: es) (hx : examine s w e = .error (at_, why)) :
    let now := { ld with refused := ld.refused + 1, firstRefusal := ld.firstRefusal.or (some (at_, why)) }
    ∃ t, exec .post s = .next t ∧ unchangedBut [.loader, .trunk] s t ∧
      t.loader = { s.loader with cursor := cursorAfter w s.loader.cursor, load := loadLeft es now } ∧
      trunkIs t (loadTold s.trunk es now (cursorAfter w s.loader.cursor)) := by
  intro now
  have hkeep : keepFirst ld.firstRefusal (at_, why) = ld.firstRefusal.or (some (at_, why)) := by
    cases ld.firstRefusal <;> rfl
  refine ⟨_, exec_post hr hp hb hw hl he, ?_, ?_, ?_⟩
  all_goals simp only [postNext, hx, hkeep]
  · exact (loadAfter_unchanged s w _).settled
  · exact (settle_loader _).trans (loadAfter_loader s w now es)
  · exact (loadAfter_told s w now es).settled

/-- An entry taken, by what posting it makes of the state (R173). -/
structure PostTaken (s : State) (w : LoadWindow) (i : Nat) (es : List (List Byte)) (now : LoadInHand) (p : PostEntry)
    (u t : State) : Prop where
  same : ∀ {bs : List Block}, Block.loader ∈ bs → Block.trunk ∈ bs → unchangedBut bs s u → unchangedBut bs s t
  loader : t.loader =
    { s.loader with buffer := s.loader.buffer ++ [p], cursor := cursorPast w i, load := loadLeft es now }
  told : ∀ {x : Trunk}, u.trunk = x → trunkIs t (loadTold x es now (cursorPast w i))
  records : ∀ {rs : List Record}, appendsAll s u rs → appendsAll s t rs
  kept : t.time = u.time ∧ t.lines = u.lines ∧ t.tracker = u.tracker ∧ t.issue = u.issue ∧ t.minibar = u.minibar ∧
    t.store = u.store

theorem postTaken {p : PostEntry} (h : examining s w ld i e es) (hx : examine s w e = .ok u)
    (hu : u.loader = { s.loader with buffer := s.loader.buffer ++ [p] }) :
    ∃ t, exec .post s = .next t ∧ PostTaken s w i es { ld with taken := ld.taken + 1 } p u t := by
  obtain ⟨hr, hp, hb, hw, hl, he, hc⟩ := h
  have hcu : u.loader.cursor = .at i := by rw [hu]; exact hc
  refine ⟨_, exec_post hr hp hb hw hl he, ?_, ?_, ?_, ?_, ?_⟩
  all_goals simp only [postNext, hx]
  · intro bs hlo htr hsame
    have hsub : ∀ b, b ∈ [Block.loader, Block.trunk] → b ∈ bs := by simp [hlo, htr]
    exact (hsame.step ((loadAfter_unchanged u w _).mono hsub)).settled
  · rw [settle_loader, loadAfter_loader u w { ld with taken := ld.taken + 1 } es, hcu, hu]
    rfl
  · intro x hx
    have htold := (loadAfter_told u w { ld with taken := ld.taken + 1 } es).settled
    rwa [hcu, hx] at htold
  · exact fun hrs => (hrs.of_journal (by simp)).settled
  · simp

/-! ### Reads through the post buffer (R174) -/

theorem newest_append {α : Type} (b : List PostEntry) (p : PostEntry) (sel : PostEntry → Option α) (stored : α) :
    newest (b ++ [p]) sel stored = (sel p).getD (newest b sel stored) := by
  unfold newest
  cases h : sel p <;> simp [h]

/-- The tables of a state are those of another: only the dynamic parts and the deny list may differ. -/
def tablesSame (s t : State) : Prop :=
  t.store.config = s.store.config ∧ t.store.doors = s.store.doors ∧ t.store.rooms = s.store.rooms ∧
    t.store.zones = s.store.zones ∧ t.store.profiles = s.store.profiles ∧ t.store.classes = s.store.classes ∧
    t.store.prices = s.store.prices

/-- Every read with an entry posted (R174). -/
theorem postRead_of_buffer {s t : State} {p : PostEntry} (hb : t.loader.buffer = s.loader.buffer ++ [p])
    (ht : tablesSame s t) : postRead s t p := by
  obtain ⟨hconfig, hdoors, hrooms, hzones, hprofiles, hclasses, hprices⟩ := ht
  refine ⟨?_, fun i => ?_, fun i => ?_, fun i => ?_, fun i => ?_, fun i => ?_, fun i => ?_⟩
  · simp only [configOf, hb, newest_append, hconfig]
    cases p <;> rfl
  · simp only [doorAt, hb, newest_append, hdoors]
    cases p <;> simp only [Option.getD_none]
    split <;> rfl
  · simp only [roomOf, hb, newest_append, hrooms]
    cases p <;> simp only [Option.getD_none]
    split <;> rfl
  · simp only [zoneOf, hb, newest_append, hzones]
    cases p <;> simp only [Option.getD_none]
    split <;> rfl
  · simp only [profileOf, hb, newest_append, hprofiles]
    cases p <;> simp only [Option.getD_none]
    split <;> rfl
  · simp only [classOf, hb, newest_append, hclasses]
    cases p <;> simp only [Option.getD_none]
    split <;> rfl
  · simp only [priceOf, hb, newest_append, hprices]
    cases p <;> simp only [Option.getD_none]
    split <;> rfl

end

/-! ### A DOOR entry's tracking restarted (R58, R96) -/

/-- What a privacy derivation reads of the tables and the deadbolts decides its write (R96). -/
theorem writesDerived_of_reads {t u : State} (hd : ∀ i, doorAt u i = doorAt t i) (hr : ∀ i, roomOf u i = roomOf t i)
    (hb : ∀ m, (trackOf u m).deadbolt = (trackOf t m).deadbolt) (room : Half) (n : Option Node) (ws : List PrivacyWrite) :
    writesDerived u room n ws = writesDerived t room n ws := by
  have hf : findRoom u room = findRoom t room := by simp only [findRoom, hr]
  simp only [writesDerived, hf, hd, hb]

theorem derivePrivacy_tracker (t : State) (room : Half) (n : Option Node) :
    (derivePrivacy t room n).tracker = { t.tracker with writes := writesDerived t room n t.tracker.writes } := by
  rw [writesDerived_eq]
  unfold derivePrivacy
  cases h : findRoom t room <;> simp

theorem derivePrivacy_trackOf (t : State) (room : Half) (n : Option Node) (m : Node) :
    trackOf (derivePrivacy t room n) m = trackOf t m := by
  simp [trackOf]

theorem rewriteTrack_tracker (s : State) (n : Node) {old new : DoorEntry} (h : isDoor old = true ∨ isDoor new = true) :
    (rewriteTrack s n old new).tracker =
      { (setTrack s n .initial).tracker with
        writes :=
          writesDerived (setTrack s n .initial) new.room (some n)
            (writesDerived (setTrack s n .initial) old.room (some n) s.tracker.writes) } := by
  have hif : (isDoor old || isDoor new) = true := by simpa using h
  unfold rewriteTrack
  rw [if_pos hif, derivePrivacy_tracker]
  have hreads : ∀ ws, writesDerived (derivePrivacy (setTrack s n .initial) old.room (some n)) new.room (some n) ws =
      writesDerived (setTrack s n .initial) new.room (some n) ws := fun ws =>
    writesDerived_congr (by simp) (by simp) (fun m => by rw [derivePrivacy_trackOf]) (some n) ws
  rw [hreads, derivePrivacy_tracker]
  simp [setTrack]

theorem rewriteTrack_other (s : State) (n : Node) {old new : DoorEntry} (h : isDoor old = false) (h' : isDoor new = false) :
    rewriteTrack s n old new = s := by
  simp [rewriteTrack, h, h']

theorem rewriteTrack_track (s : State) (n : Node) (old new : DoorEntry) (m : Node) (hm : m ≠ n) :
    trackOf (rewriteTrack s n old new) m = trackOf s m := by
  unfold rewriteTrack
  split
  · rw [derivePrivacy_trackOf, derivePrivacy_trackOf, trackOf_setTrack, if_neg hm]
  · rfl

/-- A DOOR entry posted, before the sessions and the minibar's work it ends (R58). -/
def doorRewritten (s : State) (i : Slot) (new : DoorEntry) : State :=
  rewriteTrack (rewriteNode (cancelNode (pushPost s (.door i new)) (nodeAt i)) (nodeAt i) (doorAt s i) new) (nodeAt i)
    (doorAt s i) new

theorem postDoor_eq (s : State) (i : Slot) (new : DoorEntry) :
    postDoor s i new =
      let u := doorRewritten s i new
      let v := if (doorAt s i).kind = .encoder then endNodeSession u (nodeAt i) .encoderUnreachable else u
      v.withMinibar (s.minibar ++ ((boundRoom s (nodeAt i)).toList.map fun j => .forced (.doorPost (roomOf s j).number))) := by
  have hm : ∀ v : State, v = (if (doorAt s i).kind = .encoder then
      endNodeSession (doorRewritten s i new) (nodeAt i) .encoderUnreachable else doorRewritten s i new) →
      v.minibar = s.minibar := fun v hv => by
    rw [hv]
    split <;> simp [doorRewritten]
  have hdef : postDoor s i new =
      match (boundRoom s (nodeAt i)).map fun j => (roomOf s j).number with
      | some room => addMinibarWork (if (doorAt s i).kind = .encoder then
          endNodeSession (doorRewritten s i new) (nodeAt i) .encoderUnreachable else doorRewritten s i new)
            (.forced (.doorPost room))
      | none => if (doorAt s i).kind = .encoder then
          endNodeSession (doorRewritten s i new) (nodeAt i) .encoderUnreachable else doorRewritten s i new := rfl
  rw [hdef]
  dsimp only
  generalize hv : (if (doorAt s i).kind = .encoder then
      endNodeSession (doorRewritten s i new) (nodeAt i) .encoderUnreachable else doorRewritten s i new) = v
  have hmv := hm v hv.symm
  cases boundRoom s (nodeAt i) with
  | none => simp only [Option.map_none, Option.toList_none, List.map_nil, List.append_nil, ← hmv]; rfl
  | some j => simp only [Option.map_some, addMinibarWork, hmv, Option.toList_some, List.map_cons, List.map_nil]

theorem doorRewritten_unchanged (s : State) (i : Slot) (new : DoorEntry) :
    unchangedBut [.time, .lines, .tracker, .loader] s (doorRewritten s i new) := by
  rw [unchangedBut_iff]
  simp [doorRewritten]

theorem doorRewritten_loader (s : State) (i : Slot) (new : DoorEntry) :
    (doorRewritten s i new).loader = { s.loader with buffer := s.loader.buffer ++ [.door i new] } := by
  simp [doorRewritten, pushPost]

theorem doorRewritten_time (s : State) (i : Slot) (new : DoorEntry) :
    (doorRewritten s i new).time = { s.time with deadlines := s.time.deadlines.filter fun d => d.node != nodeAt i } := by
  simp [doorRewritten, cancelNode, setDeadlines, bne, BEq.beq]

theorem doorRewritten_line (s : State) (i : Slot) (new : DoorEntry) :
    LineSet (nodeAt i).line (rewrittenLine (nodeAt i).addr (doorAt s i) new (lineOf s (nodeAt i).line)) s
      (doorRewritten s i new) := by
  have hbefore : ∀ l, lineOf (cancelNode (pushPost s (.door i new)) (nodeAt i)) l = lineOf s l := fun l => by simp [lineOf]
  have hafter : (doorRewritten s i new).lines =
      (setLine s (nodeAt i).line
        (rewrittenLine (nodeAt i).addr (doorAt s i) new (lineOf s (nodeAt i).line))).lines := by
    unfold doorRewritten
    rw [rewriteNode_eq, hbefore]
    simp [setLine]
  exact ((LineSet.same _ s).set _).of_lines hafter

theorem doorRewritten_track (s : State) (i : Slot) (new : DoorEntry) (m : Node) (hm : m ≠ nodeAt i) :
    trackOf (doorRewritten s i new) m = trackOf s m := by
  rw [doorRewritten, rewriteTrack_track _ _ _ _ _ hm]
  simp [trackOf]

/-- The tracking and the privacy writes of a node that was or becomes a door (R58, R96). -/
theorem doorRewritten_tracker (s : State) (i : Slot) {new : DoorEntry}
    (h : isDoor (doorAt s i) = true ∨ isDoor new = true) {t : State} (ht : t.tracker = (doorRewritten s i new).tracker)
    (hb : t.loader.buffer = s.loader.buffer ++ [.door i new]) (hs : t.store = s.store) :
    trackOf t (nodeAt i) = .initial ∧
      t.tracker.writes =
        writesDerived t new.room (some (nodeAt i))
          (writesDerived t (doorAt s i).room (some (nodeAt i)) s.tracker.writes) := by
  obtain ⟨u, hu⟩ : ∃ u, u = rewriteNode (cancelNode (pushPost s (.door i new)) (nodeAt i)) (nodeAt i) (doorAt s i) new :=
    ⟨_, rfl⟩
  have hut : u.tracker = s.tracker := by simp [hu]
  have htt : t.tracker = _ := (ht.trans (by rw [doorRewritten, ← hu])).trans (rewriteTrack_tracker u (nodeAt i) h)
  have hub : t.loader.buffer = u.loader.buffer := by simp [hb, hu, pushPost]
  have hus : t.store = u.store := by simp [hs, hu]
  have hdoors : t.tracker.doors = (setTrack u (nodeAt i) .initial).tracker.doors := by rw [htt]
  have hreads : ∀ room ws, writesDerived (setTrack u (nodeAt i) .initial) room (some (nodeAt i)) ws =
      writesDerived t room (some (nodeAt i)) ws := fun room ws =>
    writesDerived_of_reads (fun j => by simp [doorAt, hub, hus]) (fun j => by simp [roomOf, hub, hus])
      (fun m => by simp [trackOf, hdoors]) room _ ws
  refine ⟨?_, ?_⟩
  · rw [trackOf, hdoors]
    exact (trackOf_setTrack u (nodeAt i) (nodeAt i) .initial).trans (if_pos rfl)
  · rw [htt]
    simp only [hreads, hut]

theorem doorRewritten_plain (s : State) (i : Slot) {new : DoorEntry} (h : isDoor (doorAt s i) = false)
    (h' : isDoor new = false) : (doorRewritten s i new).tracker = s.tracker := by
  rw [doorRewritten, rewriteTrack_other _ _ h h']
  simp


/-! ### A DOOR entry posted (R58, R112) -/

/-- The sessions a DOOR post ends: the one open at a node that was an encoder (R112). -/
def doorSessions (s : State) (i : Slot) : List (Fin 2) :=
  if (doorAt s i).kind = .encoder then endable s (nodeAt i) else []

/-- The node of a DOOR post has no command left. -/
theorem doorRewritten_node (s : State) (i : Slot) (new : DoorEntry) :
    nodeOf (doorRewritten s i new) (nodeAt i) = rewrittenNode (doorAt s i) new (nodeOf s (nodeAt i)) := by
  rw [nodeOf, (doorRewritten_line s i new).line]
  simp [rewrittenLine, nodeOf]

theorem doorRewritten_quiet (s : State) (i : Slot) (new : DoorEntry) :
    (doorRewritten s i new).journal = s.journal ∧ (doorRewritten s i new).trunk = s.trunk := by
  simp [doorRewritten]

theorem doorRewritten_ended (s : State) (i : Slot) (new : DoorEntry) :
    EndedAt (doorRewritten s i new) (nodeAt i) (doorSessions s i) .encoderUnreachable
      (if (doorAt s i).kind = .encoder then endNodeSession (doorRewritten s i new) (nodeAt i) .encoderUnreachable
        else doorRewritten s i new) := by
  have hi : (doorRewritten s i new).issue = s.issue := (doorRewritten_unchanged s i new).2 .issue (by decide)
  unfold doorSessions
  split
  · rw [← endable_congr hi]
    exact endNodeSession_ended _ _ nofun
  · exact .nil _ _ _

/-- The end of sessions in the terms of a state before, with the same sessions, clock, journal and trunk. -/
theorem EndedAt.over {s u v : State} {n : Node} {ks : List (Fin 2)} {why : FailReason} (h : EndedAt u n ks why v)
    (hi : u.issue = s.issue) (hc : u.time.clock = s.time.clock) (hj : u.journal = s.journal) (ht : u.trunk = s.trunk) :
    v.issue = sessionsEnded s ks why ∧ appendsAll s v (endRecords s ks why) ∧
      v.trunk = { s.trunk with notices := noticesWith s (endNotices s ks why) } := by
  obtain ⟨-, -, ⟨hissue, -⟩, hrecords, htrunk⟩ := h
  obtain ⟨hends, hrec, hnot⟩ := endings_congr hi hc ks why
  refine ⟨hissue.trans hends, ?_, ?_⟩
  · rw [← hrec]
    exact hrecords (rs := []) (appendsAll_nil hj) (by rw [ht])
  · rw [htrunk, hnot, ht]
    simp only [noticesWith, hc, ht]

/-- What a DOOR entry posted leaves. -/
structure DoorPosted (s : State) (i : Slot) (new : DoorEntry) (u : State) : Prop where
  same : unchangedBut [.time, .lines, .tracker, .issue, .minibar, .loader, .journal, .trunk] s u
  loader : u.loader = { s.loader with buffer := s.loader.buffer ++ [.door i new] }
  time : u.time = { s.time with deadlines := s.time.deadlines.filter fun d => d.node != nodeAt i }
  lines : u.lines = (doorRewritten s i new).lines
  tracker : u.tracker = (doorRewritten s i new).tracker
  minibar : u.minibar =
    s.minibar ++ ((boundRoom s (nodeAt i)).toList.map fun j => .forced (.doorPost (roomOf s j).number))
  issue : u.issue = sessionsEnded s (doorSessions s i) .encoderUnreachable
  records : appendsAll s u (endRecords s (doorSessions s i) .encoderUnreachable)
  trunk : u.trunk =
    { s.trunk with notices := noticesWith s (endNotices s (doorSessions s i) .encoderUnreachable) }

theorem postDoor_posted (s : State) (i : Slot) (new : DoorEntry) : DoorPosted s i new (postDoor s i new) := by
  have hsame := doorRewritten_unchanged s i new
  have hloader := doorRewritten_loader s i new
  have htime := doorRewritten_time s i new
  have hnode := doorRewritten_node s i new
  have hended := doorRewritten_ended s i new
  have heq := postDoor_eq s i new
  dsimp only at heq
  rw [heq]
  have hui : (doorRewritten s i new).issue = s.issue := hsame.2 .issue (by decide)
  have hover := hended.over hui (by rw [htime]) (doorRewritten_quiet s i new).1 (doorRewritten_quiet s i new).2
  generalize (if (doorAt s i).kind = .encoder then
    endNodeSession (doorRewritten s i new) (nodeAt i) .encoderUnreachable else doorRewritten s i new) = v at hended hover ⊢
  obtain ⟨hvsame, hvlines, ⟨-, hvtime⟩, -, -⟩ := hended
  have hlines : v.lines = (doorRewritten s i new).lines := by
    rw [hvlines, linesWithdrawn_other, ite_self]
    simp [hnode, rewrittenNode]
  have hvtracker : v.tracker = (doorRewritten s i new).tracker := hvsame.2 .tracker (by decide)
  have hvloader : v.loader = (doorRewritten s i new).loader := hvsame.2 .loader (by decide)
  obtain ⟨hvissue, hvrecords, hvtrunk⟩ := hover
  refine ⟨?_, hvloader.trans hloader, ?_, hlines, hvtracker, rfl, hvissue, hvrecords.of_journal rfl, hvtrunk⟩
  · have hboth : unchangedBut [.time, .lines, .tracker, .issue, .minibar, .loader, .journal, .trunk] s v :=
      (hsame.mono (by decide)).step (hvsame.mono (by decide))
    rw [unchangedBut_iff] at hboth ⊢
    simpa using hboth
  · simp only [State.withMinibar_time, hvtime, htime, List.filter_filter]
    split
    · rfl
    · congr 1
      refine List.filter_congr fun d _ => ?_
      cases h : d.node == nodeAt i <;> simp [bne, h]


/-! ### The bytes of a DOOR entry (R57) -/

theorem half_eq (a b : Byte) : half a b = BitVec.ofNat 16 (a.toNat * 256 + b.toNat) := by
  apply BitVec.eq_of_toNat_eq
  have ha := a.isLt
  have hb := b.isLt
  simp only [half, BitVec.toNat_append, BitVec.toNat_ofNat]
  rw [← Nat.shiftLeft_add_eq_or_of_lt hb, Nat.shiftLeft_eq]
  omega

/-- The zone and class bytes of a DOOR entry name a zone and a class (R57). -/
abbrev doorFits (e : List Byte) : Prop := (e.getD 3 0).toNat < 16 ∧ (e.getD 4 0).toNat < 8

/-- The entry a kind, a room and the zone and class bytes give, when they fit. -/
def doorPlaced (e : List Byte) (kind : NodeKind) (room : Half) : Option DoorEntry :=
  if doorFits e then
    some { kind := kind, room := room, zone := Fin.ofNat 16 (e.getD 3 0).toNat, cls := Fin.ofNat 8 (e.getD 4 0).toNat }
  else none

theorem doorPlaced_eq (k r0 r1 z c : Byte) (kind : NodeKind) (room : Half) :
    doorPlaced [k, r0, r1, z, c] kind room =
      if hz : z.toNat < 16 then
        if hc : c.toNat < 8 then some { kind := kind, room := room, zone := ⟨z.toNat, hz⟩, cls := ⟨c.toNat, hc⟩ }
        else none
      else none := by
  by_cases hz : z.toNat < 16
  · by_cases hc : c.toNat < 8
    · simp [doorPlaced, hz, hc, Fin.ofNat, Nat.mod_eq_of_lt hz, Nat.mod_eq_of_lt hc]
    · simp [doorPlaced, hz, hc]
  · simp [doorPlaced, hz]

section
variable {e : List Byte}

/-- A DOOR entry by its kind byte (R57). -/
theorem parseDoor_eq (hl : e.length = 5) :
    let room := BitVec.ofNat 16 (twoAt e 1)
    parseDoor e =
      match (e.getD 0 0).toNat with
      | 0 => some .cleared
      | 1 => if room = 0 then none else doorPlaced e .roomDoor room
      | 2 => doorPlaced e .commonGate 0
      | 3 => if room = 0 then none else doorPlaced e .minibar room
      | 4 => some { DoorEntry.cleared with kind := .encoder }
      | _ => none := by
  obtain ⟨k, r0, r1, z, c, rfl⟩ : ∃ k r0 r1 z c, e = [k, r0, r1, z, c] := by
    match e, hl with
    | [k, r0, r1, z, c], _ => exact ⟨k, r0, r1, z, c, rfl⟩
  have hroom : half r0 r1 = BitVec.ofNat 16 (twoAt [k, r0, r1, z, c] 1) := half_eq r0 r1
  dsimp only [parseDoor]
  simp only [hroom, doorPlaced_eq]
  rfl

/-- What refuses a DOOR entry: a kind code above 4, or a field its kind uses out of range (R57). -/
theorem parseDoor_unfit (hl : e.length = 5)
    (h : 4 < (e.getD 0 0).toNat ∨
      ((e.getD 0 0 = 1 ∨ e.getD 0 0 = 3) ∧ (BitVec.ofNat 16 (twoAt e 1) = 0 ∨ ¬ doorFits e)) ∨
      (e.getD 0 0 = 2 ∧ ¬ doorFits e)) : parseDoor e = none := by
  have hplaced : ∀ kind r, ¬ doorFits e → doorPlaced e kind r = none := fun kind r hf => if_neg hf
  have hroomless : ∀ kind, BitVec.ofNat 16 (twoAt e 1) = 0 ∨ ¬ doorFits e →
      (if BitVec.ofNat 16 (twoAt e 1) = 0 then none else doorPlaced e kind (BitVec.ofNat 16 (twoAt e 1))) = none :=
    fun kind h => by
      by_cases hroom : BitVec.ofNat 16 (twoAt e 1) = 0
      · exact if_pos hroom
      · exact (if_neg hroom).trans (hplaced _ _ (h.resolve_left hroom))
  have hparse := parseDoor_eq hl
  rcases h with h | ⟨h | h, hno⟩ | ⟨h, hno⟩
  · obtain ⟨k, hk⟩ : ∃ k, (e.getD 0 0).toNat = k + 5 := ⟨_, (Nat.sub_add_cancel h).symm⟩
    rw [hparse, hk]
    rfl
  · rw [hparse, h]; exact hroomless _ hno
  · rw [hparse, h]; exact hroomless _ hno
  · rw [hparse, h]; exact hplaced _ _ hno

end

/-! ### POST of a DOOR entry (R34, R40, R53, R58) -/

section
variable {s t u : State} {w : LoadWindow} {ld now : LoadInHand} {i : Slot} {e : List Byte} {es : List (List Byte)}
variable {new : DoorEntry}

theorem examine_at (hc : s.loader.cursor = .at i.val) {v : State} (h : postAt s w.table i.val e = .ok v) :
    examine s w e = .ok v := by
  simp [examine, hc, h]

theorem examine_refused (hc : s.loader.cursor = .at i.val) {why : RefuseReason}
    (h : postAt s w.table i.val e = .error why) : examine s w e = .error (some i.val, why) := by
  simp [examine, hc, h]

theorem postAt_door (ht : w.table = .door) (hp : parseDoor e = some new) :
    postAt s w.table i.val e = .ok (postDoor s i new) := by
  simp [postAt, ht, postParsed, hp, i.isLt]

theorem doorPost_taken (hx : examining s w ld i.val e es) (ht : w.table = .door) (hp : parseDoor e = some new) :
    ∃ t, exec .post s = .next t ∧
      PostTaken s w i.val es { ld with taken := ld.taken + 1 } (.door i new) (postDoor s i new) t := by
  have hc : s.loader.cursor = .at i.val := hx.2.2.2.2.2.2
  exact postTaken hx (examine_at hc (postAt_door ht hp)) (postDoor_posted s i new).loader

theorem postRefused_at (hx : examining s w ld i.val e es) {why : RefuseReason}
    (h : postAt s w.table i.val e = .error why) :
    let now := { ld with refused := ld.refused + 1, firstRefusal := ld.firstRefusal.or (some (some i.val, why)) }
    ∃ t, exec .post s = .next t ∧ unchangedBut [.loader, .trunk] s t ∧
      t.loader = { s.loader with cursor := cursorPast w i.val, load := loadLeft es now } ∧
      trunkIs t (loadTold s.trunk es now (cursorPast w i.val)) := by
  obtain ⟨hr, hpo, hb, hw, hl, he, hc⟩ := hx
  have := postRefused hr hpo hb hw hl he (examine_refused hc h)
  rwa [hc] at this

theorem rewrittenLine_eq (a : Addr) (old new : DoorEntry) (c : LineCtl) :
    rewrittenLine a old new c =
      { c with
        fifo := c.fifo.filter fun b => b != a
        nodes := put c.nodes a (look (rewrittenLine a old new c).nodes a)
        exchange :=
          c.exchange.map fun x =>
            let y := flightMarked a .rewritten x
            { y with stale := if x.stale.any fun z => z.1 == a then x.stale else x.stale ++ [(a, old)] } } := by
  have hx : (fun x => noteStale a old (flightMarked a .rewritten x)) = fun x =>
      let y := flightMarked a .rewritten x
      { y with stale := if x.stale.any fun z => z.1 == a then x.stale else x.stale ++ [(a, old)] } := by
    funext x
    rw [noteStale_eq, flightMarked_stale]
    split <;> simp
  have hn : look (rewrittenLine a old new c).nodes a = rewrittenNode old new (look c.nodes a) := by simp [rewrittenLine]
  rw [hn, ← hx]
  rfl

/-- What a DOOR post leaves of the lines, and of the tracking of the other nodes (R34, R40, R53). -/
theorem DoorPosted.lines_left (hl : t.lines = (doorRewritten s i new).lines) :
    let n := nodeAt i
    nodeOf t n =
        { silent := false, missed := 0, command := none, attempts := 0, duty := false, faulty := none
          inSweep := configured new && ((nodeOf s n).inSweep || !configured (doorAt s i)) } ∧
      n.addr ∉ (lineOf t n.line).fifo ∧ linesBut n.line s t ∧
      lineOf t n.line =
        { lineOf s n.line with
          fifo := (lineOf s n.line).fifo.filter fun a => a != n.addr
          nodes := put (lineOf s n.line).nodes n.addr (nodeOf t n)
          exchange :=
            (lineOf s n.line).exchange.map fun x =>
              let y := flightMarked n.addr .rewritten x
              { y with
                stale := if x.stale.any fun z => z.1 == n.addr then x.stale else x.stale ++ [(n.addr, doorAt s i)] } } ∧
      ∀ m, m ≠ n → nodeOf t m = nodeOf s m := by
  intro n
  have hset : LineSet n.line (rewrittenLine n.addr (doorAt s i) new (lineOf s n.line)) s t :=
    (doorRewritten_line s i new).of_lines hl
  have hnode : nodeOf t n = look (rewrittenLine n.addr (doorAt s i) new (lineOf s n.line)).nodes n.addr := by
    rw [nodeOf, hset.line]
  refine ⟨?_, ?_, hset.others, ?_, fun m hm => ?_⟩
  · rw [hnode]
    simp [rewrittenLine, rewrittenNode, sweepAfter, nodeOf]
  · rw [hset.line]
    simp [rewrittenLine]
  · rw [hnode, hset.line]
    exact rewrittenLine_eq _ _ _ _
  · by_cases hml : m.line = n.line
    · have hma : n.addr ≠ m.addr := fun h => hm (by cases m; cases hn : n; simp_all)
      rw [nodeOf, nodeOf, hml, hset.line]
      simp [rewrittenLine, look_put_ne _ hma]
    · rw [nodeOf, nodeOf, hset.others _ hml]

theorem tablesSame_of_store (h : t.store = s.store) : tablesSame s t := by
  simp [tablesSame, h]

end


/-! ### The bytes of a ROOM entry (R61, R67, R211) -/

theorem priceIndex_eq (b : Byte) : priceIndex b = if b.toNat < 64 then some (Fin.ofNat 64 b.toNat) else none := by
  unfold priceIndex
  split
  · next h => simp [Fin.ofNat, Nat.mod_eq_of_lt h]
  · rfl

/-- The eight price indexes that bytes give. -/
def pricesOf (ps : List Byte) : Vector (Fin 64) 8 := Vector.ofFn fun k : Fin 8 => Fin.ofNat 64 (ps.getD k.val 0).toNat

theorem priceIndexes_bad {p0 p1 p2 p3 p4 p5 p6 p7 : Byte} {rest : List Byte}
    (h : ∃ k : Fin 8, 64 ≤ ((p0 :: p1 :: p2 :: p3 :: p4 :: p5 :: p6 :: p7 :: rest).getD k.val 0).toNat) :
    priceIndexes p0 p1 p2 p3 p4 p5 p6 p7 = none := by
  obtain ⟨k, hk⟩ := h
  unfold priceIndexes
  have hnone : priceIndex ((p0 :: p1 :: p2 :: p3 :: p4 :: p5 :: p6 :: p7 :: rest).getD k.val 0) = none := by
    rw [priceIndex_eq, if_neg (Nat.not_lt.2 hk)]
  fin_cases k <;> simp at hnone <;> simp [hnone]

theorem priceIndexes_good {p0 p1 p2 p3 p4 p5 p6 p7 : Byte} {rest : List Byte}
    (h : ¬ ∃ k : Fin 8, 64 ≤ ((p0 :: p1 :: p2 :: p3 :: p4 :: p5 :: p6 :: p7 :: rest).getD k.val 0).toNat) :
    priceIndexes p0 p1 p2 p3 p4 p5 p6 p7 =
      some (pricesOf (p0 :: p1 :: p2 :: p3 :: p4 :: p5 :: p6 :: p7 :: rest)) := by
  have hp : ∀ k : Fin 8, priceIndex ((p0 :: p1 :: p2 :: p3 :: p4 :: p5 :: p6 :: p7 :: rest).getD k.val 0) =
      some (Fin.ofNat 64 ((p0 :: p1 :: p2 :: p3 :: p4 :: p5 :: p6 :: p7 :: rest).getD k.val 0).toNat) := fun k => by
    rw [priceIndex_eq, if_pos (Nat.not_le.1 fun hk => h ⟨k, hk⟩)]
  have h0 := hp 0
  have h1 := hp 1
  have h2 := hp 2
  have h3 := hp 3
  have h4 := hp 4
  have h5 := hp 5
  have h6 := hp 6
  have h7 := hp 7
  simp at h0 h1 h2 h3 h4 h5 h6 h7
  simp only [priceIndexes, h0, h1, h2, h3, h4, h5, h6, h7]
  rfl

/-- The bytes of a ROOM entry that name no price, or no occupancy to restore (R61, R67). -/
def roomUnfit (e : List Byte) : Prop :=
  (∃ k : Fin 8, 64 ≤ (e.getD (5 + k.val) 0).toNat) ∨ (e.getD 13 0 = 1 ∧ 1 < (e.getD 14 0).toNat)

/-- The node a ROOM entry carries (R211). -/
def carriedAt (e : List Byte) : Option Node :=
  if (e.getD 2 0).toNat < 128 then some (nodeNumbered (e.getD 2 0)) else none

theorem bytes_of_length {e : List Byte} (hl : e.length = 19) :
    ∃ n0 n1 m l0 l1 p0 p1 p2 p3 p4 p5 p6 p7 f occ acc iss t0 t1,
      e = [n0, n1, m, l0, l1, p0, p1, p2, p3, p4, p5, p6, p7, f, occ, acc, iss, t0, t1] := by
  match e, hl with
  | [n0, n1, m, l0, l1, p0, p1, p2, p3, p4, p5, p6, p7, f, occ, acc, iss, t0, t1], _ =>
    exact ⟨n0, n1, m, l0, l1, p0, p1, p2, p3, p4, p5, p6, p7, f, occ, acc, iss, t0, t1, rfl⟩

section
variable {e : List Byte}

theorem roomNames_eq (hl : e.length = 19) : roomNames e = some (BitVec.ofNat 16 (twoAt e 0), carriedAt e) := by
  obtain ⟨n0, n1, m, l0, l1, p0, p1, p2, p3, p4, p5, p6, p7, f, occ, acc, iss, t0, t1, rfl⟩ := bytes_of_length hl
  simp only [roomNames, half_eq, nodeByte_eq]
  rfl

/-- A byte above 1 is neither 0 nor 1. -/
theorem flag_iff (b : Byte) : (decide (b = 0) || decide (b = 1)) = true ↔ ¬ 1 < b.toNat := by
  simp only [Bool.or_eq_true, decide_eq_true_eq]
  constructor
  · rintro (rfl | rfl) <;> decide
  · intro h
    have : b.toNat = 0 ∨ b.toNat = 1 := by omega
    exact this.imp (fun h => BitVec.eq_of_toNat_eq h) (fun h => BitVec.eq_of_toNat_eq h)

theorem getD_five (a b c d f : Byte) (rest : List Byte) (k : Nat) :
    (a :: b :: c :: d :: f :: rest).getD (5 + k) 0 = rest.getD k 0 := by
  rw [Nat.add_comm]
  rfl

theorem twoAt_lt (e : List Byte) (k : Nat) : twoAt e k < 65536 := by
  unfold twoAt
  have h := (e.getD k 0).isLt
  have h' := (e.getD (k + 1) 0).isLt
  omega

/-- Only the number 0 is carried as 0. -/
theorem numberAt_zero (e : List Byte) (k : Nat) : BitVec.ofNat 16 (twoAt e k) = 0 ↔ twoAt e k = 0 := by
  have h := twoAt_lt e k
  rw [← BitVec.toNat_inj, BitVec.toNat_ofNat, Nat.mod_eq_of_lt h]
  rfl

theorem parseRoom_unfit (hl : e.length = 19) (h : roomUnfit e) : parseRoom e = none := by
  obtain ⟨n0, n1, m, l0, l1, p0, p1, p2, p3, p4, p5, p6, p7, f, occ, acc, iss, t0, t1, rfl⟩ := bytes_of_length hl
  rw [parseRoom]
  rcases h with ⟨k, hk⟩ | ⟨hf, hocc⟩
  · rw [getD_five] at hk
    rw [priceIndexes_bad ⟨k, hk⟩]
  · cases priceIndexes p0 p1 p2 p3 p4 p5 p6 p7 with
    | none => rfl
    | some prices =>
      have hflag : ¬ (decide (occ = 0) || decide (occ = 1)) = true := fun h => (flag_iff occ).1 h hocc
      exact (if_pos hf).trans (if_neg hflag)

theorem parseRoom_fit (hl : e.length = 19) (h : ¬ roomUnfit e) :
    ∃ st, parseRoom e = some (st, restoreAt e) ∧ roomStaticOf st.number st.minibarNode st.limit st.prices = staticAt e := by
  obtain ⟨hprice, hflag⟩ := not_or.1 h
  obtain ⟨n0, n1, m, l0, l1, p0, p1, p2, p3, p4, p5, p6, p7, f, occ, acc, iss, t0, t1, rfl⟩ := bytes_of_length hl
  simp only [getD_five] at hprice
  refine ⟨{ number := half n0 n1, minibarNode := nodeByte? m, limit := half l0 l1,
            prices := pricesOf [p0, p1, p2, p3, p4, p5, p6, p7, f, occ, acc, iss, t0, t1] }, ?_, ?_⟩
  · rw [parseRoom, priceIndexes_good hprice]
    dsimp only
    by_cases hf : f = 1
    · have hocc : (decide (occ = 0) || decide (occ = 1)) = true := (flag_iff occ).2 fun h => hflag ⟨hf, h⟩
      rw [if_pos hf, if_pos hocc, half_eq t0 t1]
      exact congrArg (fun r => some (_, r)) (if_pos hf).symm
    · rw [if_neg hf]
      exact congrArg (fun r => some (_, r)) (if_neg hf).symm
  · have hnumber : half n0 n1 = BitVec.ofNat 16 (twoAt [n0, n1, m, l0, l1, p0, p1, p2, p3, p4, p5, p6, p7, f, occ, acc, iss,
        t0, t1] 0) := half_eq n0 n1
    dsimp only
    unfold roomStaticOf staticAt
    simp only [hnumber, numberAt_zero, getD_five]
    by_cases hz : twoAt [n0, n1, m, l0, l1, p0, p1, p2, p3, p4, p5, p6, p7, f, occ, acc, iss, t0, t1] 0 = 0
    · rw [if_pos hz, if_pos hz]
      rfl
    · rw [if_neg hz, if_neg hz, nodeByte_eq, half_eq l0 l1]
      rfl

end


/-! ### The refusals of a ROOM entry (R61, R65, R178) -/

section
variable {s : State} {i : Slot} {e : List Byte}

/-- The entry keeps the room of its slot (R65). -/
def keepsRoom (s : State) (i : Slot) (e : List Byte) : Prop :=
  BitVec.ofNat 16 (twoAt e 0) ≠ 0 ∧ BitVec.ofNat 16 (twoAt e 0) = (roomOf s i).number

theorem removesOwed_iff :
    removesOwed s i (BitVec.ofNat 16 (twoAt e 0)) (carriedAt e) = true ↔
      keepsRoom s i e ∧ (roomOf s i).minibarNode ≠ none ∧ carriedAt e = none ∧
        ((partOf s i).map fun m => decide (m.tally ≠ 0 ∨ m.charges ≠ [])) = some true := by
  have hnode : (roomOf s i).minibarNode.isSome = true ↔ (roomOf s i).minibarNode ≠ none := Option.isSome_iff_ne_none
  have howed : ((partOf s i).any fun m => decide (m.tally ≠ 0) || !m.charges.isEmpty) = true ↔
      ((partOf s i).map fun m => decide (m.tally ≠ 0 ∨ m.charges ≠ [])) = some true := by
    cases partOf s i <;> simp
  simp only [removesOwed, keepsRoom, Bool.and_eq_true, decide_eq_true_eq, hnode, howed, Option.isNone_iff_eq_none, and_assoc]

theorem duplicateRoom_carried :
    duplicateRoom s i (BitVec.ofNat 16 (twoAt e 0)) (carriedAt e) = true ↔
      ∃ j : Slot, j ≠ i ∧
        ((BitVec.ofNat 16 (twoAt e 0) ≠ 0 ∧ (roomOf s j).number = BitVec.ofNat 16 (twoAt e 0)) ∨
          (carriedAt e ≠ none ∧ (roomOf s j).minibarNode = carriedAt e)) := by
  simp only [duplicateRoom_iff, Option.isSome_iff_ne_none]

end

/-! ### The dynamic part under a rewrite (R63 to R67) -/

/-- From `s` to `t` the room record's dynamic part becomes `d`, and the rest of the store stands. -/
def DynSet (i : Slot) (d : RoomDyn) (s t : State) : Prop := t.store = { s.store with dyns := put s.store.dyns i d }

section
variable {s t : State} {i : Slot} {d : RoomDyn}

theorem DynSet.refl (s : State) (i : Slot) : DynSet i (dynOf s i) s s := by
  simp [DynSet, dynOf, put_look]

theorem DynSet.dyn (h : DynSet i d s t) : dynOf t i = d := by
  rw [dynOf, h]
  simp

theorem DynSet.of_store {u : State} (h : DynSet i d s t) (hu : u.store = t.store) : DynSet i d s u := hu.trans h

theorem DynSet.setDyn (h : DynSet i d s t) (x : RoomDyn) : DynSet i x s (setDyn t i x) := by
  unfold DynSet Machine.setDyn at *
  simp [h, put_put]

theorem DynSet.setPart (h : DynSet i d s t) (m : Option MinibarPart) :
    DynSet i { d with minibar := m } s (setPart t i m) := by
  rw [← h.dyn]
  exact h.setDyn _

theorem recomputed_eq (occupied : Bool) (limit tally : Half) :
    recomputed occupied limit tally = restState occupied limit.toNat tally.toNat := by
  unfold recomputed restState
  cases occupied <;> simp [← BitVec.toNat_inj]

theorem recompute_new (s : State) (i : Slot) (tally : Half) :
    newPart s i tally = createdPart (dynOf s i).occupied (roomOf s i).limit tally := by
  simp only [newPart, createdPart, recompute, recomputed_eq]

theorem recomputeKeeping_eq (s : State) (i : Slot) (m : MinibarPart) :
    recomputeKeeping s i m = recomputedKept (dynOf s i).occupied (roomOf s i).limit m := by
  unfold recomputeKeeping recomputedKept recompute keptState
  rw [recomputed_eq]
  by_cases h : m.state = .openGuest ∨ m.state = .restock
  · simp [h]
  · simp [h]

theorem restored_eq (d : RoomDyn) (p : RestorePart) : restored d p = restoredTo d p := by
  unfold restored restoredTo restoredAccepted
  cases p.occupied
  · rfl
  · have hspan : ∀ x : Gen, x = 0 ↔ x.toNat = 0 := fun x => by rw [← BitVec.toNat_inj]; rfl
    simp only [hspan]
    rfl

/-- The recomputed part where there is one (R65). -/
theorem DynSet.recomputed (h : DynSet i d s t) :
    DynSet i { d with minibar := d.minibar.map (recomputedKept d.occupied (roomOf t i).limit) } s
      (match partOf t i with
        | none => t
        | some m => Machine.setPart t i (some (recomputeKeeping t i m))) := by
  have hpart : partOf t i = d.minibar := by rw [partOf, h.dyn]
  cases hm : d.minibar with
  | none =>
    rw [hpart, hm]
    exact (show ({ d with minibar := none } : RoomDyn) = d by rw [← hm]) ▸ h
  | some m =>
    rw [hpart, hm]
    dsimp only
    rw [recomputeKeeping_eq, h.dyn]
    exact h.setPart _

end


/-! ### A ROOM entry posted, before the session it ends (R64 to R67) -/

/-- What a ROOM entry posted leaves of the tables, the deadlines and the Minibar Engine's work. -/
structure RoomPosted (s : State) (i : Slot) (new : RoomStatic) (d : RoomDyn) (given : Option Node) (work : List MinibarWork)
    (u : State) : Prop where
  same : unchangedBut [.time, .minibar, .store, .loader] s u
  loader : u.loader = { s.loader with buffer := s.loader.buffer ++ [.room i new] }
  dyn : DynSet i d s u
  time : u.time = { s.time with deadlines := s.time.deadlines.filter fun x => decide (given ≠ some x.node) }
  minibar : u.minibar = s.minibar ++ work
  quiet : u.journal = s.journal ∧ u.trunk = s.trunk

section
variable {s u : State} {i : Slot} {new : RoomStatic} {d : RoomDyn} {given : Option Node} {work : List MinibarWork}

theorem RoomPosted.room (h : RoomPosted s i new d given work u) : roomOf u i = new := by
  simp [roomOf, h.loader, newest_append]

/-- The entry alone, in the post buffer. -/
theorem pushPost_posted (s : State) (i : Slot) (new : RoomStatic) :
    RoomPosted s i new (dynOf s i) none [] (pushPost s (.room i new)) where
  same := by rw [unchangedBut_iff]; simp
  loader := by simp [pushPost]
  dyn := (DynSet.refl s i).of_store (by simp)
  time := by simp
  minibar := by simp
  quiet := by simp

/-- The dynamic part written after. -/
theorem RoomPosted.withDyn (h : RoomPosted s i new d given work u) {x : RoomDyn} {v : State} (hx : DynSet i x s v)
    (hv : v = u.withStore v.store) : RoomPosted s i new x given work v := by
  obtain ⟨hsame, hloader, -, htime, hminibar, hquiet⟩ := h
  rw [unchangedBut_iff] at hsame
  refine ⟨?_, ?_, hx, ?_, ?_, ?_⟩
  · rw [unchangedBut_iff, hv]
    simpa using hsame
  all_goals rw [hv]
  · exact hloader
  · exact htime
  · exact hminibar
  · exact hquiet

/-- The deadlines of the node given up (R66). -/
theorem RoomPosted.cancelled (h : RoomPosted s i new d none work u) (a : Node) :
    RoomPosted s i new d (some a) work (cancelNode u a) := by
  obtain ⟨hsame, hloader, hdyn, htime, hminibar, hquiet⟩ := h
  rw [unchangedBut_iff] at hsame
  refine ⟨?_, ?_, hdyn.of_store (by simp), ?_, ?_, ?_⟩
  · rw [unchangedBut_iff]
    simpa using hsame
  · simpa using hloader
  · simp [cancelNode, setDeadlines, htime, eq_comm]
  · simpa using hminibar
  · simpa using hquiet

/-- Work for the Minibar Engine (R65). -/
theorem RoomPosted.worked (h : RoomPosted s i new d given [] u) (x : MinibarWork) :
    RoomPosted s i new d given [x] (addMinibarWork u x) := by
  obtain ⟨hsame, hloader, hdyn, htime, hminibar, hquiet⟩ := h
  rw [unchangedBut_iff] at hsame
  refine ⟨?_, ?_, hdyn.of_store (by simp), ?_, ?_, ?_⟩
  · rw [unchangedBut_iff]
    simpa using hsame
  · simpa using hloader
  · simpa using htime
  · simp [addMinibarWork, hminibar]
  · simpa using hquiet

theorem RoomPosted.setPart (h : RoomPosted s i new d given work u) (m : Option MinibarPart) :
    RoomPosted s i new { d with minibar := m } given work (setPart u i m) :=
  h.withDyn (h.dyn.setPart m) rfl

theorem RoomPosted.setDyn (h : RoomPosted s i new d given work u) (x : RoomDyn) :
    RoomPosted s i new x given work (setDyn u i x) :=
  h.withDyn (h.dyn.setDyn x) rfl

/-- The recomputation of the part, if there is one (R65). -/
theorem RoomPosted.recomputed (h : RoomPosted s i new d given work u) :
    RoomPosted s i new { d with minibar := d.minibar.map (recomputedKept d.occupied new.limit) } given work
      (match partOf u i with
        | none => u
        | some m => Machine.setPart u i (some (recomputeKeeping u i m))) := by
  refine h.withDyn (h.room ▸ h.dyn.recomputed) ?_
  cases partOf u i <;> rfl

/-- The minibar node that a rewrite takes from a room it keeps (R65). -/
def nodeGiven (s : State) (i : Slot) (new : RoomStatic) : Option Node :=
  if new.minibarNode = (roomOf s i).minibarNode then none else (roomOf s i).minibarNode

/-- The forced commit of a part that moves to another node (R65). -/
def movedWork (s : State) (i : Slot) (new : RoomStatic) : List MinibarWork :=
  if nodeGiven s i new ≠ none ∧ new.minibarNode ≠ none then [.forced (.moved i new.number)] else []

/-- What a room's new minibar arrangement leaves (R65). -/
theorem minibarRewrite_posted (s : State) (i : Slot) (new : RoomStatic) :
    RoomPosted s i new (dynKept s i new none) (nodeGiven s i new) (movedWork s i new)
      (minibarRewrite (pushPost s (.room i new)) i (roomOf s i).minibarNode new.minibarNode) := by
  have hpush := pushPost_posted s i new
  have hdyn : dynOf (pushPost s (.room i new)) i = dynOf s i := hpush.dyn.dyn
  unfold dynKept movedWork nodeGiven
  cases ha : (roomOf s i).minibarNode with
  | none =>
    cases hb : new.minibarNode with
    | none => simpa [minibarRewrite] using hpush
    | some b =>
      have hnew := hpush.setPart (some (newPart (pushPost s (.room i new)) i 0))
      rw [recompute_new, hdyn, hpush.room] at hnew
      simpa [minibarRewrite, recompute_new, hdyn, hpush.room] using hnew
  | some a =>
    cases hb : new.minibarNode with
    | none => simpa [minibarRewrite] using (hpush.cancelled a).setPart none
    | some b =>
      by_cases hab : a = b
      · subst hab
        simp only [minibarRewrite, if_true, ne_eq, not_true_eq_false, false_and, if_false]
        exact hpush.recomputed
      · simpa [minibarRewrite, hab, Ne.symm hab, hpush.room] using
          (hpush.cancelled a).worked (.forced (.moved i new.number))

/-- A room kept, before the session that its restore part ends (R65, R67). -/
def roomKept (s : State) (i : Slot) (new : RoomStatic) : Option RestorePart → State
  | none => minibarRewrite (pushPost s (.room i new)) i (roomOf s i).minibarNode new.minibarNode
  | some p =>
    let u := minibarRewrite (pushPost s (.room i new)) i (roomOf s i).minibarNode new.minibarNode
    let v := setDyn u i (restored (dynOf u i) p)
    match partOf v i with
    | none => v
    | some m => setPart v i (some (recomputeKeeping v i m))

theorem keepRoom_eq (s : State) (i : Slot) (new : RoomStatic) (restore : Option RestorePart) :
    keepRoom s i (roomOf s i) new restore =
      if restore = none then roomKept s i new none
      else derivePrivacy (endRoomSession (roomKept s i new restore) new.number .roomChanged) new.number none := by
  cases restore <;> rfl

theorem roomKept_posted (s : State) (i : Slot) (new : RoomStatic) (restore : Option RestorePart) :
    RoomPosted s i new (dynKept s i new restore) (nodeGiven s i new) (movedWork s i new) (roomKept s i new restore) := by
  have hu := minibarRewrite_posted s i new
  cases restore with
  | none => exact hu
  | some p =>
    have hv := (hu.setDyn (restored (dynKept s i new none) p)).recomputed
    simp only [roomKept, hu.dyn.dyn]
    rw [restored_eq] at hv ⊢
    exact hv

/-- A room replaced, before the session it ends (R66, R67). -/
def roomReplaced (s : State) (i : Slot) (new : RoomStatic) (restore : Option RestorePart) : State :=
  let v := setDyn (dropMinibarNode (pushPost s (.room i new)) (roomOf s i).minibarNode) i (replacedDyn new.number restore)
  match new.minibarNode with
  | none => v
  | some _ => setPart v i (some (newPart v i ((restore.map (·.tally)).getD 0)))

theorem replaceRoom_eq (s : State) (i : Slot) (new : RoomStatic) (restore : Option RestorePart) :
    replaceRoom s i (roomOf s i) new restore =
      derivePrivacy (endRoomSession (roomReplaced s i new restore) (roomOf s i).number .roomChanged) new.number none := rfl

theorem roomReplaced_posted (s : State) (i : Slot) {new : RoomStatic} (restore : Option RestorePart)
    (hz : new.number = 0 → new.minibarNode = none) :
    RoomPosted s i new (dynReplaced new restore) (roomOf s i).minibarNode [] (roomReplaced s i new restore) := by
  have hdrop : RoomPosted s i new (dynOf s i) (roomOf s i).minibarNode []
      (dropMinibarNode (pushPost s (.room i new)) (roomOf s i).minibarNode) := by
    cases (roomOf s i).minibarNode with
    | none => exact pushPost_posted s i new
    | some a => exact (pushPost_posted s i new).cancelled a
  have hv := hdrop.setDyn (replacedDyn new.number restore)
  have hroom := hv.room
  have hdyn := hv.dyn.dyn
  unfold roomReplaced
  cases hb : new.minibarNode with
  | none =>
    have hd : dynReplaced new restore = replacedDyn new.number restore := by
      unfold dynReplaced replacedDyn
      by_cases hn : new.number = 0
      · rw [if_pos hn, if_pos hn]
        rfl
      · rw [if_neg hn, if_neg hn, hb]
        cases restore with
        | none => rfl
        | some p => simp only [restored_eq]; rfl
    rw [hd]
    exact hv
  | some b =>
    have hn : new.number ≠ 0 := fun h => absurd (hz h) (by simp [hb])
    have hd : dynReplaced new restore =
        { replacedDyn new.number restore with
          minibar :=
            some (createdPart (replacedDyn new.number restore).occupied new.limit ((restore.map (·.tally)).getD 0)) } := by
      unfold dynReplaced replacedDyn
      rw [if_neg hn, if_neg hn, hb]
      cases restore with
      | none => rfl
      | some p => simp only [restored_eq]; rfl
    dsimp only
    rw [recompute_new, hroom, hdyn, hd]
    exact hv.setPart _

end


/-! ### The session a ROOM entry ends (R112) -/

/-- The session open for a room whose outcome is not decided. -/
def roomSessions (s : State) (q : Half) : List (Fin 2) :=
  (ctxOfRoom s q).toList.filter fun k => (ctxOf s k).outcome.isNone

theorem ctxOfRoom_open {s : State} {q : Half} {k : Fin 2} (h : ctxOfRoom s q = some k) : isOpen (ctxOf s k) = true := by
  have := List.find?_some h
  simp only [Bool.and_eq_true] at this
  exact this.1.1

theorem endSession_ended {s : State} {k : Fin 2} {why : FailReason} (ho : isOpen (ctxOf s k) = true)
    (hn : (ctxOf s k).outcome = none) (hw : why ≠ .timeout) :
    EndedAt s (ctxOf s k).node [k] why (endSession s k why) := by
  refine ⟨?_, ?_, ⟨endSession_issue why ho hn, ?_⟩, fun h hc => endSession_records why ho hn h hc,
    endSession_trunk why ho hn⟩
  · rw [unchangedBut_iff]
    simp
  · simp [endSession_lines why ho hn]
  · rw [endSession_time why ho hn hw]
    simp

theorem endRoomSession_cases (s : State) (q : Half) {why : FailReason} (hw : why ≠ .timeout) :
    (roomSessions s q = [] ∧ endRoomSession s q why = s) ∨
      ∃ k, roomSessions s q = [k] ∧ EndedAt s (ctxOf s k).node [k] why (endRoomSession s q why) := by
  unfold roomSessions endRoomSession
  cases hk : ctxOfRoom s q with
  | none => exact .inl ⟨rfl, rfl⟩
  | some k =>
    by_cases hn : (ctxOf s k).outcome = none
    · exact .inr ⟨k, by simp [hn], endSession_ended (ctxOfRoom_open hk) hn hw⟩
    · exact .inl ⟨by simpa using hn, endSession_decided hn why⟩

/-- A session's command withdrawn is gone, or its exchange is in flight (R115). -/
theorem linesWithdrawn_gone {s t : State} {n : Node} (h : t.lines = linesWithdrawn s n) :
    sessionCommandGone t n ∨ flightFate (lineOf s n.line) n.addr ≠ none := by
  by_cases hf : flightFate (lineOf s n.line) n.addr = none
  · refine .inl fun x hx => ?_
    have hline : lineOf t n.line = lineWithdrawn (lineOf s n.line) n.addr := by simp [lineOf, h, linesWithdrawn]
    rw [nodeOf, hline] at hx
    unfold lineWithdrawn at hx
    dsimp only at hx
    split at hx
    · rw [if_neg (by simp [hf])] at hx
      simp at hx
    · next hplain =>
      rw [hx] at hplain
      simpa using hplain
  · exact .inr hf

/-- The sessions that a ROOM entry ends, by the room whose session it ends. -/
def roomEnds (s : State) (q : Option Half) : List (Fin 2) := q.toList.flatMap fun r => roomSessions s r

/-- What a ROOM entry taken leaves. -/
structure RoomTaken (s : State) (i : Slot) (new : RoomStatic) (d : RoomDyn) (given : Option Node) (work : List MinibarWork)
    (ks : List (Fin 2)) (u : State) : Prop where
  same : unchangedBut [.time, .lines, .tracker, .issue, .minibar, .store, .loader, .journal, .trunk] s u
  loader : u.loader = { s.loader with buffer := s.loader.buffer ++ [.room i new] }
  dyn : DynSet i d s u
  minibar : u.minibar = s.minibar ++ work
  time : u.time =
    { s.time with
      deadlines := s.time.deadlines.filter fun x =>
        decide (given ≠ some x.node) && !ks.any fun k => x.node == (ctxOf s k).node && x.kind == .issueTimeout }
  lines : (ks = [] → u.lines = s.lines) ∧
    ∀ k ∈ ks, sessionCommandGone u (ctxOf s k).node ∨
      flightFate (lineOf s (ctxOf s k).node.line) (ctxOf s k).node.addr ≠ none
  issue : u.issue = sessionsEnded s ks .roomChanged
  records : appendsAll s u (endRecords s ks .roomChanged)
  trunk : u.trunk = { s.trunk with notices := noticesWith s (endNotices s ks .roomChanged) }

section
variable {s u v : State} {i : Slot} {new : RoomStatic} {d : RoomDyn} {given : Option Node} {work : List MinibarWork}
variable {ks : List (Fin 2)}

theorem RoomPosted.taken (h : RoomPosted s i new d given work u) : RoomTaken s i new d given work [] u := by
  obtain ⟨hsame, hloader, hdyn, htime, hminibar, hjournal, htrunk⟩ := h
  have hlines : u.lines = s.lines := hsame.2 .lines (by decide)
  have hissue : u.issue = s.issue := hsame.2 .issue (by decide)
  refine ⟨hsame.mono (by decide), hloader, hdyn, hminibar, ?_, ⟨fun _ => hlines, by simp⟩, ?_, ?_, ?_⟩
  · simpa using htime
  · rw [sessionsEnded_nil, hissue]
  · exact appendsAll_nil hjournal
  · exact htrunk

/-- The session of a room ended over the entry posted. -/
theorem RoomPosted.ended (h : RoomPosted s i new d given work u) {q : Half} :
    RoomTaken s i new d given work (roomSessions s q) (endRoomSession u q .roomChanged) := by
  have hui : u.issue = s.issue := h.same.2 .issue (by decide)
  have hctx : ∀ k, ctxOf u k = ctxOf s k := fun k => by simp [ctxOf, hui]
  have hks : roomSessions u q = roomSessions s q := by simp only [roomSessions, ctxOfRoom, hctx]
  rcases endRoomSession_cases u q (why := .roomChanged) nofun with ⟨hnone, hsame⟩ | ⟨k, hk, hended⟩
  · rw [← hks, hnone, hsame]
    exact h.taken
  · rw [← hks, hk]
    obtain ⟨hissue, hrecords, htrunk⟩ := hended.over hui (by rw [h.time]) h.quiet.1 h.quiet.2
    obtain ⟨hsame, hloader, hdyn, htime, hminibar, -⟩ := h
    obtain ⟨hvsame, hvlines, ⟨-, hvtime⟩, -, -⟩ := hended
    rw [hctx] at hvlines hvtime
    have hul : u.lines = s.lines := hsame.2 .lines (by decide)
    refine ⟨(hsame.mono (by decide)).step (hvsame.mono (by decide)), (hvsame.2 .loader (by decide)).trans hloader,
      hdyn.of_store (hvsame.2 .store (by decide)), (hvsame.2 .minibar (by decide)).trans hminibar, ?_, ⟨nofun, ?_⟩, hissue,
      hrecords, htrunk⟩
    · rw [hvtime, htime]
      simp [List.filter_filter, Bool.and_comm]
    · have hgone := linesWithdrawn_gone (hvlines.trans (if_neg (by simp)))
      simpa [lineOf, hul] using hgone

/-- The privacy write derived after (R96). -/
theorem RoomTaken.derived (h : RoomTaken s i new d given work ks u) (room : Half) :
    RoomTaken s i new d given work ks (derivePrivacy u room none) := by
  obtain ⟨hsame, hloader, hdyn, hminibar, htime, hlines, hissue, hrecords, htrunk⟩ := h
  refine ⟨?_, ?_, hdyn.of_store (by simp), ?_, ?_, ?_, ?_, hrecords.of_journal (by simp), ?_⟩
  · rw [unchangedBut_iff] at hsame ⊢
    simpa using hsame
  · simpa using hloader
  · simpa using hminibar
  · simpa using htime
  · simpa [sessionCommandGone, nodeOf, lineOf] using hlines
  · simpa using hissue
  · simpa using htrunk

end


/-! ### POST of a ROOM entry (R61, R64 to R67) -/

/-- The room whose session a ROOM entry ends: a kept room's only with a restore part (R65, R66). -/
def roomEnded (s : State) (i : Slot) (new : RoomStatic) (restore : Option RestorePart) : Option Half :=
  if new.number ≠ 0 ∧ new.number = (roomOf s i).number then (if restore.isSome then some new.number else none)
  else some (roomOf s i).number

section
variable {s t u : State} {i : Slot} {new : RoomStatic} {d : RoomDyn} {given : Option Node} {work : List MinibarWork}

theorem RoomPosted.writes (h : RoomPosted s i new d given work u) (q : Half)
    (ht : t.tracker = (derivePrivacy (endRoomSession u q .roomChanged) new.number none).tracker)
    (hb : t.loader.buffer = u.loader.buffer) (hs : t.store = u.store) :
    t.tracker = { s.tracker with writes := writesDerived t new.number none s.tracker.writes } := by
  have htracker : u.tracker = s.tracker := h.same.2 .tracker (by decide)
  have hdoors : t.tracker.doors = u.tracker.doors := by rw [ht]; simp
  rw [derivePrivacy_tracker] at ht
  rw [ht]
  simp only [endRoomSession_frame, htracker]
  congr 1
  refine writesDerived_of_reads (fun j => ?_) (fun j => ?_) (fun m => ?_) _ _ _
  · simp [doorAt, hb, hs]
  · simp [roomOf, hb, hs]
  · simp [trackOf, hdoors]

end

/-- What an accepted ROOM entry leaves, its room kept or replaced (R65, R66). -/
structure RoomEntered (s : State) (i : Slot) (new : RoomStatic) (restore : Option RestorePart) (u : State) : Prop where
  kept : new.number ≠ 0 ∧ new.number = (roomOf s i).number →
    RoomTaken s i new (dynKept s i new restore) (nodeGiven s i new) (movedWork s i new)
      (roomEnds s (roomEnded s i new restore)) u
  replaced : ¬ (new.number ≠ 0 ∧ new.number = (roomOf s i).number) →
    RoomTaken s i new (dynReplaced new restore) (roomOf s i).minibarNode [] (roomEnds s (roomEnded s i new restore)) u
  writes : ∀ t, t.tracker = u.tracker → t.loader.buffer = u.loader.buffer → t.store = u.store →
    t.tracker =
      { s.tracker with
        writes :=
          if (new.number ≠ 0 ∧ new.number = (roomOf s i).number) ∧ restore = none then s.tracker.writes
          else writesDerived t new.number none s.tracker.writes }

theorem takeRoom_entered (s : State) (i : Slot) (st : RoomStatic) (restore : Option RestorePart) {new : RoomStatic}
    (hnew : roomStaticOf st.number st.minibarNode st.limit st.prices = new) :
    RoomEntered s i new restore (takeRoom s i st restore) := by
  have hz : new.number = 0 → new.minibarNode = none := by
    rw [← hnew]
    unfold roomStaticOf
    split
    · exact fun _ => rfl
    · next h => exact fun h' => absurd h' h
  unfold takeRoom
  dsimp only
  rw [hnew]
  have hends : ∀ q, roomEnds s (some q) = roomSessions s q := fun q => by simp [roomEnds]
  by_cases hk : new.number ≠ 0 ∧ new.number = (roomOf s i).number
  · rw [if_pos hk, keepRoom_eq]
    have hposted := roomKept_posted s i new restore
    refine ⟨fun _ => ?_, fun h => absurd hk h, fun t ht hb hs => ?_⟩
    · cases restore with
      | none =>
        have hnone : roomEnded s i new none = none := if_pos hk
        rw [hnone]
        exact hposted.taken
      | some p =>
        have hsome : roomEnded s i new (some p) = some new.number := if_pos hk
        rw [hsome, hends]
        exact hposted.ended.derived _
    · cases restore with
      | none =>
        rw [if_pos ⟨hk, rfl⟩]
        exact ht.trans (hposted.same.2 .tracker (by decide))
      | some p =>
        rw [if_neg (by simp)]
        exact hposted.writes _ ht (by simpa using hb) (by simpa using hs)
  · rw [if_neg hk, replaceRoom_eq]
    have hposted := roomReplaced_posted s i restore hz
    have hsome : roomEnded s i new restore = some (roomOf s i).number := if_neg hk
    refine ⟨fun h => absurd h hk, fun _ => ?_, fun t ht hb hs => ?_⟩
    · rw [hsome, hends]
      exact hposted.ended.derived _
    · rw [if_neg fun h => hk h.1]
      exact hposted.writes _ ht (by simpa using hb) (by simpa using hs)

section
variable {s : State} {w : LoadWindow} {ld : LoadInHand} {i : Slot} {e : List Byte} {es : List (List Byte)}

theorem postAt_room (ht : w.table = .room) : postAt s w.table i.val e = postRoom s i e := by
  simp [postAt, ht, i.isLt]

theorem postRoom_conflict {why : RefuseReason} (h : roomConflict s i e = some why) : postRoom s i e = .error why := by
  simp [postRoom, h]

theorem postRoom_unfit (hl : e.length = 19) (hc : roomConflict s i e = none) (h : roomUnfit e) :
    postRoom s i e = .error .range := by
  simp [postRoom, hc, parseRoom_unfit hl h]

/-- An entry that nothing refuses is posted (R61, R65 to R67). -/
theorem postRoom_entered (hl : e.length = 19) (hc : roomConflict s i e = none) (h : ¬ roomUnfit e) :
    ∃ u, postRoom s i e = .ok u ∧ RoomEntered s i (staticAt e) (restoreAt e) u := by
  obtain ⟨st, hp, hst⟩ := parseRoom_fit hl h
  exact ⟨_, by simp [postRoom, hc, hp], takeRoom_entered s i st _ hst⟩

/-- The effects of an accepted ROOM entry with those of its post (R173). -/
theorem roomPost_taken {new : RoomStatic} {d : RoomDyn} {given : Option Node} {work : List MinibarWork} {ks : List (Fin 2)}
    {u : State} (hx : examining s w ld i.val e es) (hu : postAt s w.table i.val e = .ok u)
    (h : RoomTaken s i new d given work ks u) :
    ∃ t, exec .post s = .next t ∧ PostTaken s w i.val es { ld with taken := ld.taken + 1 } (.room i new) u t ∧
      postRead s t (.room i new) ∧ t.loader.buffer = u.loader.buffer := by
  have hc : s.loader.cursor = .at i.val := hx.2.2.2.2.2.2
  obtain ⟨t, he, hpost⟩ := postTaken hx (examine_at hc hu) h.loader
  have hstore : t.store = { s.store with dyns := put s.store.dyns i d } := hpost.kept.2.2.2.2.2.trans h.dyn
  have hbuffer : t.loader.buffer = s.loader.buffer ++ [.room i new] := by rw [hpost.loader]
  refine ⟨t, he, hpost, postRead_of_buffer hbuffer ?_, ?_⟩
  · simp [tablesSame, hstore]
  · rw [hbuffer, h.loader]

theorem staticAt_number (e : List Byte) : (staticAt e).number = BitVec.ofNat 16 (twoAt e 0) := by
  unfold staticAt
  split
  · next h => rw [h]; rfl
  · rfl

end


/-- Settles O38: a DOOR entry by its kind byte, a ROOM entry by what refuses it and by whether it keeps its slot's room. -/
theorem postRestartsNodeOrRefuses : Obligations.PostRestartsNodeOrRefuses := by
  intro s w ld e es i refuses now taken sessionEnds
  refine ⟨fun hx ht hl => ?_, fun hx ht hl => ?_, fun hr hp hb hw hl he hc => ?_⟩
  · intro n old room fits place takes
    have hold : doorAt s i = old := by simp [old, n, doorOf, nodeIndex_nodeAt]
    have htakes : ∀ new, parseDoor e = some new → takes new := fun new hnew => by
      obtain ⟨t, he, hpost⟩ := doorPost_taken hx ht hnew
      obtain ⟨hsame, hloader, htime, hlines, htracker, hminibar, hissue, hrecords, htrunk⟩ := postDoor_posted s i new
      obtain ⟨ktime, klines, ktracker, kissue, kminibar, kstore⟩ := hpost.kept
      obtain ⟨hnode, hfifo, hothers, hline, hnodes⟩ := DoorPosted.lines_left (klines.trans hlines)
      have hstore : t.store = s.store := kstore.trans (hsame.2 .store (by decide))
      have hbuffer : t.loader.buffer = s.loader.buffer ++ [.door i new] := by rw [hpost.loader]
      have hks : doorSessions s i = if old.kind = .encoder then endable s n else [] := by rw [doorSessions, hold]
      rw [hold] at hnode hline
      refine ⟨t, he, hpost.same (by decide) (by decide) hsame,
        ⟨hpost.loader, postRead_of_buffer hbuffer (tablesSame_of_store hstore)⟩, ktime.trans htime, hnode, hfifo, hothers,
        hline, fun m hm => ⟨?_, hnodes m hm⟩, fun hd => ?_, fun ho hn => ?_, kminibar.trans hminibar, ?_⟩
      · rw [← doorRewritten_track s i new m hm]
        simp only [trackOf, ktracker, htracker]
      · have := doorRewritten_tracker s i (new := new) (by rwa [hold]) (ktracker.trans htracker) hbuffer hstore
        rwa [hold] at this
      · exact (ktracker.trans htracker).trans (doorRewritten_plain s i (hold ▸ ho) hn)
      · exact ⟨kissue.trans (hissue.trans (by rw [hks])), by rw [← hks]; exact hpost.records hrecords,
          by rw [← hks]; exact hpost.told htrunk⟩
    have hparse := parseDoor_eq hl
    have hfit : ∀ kind r, fits → doorPlaced e kind r = some (place kind r) := fun kind r hf => if_pos hf
    refine ⟨fun h => htakes _ ?_, fun h hroom hf => htakes _ ?_, fun h hf => htakes _ ?_,
      fun h hroom hf => htakes _ ?_, fun h => htakes _ ?_, fun h => ?_⟩
    · rw [hparse, h]; rfl
    · rw [hparse, h]; exact (if_neg hroom).trans (hfit _ _ hf)
    · rw [hparse, h]; exact hfit _ _ hf
    · rw [hparse, h]; exact (if_neg hroom).trans (hfit _ _ hf)
    · rw [hparse, h]; rfl
    · refine postRefused_at hx ?_
      have hnone : parseDoor e = none := parseDoor_unfit hl h
      simp [postAt, ht, postParsed, hnone]
  · intro old new number carried restore twin keeps owed bad
    have htwin : duplicateRoom s i number carried = true ↔ twin := duplicateRoom_carried
    have howed : removesOwed s i number carried = true ↔ owed := removesOwed_iff
    have hconflict := roomConflict_eq s i (roomNames_eq hl)
    have hfree : ¬ twin → ¬ owed → roomConflict s i e = none := fun h h' =>
      hconflict.trans ((if_neg fun hd => h (htwin.1 hd)).trans (if_neg fun hd => h' (howed.1 hd)))
    have hnumber : new.number = number := staticAt_number e
    refine ⟨fun h => postRefused_at hx ?_, fun h h' => postRefused_at hx ?_, fun h h' hb => postRefused_at hx ?_,
      fun h h' hb => ?_⟩
    · rw [postAt_room ht, postRoom_conflict]
      exact hconflict.trans (if_pos (htwin.2 h))
    · rw [postAt_room ht, postRoom_conflict]
      exact hconflict.trans ((if_neg fun hd => h (htwin.1 hd)).trans (if_pos (howed.2 h')))
    · rw [postAt_room ht]
      exact postRoom_unfit hl (hfree h h') hb
    · intro ended ks given
      obtain ⟨u, hu, hentered⟩ := postRoom_entered (s := s) (i := i) hl (hfree h h') hb
      have hends : roomEnds s (roomEnded s i new restore) = ks := by
        have hq : roomEnded s i new restore = ended := by unfold roomEnded; rw [hnumber]
        rw [hq]
        rfl
      have hkeeps : (new.number ≠ 0 ∧ new.number = (roomOf s i).number) ↔ keeps := by rw [hnumber]
      have htaken : RoomTaken s i new (if keeps then dynKept s i new restore else dynReplaced new restore) given
          (if keeps ∧ given ≠ none ∧ new.minibarNode ≠ none then [.forced (.moved i number)] else []) ks u := by
        rw [← hends]
        by_cases hk : keeps
        · have hgiven : given = nodeGiven s i new := by
            by_cases hsame : new.minibarNode = old.minibarNode
            · exact (if_pos ⟨hk, hsame⟩).trans (if_pos hsame).symm
            · exact (if_neg fun hb => hsame hb.2).trans (if_neg hsame).symm
          have hwork : (if keeps ∧ given ≠ none ∧ new.minibarNode ≠ none then [.forced (.moved i number)] else []) =
              movedWork s i new := by
            rw [hgiven, movedWork, hnumber]
            simp only [hk, true_and]
          rw [if_pos hk, hwork, hgiven]
          exact hentered.kept (hkeeps.2 hk)
        · have hgiven : given = (roomOf s i).minibarNode := if_neg fun hb => hk hb.1
          rw [if_neg hk, if_neg fun hb => hk hb.1, hgiven]
          exact hentered.replaced fun hb => hk (hkeeps.1 hb)
      obtain ⟨t, he, hpost, hread, hbuffer⟩ := roomPost_taken hx ((postAt_room ht).trans hu) htaken
      obtain ⟨ktime, klines, ktracker, kissue, kminibar, kstore⟩ := hpost.kept
      obtain ⟨hsame, hloader, hdyn, hminibar, htime, ⟨hquiet, hgone⟩, hissue, hrecords, htrunk⟩ := htaken
      refine ⟨t, he, hpost.same (by decide) (by decide) hsame, ⟨hpost.loader, hread⟩, kstore.trans hdyn,
        kminibar.trans hminibar, ktime.trans htime, fun hn => klines.trans (hquiet hn), fun k hk => ?_, ?_,
        ⟨kissue.trans hissue, hpost.records hrecords, hpost.told htrunk⟩⟩
      · simpa [sessionCommandGone, nodeOf, lineOf, klines] using hgone k hk
      · exact (hentered.writes t ktracker hbuffer kstore).trans
          (congrArg (fun ws => { s.tracker with writes := ws }) (if_congr (and_congr hkeeps Iff.rfl) rfl rfl))
  · have hx : examine s w e = .error (none, .range) := by simp [examine, hc]
    have := postRefused hr hp hb hw hl he hx
    rwa [hc] at this

end Sys2Proof.Machine
end

section
/-!
The span law of the room records (04_wing_tables.md, R63) under the operations that write a dynamic part: the minibar, privacy
and the issue-in-flight marker leave a record's generations and occupancy alone; a supersession, a commit, a burn, a checkout,
a bump and a load change them within the law.
-/

namespace Sys2Proof.Machine

/-! ### One room record -/

section
variable {d e : RoomDyn}

theorem spanLaw_congr (ho : e.occupied = d.occupied) (ha : e.accepted = d.accepted) (hi : e.issued = d.issued) :
    spanLaw e ↔ spanLaw d := by
  simp only [spanLaw, spanOf, ho, ha, hi]

theorem spanLaw_vacant (ho : e.occupied = false) (hs : spanOf e = 0) : spanLaw e := by
  simp [spanLaw, ho, hs]

theorem spanLaw_occupied (ho : e.occupied = true) (h1 : 1 ≤ (spanOf e).toNat) (h16 : (spanOf e).toNat ≤ 16) : spanLaw e := by
  refine ⟨h16, ?_⟩
  simp only [ho, Bool.true_eq_false, iff_false]
  intro h0
  simp [h0] at h1

theorem spanLaw.withMinibar (h : spanLaw d) (m : Option MinibarPart) : spanLaw { d with minibar := m } :=
  (spanLaw_congr rfl rfl rfl).2 h

theorem spanLaw_cleared : spanLaw .cleared := by
  unfold spanLaw; decide

/-- Supersession brings the accepted generation up to a card within the span (R83, R86). -/
theorem spanLaw_superseded (h : spanLaw d) (ho : d.occupied = true) {g : Gen}
    (hg : (g - d.accepted).toNat < (spanOf d).toNat) : spanLaw { d with accepted := g } := by
  have h16 := h.1
  refine spanLaw_occupied ho ?_ ?_
  all_goals simp only [spanOf] at *
  all_goals bv_omega

/-- A bump leaves the newest generation alone (R120). -/
theorem spanLaw_bumped (ho : d.occupied = true) : spanLaw { d with accepted := d.issued } := by
  have hs : spanOf { d with accepted := d.issued } = 1 := by simp [spanOf]
  exact spanLaw_occupied ho (by simp [hs]) (by simp [hs])

/-- A checkout puts every card out of reach (R119). -/
theorem spanLaw_checkedOut (d : RoomDyn) : spanLaw { d with accepted := d.issued + 1, occupied := false } :=
  spanLaw_vacant rfl (by simp only [spanOf]; bv_omega)

/-- The span after a raise is 1 to 16 (R103). -/
theorem spanLaw_raised (h : spanLaw d) (ho : e.occupied = true) (hs : spanOf e = spanOf (raiseGen d (d.issued + 1))) :
    spanLaw e := by
  have h16 := h.1
  rw [spanOf_raiseGen] at hs
  split at hs
  · exact spanLaw_occupied ho (by simp [hs]) (by simp [hs])
  · next hne =>
    have hlt : (spanOf d).toNat ≠ 16 := fun h => hne (BitVec.eq_of_toNat_eq h)
    have hnat : (spanOf e).toNat = (spanOf d).toNat + 1 := by rw [hs]; bv_omega
    exact spanLaw_occupied ho (by omega) (by omega)

/-- A burn raises the span of an OCCUPIED room, or leaves a VACANT one with its generation out of reach (R114). -/
theorem spanLaw_burned (h : spanLaw d) (g : Gen) (void : Bool) : spanLaw (burned d g void) := by
  unfold burned
  split
  · next hg =>
    subst hg
    split
    · exact spanLaw_vacant rfl (by simp only [spanOf, raiseGen]; bv_omega)
    · next hv =>
      simp only [Bool.or_eq_true, Bool.not_eq_true', not_or, Bool.not_eq_false] at hv
      exact spanLaw_raised h hv.1 rfl
  · exact h

theorem spanLaw_burnedPart (h : spanLaw d) (burn void : Bool) (g : Option Gen) : spanLaw (burnedPart d burn void g) := by
  cases g with
  | none => exact h
  | some g =>
    cases burn
    · exact h
    · exact spanLaw_burned h g void

theorem spanLaw_voidedPart (h : spanLaw d) (g : Option Gen) : spanLaw (voidedPart d g) := by
  cases g with
  | none => exact h
  | some g => exact spanLaw_vacant rfl (spanOf_commitVoid d g)

/-- A restore part is brought within the law, whatever generations it carries (R67). -/
theorem spanLaw_restoredTo (d : RoomDyn) (p : RestorePart) : spanLaw (restoredTo d p) := by
  cases ho : p.occupied
  · exact spanLaw_vacant (by simp [restoredTo, ho]) (by simp only [spanOf, restoredTo, ho, if_true]; bv_omega)
  · have hocc : (restoredTo d p).occupied = true := by simp [restoredTo, ho]
    have hspan : spanOf (restoredTo d p) =
        if (p.issued - p.accepted + 1).toNat = 0 then 1
        else if (p.issued - p.accepted + 1).toNat ≤ 16 then p.issued - p.accepted + 1 else 16 := by
      simp only [spanOf, restoredTo, ho, Bool.true_eq_false, if_false]
      repeat' split
      · bv_omega
      · rfl
      · bv_omega
    have hnat : (spanOf (restoredTo d p)).toNat =
        if (p.issued - p.accepted + 1).toNat = 0 then 1
        else if (p.issued - p.accepted + 1).toNat ≤ 16 then (p.issued - p.accepted + 1).toNat else 16 := by
      rw [hspan]
      repeat' split
      all_goals rfl
    refine spanLaw_occupied hocc ?_ ?_
    all_goals rw [hnat]
    all_goals repeat' split
    all_goals omega

/-- The dynamic part of a room that a load keeps (R65, R67). -/
theorem spanLaw_dynKept {s : State} {i : Slot} (h : spanLaw (dynOf s i)) (new : RoomStatic) (restore : Option RestorePart) :
    spanLaw (dynKept s i new restore) := by
  cases restore with
  | some p => exact (spanLaw_restoredTo _ p).withMinibar _
  | none =>
    unfold dynKept
    dsimp only
    repeat' split
    all_goals exact h

/-- The dynamic part of a slot that a load gives to another room, or empties (R66, R67). -/
theorem spanLaw_dynReplaced (new : RoomStatic) (restore : Option RestorePart) : spanLaw (dynReplaced new restore) := by
  unfold dynReplaced
  dsimp only
  split
  · exact spanLaw_cleared
  · cases restore with
    | none => exact spanLaw_cleared.withMinibar _
    | some p => exact (spanLaw_restoredTo _ p).withMinibar _

end

/-! ### Operations that leave the generations and the occupancy of every room alone -/

/-- What the span law reads of each room record: its occupancy and its two generations. -/
def spansOf (v : Vector RoomDyn 128) (i : Slot) : Bool × Gen × Gen :=
  ((look v i).occupied, (look v i).accepted, (look v i).issued)

theorem spansSound_congr {s t : State} (h : spansOf t.store.dyns = spansOf s.store.dyns) : spansSound t ↔ spansSound s := by
  refine forall_congr' fun i => ?_
  have hi := congrFun h i
  simp only [spansOf, Prod.mk.injEq] at hi
  exact spanLaw_congr hi.1 hi.2.1 hi.2.2

theorem setDyn_spansOf {s : State} {i : Slot} {d : RoomDyn} (ho : d.occupied = (dynOf s i).occupied)
    (ha : d.accepted = (dynOf s i).accepted) (hi : d.issued = (dynOf s i).issued) :
    spansOf (setDyn s i d).store.dyns = spansOf s.store.dyns := by
  funext j
  by_cases hj : i = j
  · subst hj
    simp [spansOf, setDyn, ho, ha, hi, dynOf]
  · simp [spansOf, setDyn, look_put_ne _ hj]

section
variable (s : State) (i : Slot)

@[simp] theorem setPart_spansOf (m : Option MinibarPart) :
    spansOf (setPart s i m).store.dyns = spansOf s.store.dyns := setDyn_spansOf rfl rfl rfl

@[simp] theorem commitCharge_spansOf (c : Charge) :
    spansOf (commitCharge i s c).store.dyns = spansOf s.store.dyns := by
  unfold commitCharge
  dsimp only
  repeat' split
  all_goals simp

@[simp] theorem commitWhere_spansOf (due : Charge → Bool) :
    spansOf (commitWhere s i due).store.dyns = spansOf s.store.dyns := by
  unfold commitWhere
  split
  · rfl
  · rw [foldl_keeps (fun s => spansOf s.store.dyns) _ fun s c => commitCharge_spansOf s i c]
    simp

@[simp] theorem commitAll_spansOf : spansOf (commitAll s i).store.dyns = spansOf s.store.dyns := by
  simp [commitAll]

@[simp] theorem endRestock_spansOf : spansOf (endRestock s i).store.dyns = spansOf s.store.dyns := by
  unfold endRestock
  split <;> simp

@[simp] theorem relatchEnd_spansOf : spansOf (relatchEnd s i).store.dyns = spansOf s.store.dyns := by
  unfold relatchEnd
  repeat' split
  all_goals simp

@[simp] theorem emptyCandidate_spansOf : spansOf (emptyCandidate s i).store.dyns = spansOf s.store.dyns := by
  unfold emptyCandidate
  split <;> simp

@[simp] theorem processRemoval_spansOf (c : Fin 8) :
    spansOf (processRemoval i s c).store.dyns = spansOf s.store.dyns := by
  unfold processRemoval
  dsimp only
  repeat' split
  all_goals simp

@[simp] theorem processReturn_spansOf (c : Fin 8) :
    spansOf (processReturn i s c).store.dyns = spansOf s.store.dyns := by
  unfold processReturn
  repeat' split
  all_goals simp

@[simp] theorem processCompartment_spansOf (before after : Compartments) (c : Fin 8) :
    spansOf (processCompartment i before after s c).store.dyns = spansOf s.store.dyns := by
  unfold processCompartment
  repeat' split
  all_goals simp

@[simp] theorem applyReport_spansOf (set : Compartments) :
    spansOf (applyReport s i set).store.dyns = spansOf s.store.dyns := by
  have fold : ∀ before, spansOf ((List.finRange 8).foldl (processCompartment i before set) s).store.dyns =
      spansOf s.store.dyns := fun before =>
    foldl_keeps (fun s => spansOf s.store.dyns) _ (fun s c => processCompartment_spansOf s i before set c) _ s
  unfold applyReport
  dsimp only
  repeat' split
  all_goals simp [fold]

@[simp] theorem applyItem_spansOf (n : Node) (first : Compartments) (second : Option Compartments) :
    spansOf (applyItem s n first second).store.dyns = spansOf s.store.dyns := by
  unfold applyItem
  dsimp only
  repeat' split
  all_goals simp

@[simp] theorem applyRelatch_spansOf (n : Node) : spansOf (applyRelatch s n).store.dyns = spansOf s.store.dyns := by
  unfold applyRelatch
  split <;> simp

@[simp] theorem applyReturn_spansOf (n : Node) : spansOf (applyReturn s n).store.dyns = spansOf s.store.dyns := by
  unfold applyReturn
  split <;> simp

@[simp] theorem applyForced_spansOf (c : ForcedCause) :
    spansOf (applyForced s c).store.dyns = spansOf s.store.dyns := by
  unfold applyForced forcedEnd
  dsimp only
  repeat' split
  all_goals simp

@[simp] theorem bringIntoLine_spansOf : spansOf (bringIntoLine s i).store.dyns = spansOf s.store.dyns := by
  unfold bringIntoLine
  dsimp only
  split <;> simp

@[simp] theorem minibarGrant_spansOf (n : Node) (m : MinibarGrant) :
    spansOf (minibarGrant s n m).store.dyns = spansOf s.store.dyns := by
  unfold minibarGrant setMinibarState
  repeat' split
  all_goals simp

@[simp] theorem checkoutCharges_spansOf : spansOf (checkoutCharges s i).store.dyns = spansOf s.store.dyns := by
  unfold checkoutCharges
  dsimp only
  repeat' split
  all_goals simp

@[simp] theorem checkoutMinibar_spansOf : spansOf (checkoutMinibar s i).store.dyns = spansOf s.store.dyns := by
  unfold checkoutMinibar
  dsimp only
  repeat' split
  all_goals simp

@[simp] theorem settleRoom_spansOf (room : Half) : spansOf (settleRoom s room).store.dyns = spansOf s.store.dyns := by
  unfold settleRoom
  dsimp only
  repeat' split
  all_goals simp

@[simp] theorem applyPrivacy_spansOf (w : PrivacyWrite) :
    spansOf (applyPrivacy s w).store.dyns = spansOf s.store.dyns := by
  unfold applyPrivacy
  repeat' split
  · rfl
  · rfl
  · next i _ _ =>
    have hset := setDyn_spansOf (s := s) (i := i) (d := { dynOf s i with privacy := w.value }) rfl rfl rfl
    simpa using hset

@[simp] theorem markRoom_spansOf (c : IssueCtx) (k : Fin 2) :
    spansOf (markRoom s c k).store.dyns = spansOf s.store.dyns := by
  unfold markRoom
  split
  · rfl
  · exact setDyn_spansOf rfl rfl rfl

@[simp] theorem unmark_spansOf : spansOf (unmark s i).store.dyns = spansOf s.store.dyns := setDyn_spansOf rfl rfl rfl

@[simp] theorem completeIssue_spansOf : spansOf (completeIssue s).store.dyns = spansOf s.store.dyns := by
  unfold completeIssue acceptIssue
  dsimp only
  repeat' split
  all_goals simp

@[simp] theorem drainOldest_dyns : (drainOldest s).store.dyns = s.store.dyns := by
  unfold drainOldest writePost
  repeat' split
  all_goals simp

end

end Sys2Proof.Machine
end

section
/-!
Every step keeps the span law (04_wing_tables.md, R63): the operations that change a room's generations or occupancy, and then
every command.
-/

namespace Sys2Proof.Machine

/-! ### Operations that change a room's generations or occupancy -/

section
variable {s : State}

theorem setDyn_spansSound {i : Slot} {d : RoomDyn} (h : spansSound s) (hd : spanLaw d) : spansSound (setDyn s i d) := by
  intro j
  rw [dynOf_setDyn]
  split
  · exact hd
  · exact h j

theorem spansSound_of_same {t : State} (h : spansOf t.store.dyns = spansOf s.store.dyns) (hs : spansSound s) :
    spansSound t := (spansSound_congr h).2 hs

/-! Decisions (R83, R86) -/

/-- A GUEST card that passes stage 8 is within the span of an OCCUPIED room (R83). -/
theorem stageRoom_within {g : Grant} {i : Slot} (hi : findRoom s g.room = some i) (h : stageRoom s .guest g = none) :
    (dynOf s i).occupied = true ∧ (genDistance (dynOf s i) g).toNat < (spanOf (dynOf s i)).toNat := by
  simp only [stageRoom, if_true, hi] at h
  repeat' split at h
  · cases h
  · next ho hd => exact ⟨by simpa using ho, hd⟩
  · cases h
  · cases h

theorem stageRoom_of_orElse {a b : Option Reason} (h : (a <|> b) = none) : a = none := by
  cases a with
  | none => rfl
  | some r => cases h

theorem decidePresentation_stageRoom {p : Presentation} {c : CardClass} {m : Option MinibarGrant}
    (h : decidePresentation s p = .grant c m) : stageRoom s c p.grant = none := by
  have late : ∀ x, lateStages s x p (doorOf s p.node) = .grant c m → stageRoom s c p.grant = none := fun x hx => by
    unfold lateStages at hx
    split at hx
    · cases hx
    · next hnone =>
      split at hx
      · cases hx
      · cases hx
        exact stageRoom_of_orElse hnone
  unfold decidePresentation at h
  dsimp only at h
  repeat' split at h
  · cases h
  · cases h
  · exact late _ h
  · cases h

theorem supersede_spansSound {p : Presentation} {c : CardClass} (h : spansSound s)
    (hc : stageRoom s c p.grant = none) : spansSound (supersede s p c) := by
  unfold supersede
  split
  · next hg =>
    subst hg
    split
    · exact h
    · next i hi =>
      dsimp only
      split
      · exact h
      · obtain ⟨ho, hd⟩ := stageRoom_within hi hc
        have hset := setDyn_spansSound (i := i) h (spanLaw_superseded (h i) ho hd)
        exact spansSound_of_same (by simp) hset
  · exact h

theorem verdictEffects_spansSound {p : Presentation} (h : spansSound s) :
    spansSound (verdictEffects s p (decidePresentation s p)) := by
  cases hv : decidePresentation s p with
  | release => exact h
  | refuse r => exact h
  | grant c m =>
    have hs := supersede_spansSound (p := p) h (decidePresentation_stageRoom hv)
    cases m with
    | none => exact hs
    | some k => exact spansSound_of_same (by simp [verdictEffects]) hs

theorem completeDecision_spansSound (p : Presentation) (h : spansSound s) : spansSound (completeDecision s p) :=
  spansSound_of_same (by simp [completeDecision]) (verdictEffects_spansSound (p := p) h)

/-! Closing operations (R103, R109 to R114) -/

theorem commitNew_spansSound (i : Slot) (g : Gen) (h : spansSound s) : spansSound (commitNew s i g) := by
  unfold commitNew
  dsimp only
  split
  · next hg =>
    subst hg
    have hset : spansSound (setDyn s i { raiseGen (dynOf s i) ((dynOf s i).issued + 1) with occupied := true }) :=
      setDyn_spansSound h (spanLaw_raised (h i) rfl rfl)
    repeat' split
    · exact hset
    · exact hset
    · exact spansSound_of_same (by simp) hset
  · exact h

theorem closeDone_spansSound (c : IssueCtx) (h : spansSound s) : spansSound (closeDone s c) := by
  unfold closeDone
  dsimp only
  split
  · exact spansSound_of_same (by simp) h
  · split
    · next i _ _ g _ => exact spansSound_of_same (by simp) (commitNew_spansSound i g h)
    · exact spansSound_of_same (by simp) h

theorem closeEffects_spansSound (c : IssueCtx) (out : SessionOutcome) (h : spansSound s) :
    spansSound (closeEffects s c out) := by
  cases out with
  | done => exact closeDone_spansSound c h
  | void =>
    simp only [closeEffects, closeVoid]
    split
    · exact h
    · exact setDyn_spansSound h ((spanLaw_congr rfl rfl rfl).2 (spanLaw_voidedPart (h _) _))
  | failed r burn =>
    simp only [closeEffects, closeFailed]
    split
    · exact h
    · exact setDyn_spansSound h ((spanLaw_congr rfl rfl rfl).2 (spanLaw_burnedPart (h _) _ _ _))

theorem closeSession_spansSound (k : Fin 2) (notify : Bool) (h : spansSound s) :
    spansSound (closeSession s k notify) := by
  unfold closeSession
  dsimp only
  split
  · exact h
  · next out _ => exact spansSound_of_same (by simp) (closeEffects_spansSound (ctxOf s k) (finalOutcome (ctxOf s k) out) h)

theorem stopSession_spansSound (r : FailReason) (k : Fin 2) (h : spansSound s) : spansSound (stopSession r s k) := by
  unfold stopSession
  dsimp only
  split
  · exact closeSession_spansSound k false h
  · exact closeSession_spansSound k false (spansSound_of_same (by simp) h)

/-! Room requests (R119, R120) -/

theorem checkoutRoom_spansSound (room : Half) (h : spansSound s) : spansSound (checkoutRoom s room) := by
  unfold checkoutRoom
  dsimp only
  split
  · exact spansSound_of_same (by simp) h
  · next i _ =>
    have hbar : spansSound (checkoutMinibar (checkoutCharges s i) i) := spansSound_of_same (by simp) h
    have hset := setDyn_spansSound (i := i) hbar (spanLaw_checkedOut (dynOf (checkoutMinibar (checkoutCharges s i) i) i))
    exact spansSound_of_same (by simp) hset

theorem bumpRoom_spansSound (room : Half) (h : spansSound s) : spansSound (bumpRoom s room) := by
  unfold bumpRoom
  dsimp only
  split
  · exact spansSound_of_same (by simp) h
  · next i _ =>
    split
    · exact spansSound_of_same (by simp) h
    · next ho =>
      have hset := setDyn_spansSound (i := i) h (spanLaw_bumped (d := dynOf s i) (by simpa using ho))
      refine spansSound_of_same ?_ hset
      split <;> simp

/-! Loads (R65 to R67) -/

theorem DynSet.spansSound {t : State} {i : Slot} {d : RoomDyn} (h : DynSet i d s t) (hs : Machine.spansSound s)
    (hd : spanLaw d) : Machine.spansSound t :=
  spansSound_of_same (congrArg (fun x => spansOf x.dyns) h) (setDyn_spansSound (i := i) hs hd)

theorem takeRoom_spansSound (i : Slot) (st : RoomStatic) (restore : Option RestorePart) (h : spansSound s) :
    spansSound (takeRoom s i st restore) := by
  have hentered := takeRoom_entered s i st restore rfl
  by_cases hk : (roomStaticOf st.number st.minibarNode st.limit st.prices).number ≠ 0 ∧
      (roomStaticOf st.number st.minibarNode st.limit st.prices).number = (roomOf s i).number
  · exact (hentered.kept hk).dyn.spansSound h (spanLaw_dynKept (h i) _ _)
  · exact (hentered.replaced hk).dyn.spansSound h (spanLaw_dynReplaced _ _)

/-! Resets (R68) -/

theorem resetPart_spansSound (cause : StartCause) (straps : BitVec 5) (l : Level) (h : spansSound s) :
    spansSound (resetPart s cause straps l) := by
  intro i
  have hi : dynOf (resetPart s cause straps l) i = clearMarker (dynOf s i) := (resetPart_storeKept s cause straps l).2 i
  rw [hi]
  exact (spanLaw_congr rfl rfl rfl).2 (h i)

theorem clearedStore_spansSound {t : State} (h : t.store.dyns = Store.cleared.dyns) : spansSound t := by
  intro i
  have hi : dynOf t i = .cleared := by simp [dynOf, h, Store.cleared]
  rw [hi]
  exact spanLaw_cleared

end

/-! ### Table operations (R170) -/

/-- From `s` to `t` the span law is kept. -/
def KeepsSpans (s t : State) : Prop := spansSound s → spansSound t

theorem keepsSpans_of_same {s t : State} (h : spansOf t.store.dyns = spansOf s.store.dyns) : KeepsSpans s t :=
  spansSound_of_same h

@[simp] theorem keepsSpans_idle (s : State) : Leads KeepsSpans s (idle s) := by
  rintro t ⟨⟩
  exact id

@[simp] theorem keepsSpans_settle (s t : State) : KeepsSpans s (settle t) ↔ KeepsSpans s t :=
  imp_congr_right fun _ => spansSound_congr (by simp)

theorem keepsSpans_done {s t : State} (h : KeepsSpans s t) : Leads KeepsSpans s (done t) := by
  simpa using h

/-- A grant only puts the operation in hand, so the completion alone can change a room record. -/
theorem runForm_keepsSpans {form : OpForm} {grant complete : State → Option State}
    (hg : ∀ s t, grant s = some t → t.store = s.store) (hc : ∀ s t, complete s = some t → KeepsSpans s t) (s : State) :
    Leads KeepsSpans s (runForm form grant complete s) := by
  unfold runForm
  cases form
  all_goals dsimp only
  all_goals split
  · next t h => exact keepsSpans_done (keepsSpans_of_same (by rw [hg s t h]))
  · exact keepsSpans_idle s
  · next t h => exact keepsSpans_done (hc s t h)
  · exact keepsSpans_idle s
  · next t h =>
    obtain ⟨g, h1, h2⟩ := Option.bind_eq_some_iff.1 h
    exact keepsSpans_done fun hs => hc _ t h2 (spansSound_of_same (by simp [hg s g h1]) hs)
  · exact keepsSpans_idle s

theorem finishOp_keepsSpans {eff : PortOp → Option (State → State)}
    (he : ∀ op f, eff op = some f → ∀ s, KeepsSpans s (f s)) (s t : State) (h : finishOp eff s = some t) :
    KeepsSpans s t := by
  obtain ⟨-, op, f, -, hf, rfl⟩ := finishOp_some h
  exact fun hs => he op f hf _ (spansSound_of_same (by simp) hs)

theorem grantSimple_store {r : Requester} {op : PortOp} {ready : State → Bool} (s t : State)
    (h : grantSimple r op ready s = some t) : t.store = s.store := by
  obtain ⟨-, -, rfl⟩ := grantSimple_some h
  simp

theorem grantMinibar_store {sel : MinibarWork → Option PortOp} (s t : State) (h : grantMinibar sel s = some t) :
    t.store = s.store := by
  unfold grantMinibar at h
  repeat' split at h
  · cases h
  · obtain ⟨op, -, rfl⟩ := Option.map_eq_some_iff.1 h
    simp
  · cases h

theorem grantIssue_store {sel : IssueWork → Option PortOp} (s t : State) (h : grantIssue sel s = some t) :
    t.store = s.store := by
  unfold grantIssue at h
  repeat' split at h
  · cases h
  · obtain ⟨op, -, rfl⟩ := Option.map_eq_some_iff.1 h
    simp
  · cases h

section
variable {s : State} {form : OpForm} {eff : PortOp → Option (State → State)}

/-- The operations granted to the Minibar Engine. -/
theorem minibarOperation_keepsSpans {sel : MinibarWork → Option PortOp}
    (he : ∀ op f, eff op = some f → ∀ s, KeepsSpans s (f s)) :
    Leads KeepsSpans s (runForm form (grantMinibar sel) (finishOp eff) s) :=
  runForm_keepsSpans grantMinibar_store (finishOp_keepsSpans he) s

/-- The operations granted to the Issue Unit. -/
theorem issueOperation_keepsSpans {sel : IssueWork → Option PortOp}
    (he : ∀ op f, eff op = some f → ∀ s, KeepsSpans s (f s)) :
    Leads KeepsSpans s (runForm form (grantIssue sel) (finishOp eff) s) :=
  runForm_keepsSpans grantIssue_store (finishOp_keepsSpans he) s

/-- The operations granted for a request, the loader and the pruner. -/
theorem simpleOperation_keepsSpans {r : Requester} {op : PortOp} {ready : State → Bool}
    (he : ∀ op f, eff op = some f → ∀ s, KeepsSpans s (f s)) :
    Leads KeepsSpans s (runForm form (grantSimple r op ready) (finishOp eff) s) :=
  runForm_keepsSpans grantSimple_store (finishOp_keepsSpans he) s

theorem execDecision_keepsSpans (form : OpForm) (s : State) : Leads KeepsSpans s (execDecision form s) := by
  refine runForm_keepsSpans (fun s t h => ?_) (fun s t h => ?_) s
  · unfold grantDecision at h
    repeat' split at h
    · cases h
    · obtain rfl := Option.some.inj h
      simp
    · cases h
  · unfold finishDecision at h
    repeat' split at h
    · obtain rfl := Option.some.inj h
      exact fun hs => completeDecision_spansSound _ (spansSound_of_same (by simp) hs)
    · cases h
    · cases h

theorem execPrivacyWrite_keepsSpans (form : OpForm) (s : State) : Leads KeepsSpans s (execPrivacyWrite form s) := by
  refine runForm_keepsSpans (fun s t h => ?_) (fun s t h => ?_) s
  · unfold grantPrivacy at h
    repeat' split at h
    · cases h
    · obtain rfl := Option.some.inj h
      simp
    · cases h
  · unfold finishPrivacy at h
    repeat' split at h
    · obtain rfl := Option.some.inj h
      simp [keepsSpans_of_same]
    · cases h
    · cases h

end

/-! ### Loads (R173) -/

section
variable {s t : State}

theorem postParsed_keepsSpans {α : Type} {n i : Nat} {e : Option α} {place : Fin n → α → State}
    (hp : ∀ j x, KeepsSpans s (place j x)) (h : postParsed n i e place = .ok t) : KeepsSpans s t := by
  unfold postParsed at h
  repeat' split at h
  · cases h
  · cases h; exact hp _ _
  · cases h

theorem postAt_keepsSpans {table : TableId} {i : Nat} {bytes : List Byte} (h : postAt s table i bytes = .ok t) :
    KeepsSpans s t := by
  unfold postAt at h
  cases table
  case room =>
    dsimp only at h
    split at h
    · unfold postRoom at h
      repeat' split at h
      · cases h
      · cases h
      · cases h; exact takeRoom_spansSound _ _ _
    · cases h
  all_goals exact postParsed_keepsSpans (fun j x => by simp [keepsSpans_of_same]) h

theorem examine_keepsSpans {w : LoadWindow} {e : List Byte} (h : examine s w e = .ok t) : KeepsSpans s t := by
  unfold examine at h
  repeat' split at h
  · cases h; next hp => exact postAt_keepsSpans hp
  all_goals cases h

theorem execPost_keepsSpans (s : State) : Leads KeepsSpans s (execPost s) := by
  have post : ∀ w ld e es, KeepsSpans s (postNext s w ld e es) := fun w ld e es => by
    unfold postNext
    split
    · next h => exact fun hs => spansSound_of_same (by simp) (examine_keepsSpans h hs)
    · simp [keepsSpans_of_same]
  unfold execPost
  repeat' split
  · exact keepsSpans_done (post _ _ _ _)
  all_goals exact keepsSpans_idle s

/-! ### Stop work, resets and the end of CHECKING (R68, R203, R206, R208) -/

theorem stopEarly_keepsSpans {sel : IssueCtx → Bool} {r : FailReason} (h : stopEarly sel r s = some t) :
    KeepsSpans s t := by
  have session : ∀ k, KeepsSpans s (stopSession r s k) := fun k => stopSession_spansSound r k
  unfold stopEarly at h
  repeat' split at h
  all_goals cases h
  all_goals simp [session, keepsSpans_of_same]

theorem warmStep_keepsSpans {straps : BitVec 5} (h : warmStep s straps = some t) : KeepsSpans s t := by
  have reset : KeepsSpans s (resetPart (writeMarker s) .warm straps s.override.requested) := fun hs =>
    resetPart_spansSound _ _ _ (spansSound_of_same (by simp) hs)
  unfold warmStep at h
  split at h
  · cases h; exact keepsSpans_of_same rfl
  · split at h
    · cases h; exact reset
    · cases h; exact reset
    · exact stopEarly_keepsSpans h

theorem failStep_keepsSpans (h : failStep s = some t) : KeepsSpans s t := by
  unfold failStep at h
  split at h
  · split at h
    · cases h; split <;> simp [keepsSpans_of_same]
    · split at h
      · cases h; simp [keepsSpans_of_same]
      · cases h
    · exact stopEarly_keepsSpans h
  · cases h; simp [keepsSpans_of_same]

theorem execRestartBegin_keepsSpans (straps : BitVec 5) (s : State) :
    Leads KeepsSpans s (execRestartBegin straps s) := by
  have cold : KeepsSpans s (coldReset s straps) := fun _ =>
    resetPart_spansSound _ _ _ (clearedStore_spansSound rfl)
  unfold execRestartBegin
  repeat' split
  · exact keepsSpans_idle s
  · exact keepsSpans_done cold
  · next h => exact keepsSpans_done (warmStep_keepsSpans h)
  all_goals exact keepsSpans_idle s

theorem endChecking_keepsSpans (s : State) : KeepsSpans s (endChecking s) := by
  unfold endChecking
  repeat' split
  · simp [keepsSpans_of_same]
  · simp [keepsSpans_of_same]
  · refine fun _ => clearedStore_spansSound ?_
    unfold clearStore
    dsimp only
    split <;> simp

end

/-! ### Every step -/

/-- A delivered expiry. -/
theorem expiry_keepsSpans {s : State} {n : Node} {k : DeadlineKind} {f : State → State}
    (hf : ∀ t, (f t).store = t.store) :
    Leads KeepsSpans s (match takeExpiry s n k with | some t => done (f t) | none => idle s) := by
  split
  · next t h =>
    obtain ⟨-, -, rfl⟩ := takeExpiry_some h
    exact keepsSpans_done (keepsSpans_of_same (by simp [hf]))
  · simp

/-- A command that may change a room's generations or occupancy has a lemma of its own; any other one leaves them alone, as the
frames of what it runs say. -/
theorem exec_keepsSpans (c : Instr) (s : State) : Leads KeepsSpans s (exec c s) := by
  cases c
  case powerOnReset straps =>
    refine keepsSpans_done fun hs => resetPart_spansSound _ _ _ ?_
    split
    · exact clearedStore_spansSound rfl
    · exact hs
  case pinReset straps =>
    simp only [exec, execPinReset]
    split
    · exact keepsSpans_done (resetPart_spansSound _ _ _)
    · simp
  case restartBegin straps => exact execRestartBegin_keepsSpans straps s
  case checkingEnd =>
    simp only [exec, execCheckingEnd]
    split
    · exact keepsSpans_done (endChecking_keepsSpans s)
    · simp
  case supplyFail =>
    simp only [exec, execSupplyFail]
    repeat' split
    · next h => exact keepsSpans_done (failStep_keepsSpans h)
    all_goals simp
  case decision form => exact execDecision_keepsSpans form s
  case privacyWrite form => exact execPrivacyWrite_keepsSpans form s
  case issueClosing form =>
    exact issueOperation_keepsSpans (eff := effClosing) fun | .closing k, _, rfl, _ => closeSession_spansSound k true
  case roomCheckout form =>
    exact simpleOperation_keepsSpans (eff := effCheckout) fun
      | .checkout, _, rfl, _ => by
        dsimp only
        split
        · exact checkoutRoom_spansSound _
        · exact id
  case roomBump form =>
    exact simpleOperation_keepsSpans (eff := effBump) fun
      | .bump, _, rfl, _ => by
        dsimp only
        split
        · exact bumpRoom_spansSound _
        · exact id
  case post => exact execPost_keepsSpans s
  case relatchExpiryOperation form =>
    exact minibarOperation_keepsSpans (eff := effRelatch) fun | .relatch _, _, rfl, _ => by simp [keepsSpans_of_same]
  case returnExpiryOperation form =>
    exact minibarOperation_keepsSpans (eff := effReturn) fun | .ret _, _, rfl, _ => by simp [keepsSpans_of_same]
  case reportItemOperation form =>
    exact minibarOperation_keepsSpans (eff := effItem) fun | .item _ _ _, _, rfl, _ => by simp [keepsSpans_of_same]
  case forcedCommit form =>
    exact minibarOperation_keepsSpans (eff := effForced) fun | .forced _, _, rfl, _ => by simp [keepsSpans_of_same]
  case minibarBringIntoLine form =>
    exact minibarOperation_keepsSpans (eff := effLineUp) fun | .lineUp _, _, rfl, _ => by simp [keepsSpans_of_same]
  case issue form =>
    exact issueOperation_keepsSpans (eff := effJudge) fun | .judge, _, rfl, _ => by simp [keepsSpans_of_same]
  case composition form =>
    exact issueOperation_keepsSpans (eff := effComposition) fun
      | .composition _, _, rfl, _ => by simp [keepsSpans_of_same]
  case minibarSettle form =>
    exact simpleOperation_keepsSpans (eff := effSettle) fun
      | .settle, _, rfl, _ => by dsimp only; split <;> simp [keepsSpans_of_same]
  case denyAdd form =>
    exact simpleOperation_keepsSpans (eff := effDenyAdd) fun
      | .denyAdd, _, rfl, _ => by dsimp only; split <;> simp [keepsSpans_of_same]
  case denyRemove form =>
    exact simpleOperation_keepsSpans (eff := effDenyRemove) fun
      | .denyRemove, _, rfl, _ => by dsimp only; split <;> simp [keepsSpans_of_same]
  case pruneStep form =>
    exact simpleOperation_keepsSpans (eff := effPrune) fun | .prune, _, rfl, _ => by simp [keepsSpans_of_same]
  case drain form =>
    exact simpleOperation_keepsSpans (eff := effDrain) fun | .drain, _, rfl, _ => by simp [keepsSpans_of_same]
  case status form =>
    exact simpleOperation_keepsSpans (eff := effStatus) fun | .status, _, rfl, _ => by simp [keepsSpans_of_same]
  case readEntries form =>
    have whole : Leads KeepsSpans s
        (runForm form (grantSimple .requestUnit .readEntries (requestAsks .readEntries)) (finishOp effReadEntries) s) :=
      simpleOperation_keepsSpans fun
        | .readEntries, _, rfl, _ => by dsimp only; split <;> simp [keepsSpans_of_same]
    simp only [exec, execReadEntries]
    repeat' split
    · exact whole
    all_goals simp [keepsSpans_of_same]
  case relockExpiry n => exact expiry_keepsSpans (f := fun t => relockExpired t n) fun t => by simp
  case heldExpiry n => exact expiry_keepsSpans (f := fun t => heldExpired t n) fun t => by simp
  case relatchExpiry n => exact expiry_keepsSpans (f := fun t => addMinibarWork t (.relatch n)) fun t => by simp
  case returnExpiry n => exact expiry_keepsSpans (f := fun t => addMinibarWork t (.ret n)) fun t => by simp
  case issueTimeoutExpiry n => exact expiry_keepsSpans (f := fun t => endNodeSession t n .timeout) fun t => by simp
  case pollSlot | callSlot | commandSlot | answerReceived | answerRestart | answerWindowClose | stretchLimitExceeded |
    commandDelivered | commandNotDelivered | pollFrameNotDelivered | lineStuck | lineFree | enterHeld =>
    simp only [exec, execPollSlot, execCallSlot, execCommandSlot, execAnswerReceived, execAnswerRestart,
      execAnswerWindowClose, execStretchLimitExceeded, execCommandDelivered, execCommandNotDelivered,
      execPollFrameNotDelivered, execLineStuck, execLineFree, execEnterHeld]
    repeat' split
    all_goals simp [keepsSpans_of_same]
  case lineMode | nodePassDown | issueCancel | journalPush | loadWindow | load | restart | go | setClock | setOverride =>
    simp only [exec, execLineMode, execNodePassDown, execIssueCancel, execJournalPush, execLoadWindow, execLoad,
      execRestart, execGo, execSetClock, execSetOverride]
    repeat' split
    all_goals simp [keepsSpans_of_same]
  case tickEvent | firePinChange | minuteEvent | clockCountWithoutTick | vddFall | vbakOutOfRange =>
    simp only [exec, execTickEvent, execFirePinChange, execMinuteEvent, execClockCountWithoutTick, execVddFall,
      execVbakOutOfRange]
    repeat' split
    all_goals simp [keepsSpans_of_same]
  case upstreamFrameReceived | downstreamFrameReceived | frameEndedShort | requestTake | upstreamGrant |
    upstreamFrameFinished | relayDownSend | relayDownFinished | downstreamAbsent | downstreamPresent =>
    simp only [exec, execUpstreamFrameReceived, execDownstreamFrameReceived, execFrameEndedShort, execRequestTake,
      execUpstreamGrant, execUpstreamFrameFinished, execRelayDownSend, execRelayDownFinished, execDownstreamAbsent,
      execDownstreamPresent]
    repeat' split
    all_goals simp [keepsSpans_of_same]

/-- Settles O53: whatever changes a room's generations or occupancy leaves a span of 0 where the room is VACANT and of 1 to 16
where it is OCCUPIED. -/
theorem stepsKeepSpans : Obligations.StepsKeepSpans := by
  intro s t hs h
  rcases hp : s.pending with _ | ⟨c, rest⟩
  · rw [step_nil hp] at h
    cases h; exact hs
  · rw [step_cons hp] at h
    exact exec_keepsSpans c _ t h hs

end Sys2Proof.Machine
end

section
/-!
POST of a CONFIG, ZONE, PROFILE, CLASS or PRICE entry (04_wing_tables.md, R56, R59, R60; 10_table_store.md, R173, R177, R178): the
entry its bytes give, each field brought into its range, and the post of an entry that has no effect but its reading.
-/

namespace Sys2Proof.Machine

/-! ### The bytes of an entry (R55, R56, R59, R60) -/

theorem half_toNat (a b : Byte) : (half a b).toNat = a.toNat * 256 + b.toNat := by
  have ha := a.isLt
  have hb := b.isLt
  rw [half_eq, BitVec.toNat_ofNat]
  omega

/-- A two-byte field of an entry brought into its range. -/
def clampedAt (e : List Byte) (lo hi k : Nat) : Half := BitVec.ofNat 16 (max lo (min hi (twoAt e k)))

/-- The window of an entry's bytes (R59). -/
def windowAt (e : List Byte) (k : Nat) : Window :=
  { openAt := clampedAt e 0 1439 k, closeAt := clampedAt e 0 1439 (k + 2) }

/-- The bit rate of a code from 1 to 3 (R211). -/
def rateNamed (b : Byte) : BitRate := if b.toNat = 1 then .r9600 else if b.toNat = 2 then .r19200 else .r38400

theorem rateOf_named {b : Byte} (h : 1 ≤ b.toNat ∧ b.toNat ≤ 3) : rateOf b = some (rateNamed b) := by
  have hb : b.toNat = 1 ∨ b.toNat = 2 ∨ b.toNat = 3 := by omega
  rcases hb with hb | hb | hb
  all_goals simp [rateOf, rateNamed, hb]

theorem rateOf_unnamed {b : Byte} (h : b.toNat = 0 ∨ 3 < b.toNat) : rateOf b = none := by
  unfold rateOf
  split
  · omega
  · omega
  · omega
  · rfl

/-- The CONFIG entry of eleven bytes (R56). -/
def configAt (e : List Byte) : ConfigEntry :=
  { siteCode := BitVec.ofNat 16 (twoAt e 0)
    grace := clampedAt e 0 1439 2
    returnWindow := clampedAt e 0 6000 4
    stretch := BitVec.ofNat 8 (max 1 (min 50 (e.getD 6 0).toNat))
    rates :=
      #v[rateNamed (e.getD 7 0), rateNamed (e.getD 8 0), rateNamed (e.getD 9 0), rateNamed (e.getD 10 0)] }

section
variable {e : List Byte}

theorem configBytes_of_length (hl : e.length = 11) :
    ∃ k0 k1 g0 g1 w0 w1 st r0 r1 r2 r3, e = [k0, k1, g0, g1, w0, w1, st, r0, r1, r2, r3] := by
  match e, hl with
  | [k0, k1, g0, g1, w0, w1, st, r0, r1, r2, r3], _ => exact ⟨k0, k1, g0, g1, w0, w1, st, r0, r1, r2, r3, rfl⟩

theorem parseConfig_named (hl : e.length = 11)
    (h : ∀ k, k < 4 → 1 ≤ (e.getD (7 + k) 0).toNat ∧ (e.getD (7 + k) 0).toNat ≤ 3) :
    parseConfig e = some (configAt e) := by
  obtain ⟨k0, k1, g0, g1, w0, w1, st, r0, r1, r2, r3, rfl⟩ := configBytes_of_length hl
  have h0 : rateOf r0 = some (rateNamed r0) := rateOf_named (h 0 (by decide))
  have h1 : rateOf r1 = some (rateNamed r1) := rateOf_named (h 1 (by decide))
  have h2 : rateOf r2 = some (rateNamed r2) := rateOf_named (h 2 (by decide))
  have h3 : rateOf r3 = some (rateNamed r3) := rateOf_named (h 3 (by decide))
  simp only [parseConfig, h0, h1, h2, h3, clamp, half_toNat, half_eq k0 k1]
  rfl

/-- A rate code that names no rate (R56). -/
theorem parseConfig_unnamed (hl : e.length = 11)
    (h : ∃ k, k < 4 ∧ ((e.getD (7 + k) 0).toNat = 0 ∨ 3 < (e.getD (7 + k) 0).toNat)) : parseConfig e = none := by
  obtain ⟨k0, k1, g0, g1, w0, w1, st, r0, r1, r2, r3, rfl⟩ := configBytes_of_length hl
  have hnone : rateOf r0 = none ∨ rateOf r1 = none ∨ rateOf r2 = none ∨ rateOf r3 = none := by
    obtain ⟨k, hk, hcode⟩ := h
    have hrate := rateOf_unnamed hcode
    match k, hk with
    | 0, _ => exact .inl hrate
    | 1, _ => exact .inr (.inl hrate)
    | 2, _ => exact .inr (.inr (.inl hrate))
    | 3, _ => exact .inr (.inr (.inr hrate))
  dsimp only [parseConfig]
  split
  · next h0 h1 h2 h3 => simp [h0, h1, h2, h3] at hnone
  · rfl

theorem parseWindow_eq (hl : e.length = 4) : parseWindow e = some (windowAt e 0) := by
  match e, hl with
  | [o0, o1, c0, c1], _ =>
    simp only [parseWindow, clamp, half_toNat]
    rfl

theorem flagOf_plain {b : Byte} (h : b.toNat ≤ 1) : flagOf b = decide (b = 1) := by
  have hb : b.toNat = 0 ∨ b.toNat = 1 := by omega
  rcases hb with hb | hb
  · rw [show b = 0 from BitVec.eq_of_toNat_eq hb]
    rfl
  · rw [show b = 1 from BitVec.eq_of_toNat_eq hb]
    rfl

theorem parseProfile_eq (hl : e.length = 6) (hf : (e.getD 5 0).toNat ≤ 1) :
    parseProfile e =
      some
        { weekdays := BitVec.ofNat 7 (e.getD 0 0).toNat, shift := windowAt e 1
          lockdownAccess := decide (e.getD 5 0 = 1) } := by
  match e, hl, hf with
  | [w, o0, o1, c0, c1, f], _, hf =>
    have hflag : flagOf f = decide (f = 1) := flagOf_plain hf
    have hdays : w.extractLsb' 0 7 = BitVec.ofNat 7 w.toNat := by simp [BitVec.extractLsb']
    simp only [parseProfile, clamp, half_toNat, hflag, hdays]
    rfl

theorem parseClass_eq (hl : e.length = 3) :
    parseClass e =
      some
        { openTime := BitVec.ofNat 8 (max 1 (min 250 (e.getD 0 0).toNat)), heldLimit := clampedAt e 10 6000 1 } := by
  match e, hl with
  | [o, h0, h1], _ =>
    simp only [parseClass, clamp, half_toNat]
    rfl

theorem parsePrice_eq (hl : e.length = 2) : parsePrice e = some (BitVec.ofNat 16 (twoAt e 0)) := by
  match e, hl with
  | [a0, a1], _ =>
    simp only [parsePrice, half_eq]
    rfl

end

/-! ### An entry whose effects end with its reading (R173, R174) -/

section
variable {s : State} {w : LoadWindow} {ld : LoadInHand} {i : Nat} {e : List Byte} {es : List (List Byte)}

theorem postParsed_ok {α : Type} {n : Nat} {x : α} {place : Fin n → α → State} (k : Fin n) :
    postParsed n k.val (some x) place = .ok (place k x) := by
  simp [postParsed, k.isLt]

/-- An entry that its post only puts in the post buffer: read from then on, and told of when it is the last (R174, R178). -/
theorem pushPost_taken {p : PostEntry} (hx : examining s w ld i e es) (hp : postAt s w.table i e = .ok (pushPost s p)) :
    ∃ t, exec .post s = .next t ∧ unchangedBut [.loader, .trunk] s t ∧ postRead s t p ∧
      t.loader =
        { s.loader with
          buffer := s.loader.buffer ++ [p], cursor := cursorPast w i, load := loadLeft es { ld with taken := ld.taken + 1 } } ∧
      trunkIs t (loadTold s.trunk es { ld with taken := ld.taken + 1 } (cursorPast w i)) := by
  have hc : s.loader.cursor = .at i := hx.2.2.2.2.2.2
  have hex : examine s w e = .ok (pushPost s p) := by simp [examine, hc, hp]
  have hpush : unchangedBut [.loader, .trunk] s (pushPost s p) := by
    rw [unchangedBut_iff]
    simp
  obtain ⟨t, ht, hpost⟩ := postTaken hx hex rfl
  have hstore : t.store = s.store := by
    obtain ⟨-, -, -, -, -, hstore⟩ := hpost.kept
    simpa using hstore
  refine ⟨t, ht, hpost.same (by decide) (by decide) hpush, ?_, hpost.loader, hpost.told (by simp)⟩
  exact postRead_of_buffer (by rw [hpost.loader]) (tablesSame_of_store hstore)

end

/-- Settles O37: each table's entry is the one its bytes give, clamped, and a CONFIG entry with a rate code that names no rate is
refused. -/
theorem postClampsZoneAndMovesCursor : Obligations.PostClampsZoneAndMovesCursor := by
  intro s w ld e es i hx takes within window rateCode rate
  refine ⟨fun ht hi hl hr => pushPost_taken hx ?_, fun ht hi hl hr => ?_, fun k ht hi hl => pushPost_taken hx ?_,
    fun k ht hi hl hf => pushPost_taken hx ?_, fun k ht hi hl => pushPost_taken hx ?_,
    fun k ht hi hl => pushPost_taken hx ?_⟩
  · rw [ht, hi, postAt, parseConfig_named hl hr]
    exact postParsed_ok (0 : Fin 1)
  · subst hi
    refine postRefused_at (i := (0 : Slot)) hx ?_
    rw [ht, postAt, parseConfig_unnamed hl hr]
    rfl
  · rw [ht, hi, postAt, parseWindow_eq hl]
    exact postParsed_ok k
  · rw [ht, hi, postAt, parseProfile_eq hl hf]
    exact postParsed_ok k
  · rw [ht, hi, postAt, parseClass_eq hl]
    exact postParsed_ok k
  · rw [ht, hi, postAt, parsePrice_eq hl]
    exact postParsed_ok k

end Sys2Proof.Machine
end

section
/-!
What is written as bytes (13_card_line_and_trunk_formats.md, R182, R183, R209, R211): the fields, most significant byte first, and
each format read back from its own bytes.
-/

namespace Sys2Proof.Machine

/-! ### Fields -/

theorem be2_eq (v : Half) : be2 v = [BitVec.ofNat 8 (v.toNat / 256), BitVec.ofNat 8 v.toNat] := by
  have hv := v.isLt
  simp only [be2, List.cons.injEq, and_true]
  constructor
  all_goals apply BitVec.eq_of_toNat_eq
  all_goals simp [BitVec.extractLsb'_toNat, Nat.shiftRight_eq_div_pow]

theorem num2_eq (n : Nat) : num2 n = [BitVec.ofNat 8 (n / 256), BitVec.ofNat 8 n] := by
  rw [num2, be2_eq, BitVec.toNat_ofNat]
  simp only [List.cons.injEq, and_true]
  constructor
  all_goals apply BitVec.eq_of_toNat_eq
  all_goals simp only [BitVec.toNat_ofNat]
  all_goals omega

/-! A byte appended to the bytes above it. -/

theorem half_be2 (v : Half) : half (v.extractLsb' 8 8) (v.extractLsb' 0 8) = v :=
  (BitVec.extractLsb'_append_extractLsb'_eq_extractLsb' (start₁ := 0) (len₁ := 8) (len₂ := 8) rfl).trans
    BitVec.extractLsb'_eq_self

theorem minute3_be3 (v : Minute) : minute3 (v.extractLsb' 16 8) (v.extractLsb' 8 8) (v.extractLsb' 0 8) = v := by
  have high : v.extractLsb' 16 8 ++ v.extractLsb' 8 8 = v.extractLsb' 8 16 :=
    BitVec.extractLsb'_append_extractLsb'_eq_extractLsb' rfl
  have all : v.extractLsb' 8 16 ++ v.extractLsb' 0 8 = v.extractLsb' 0 24 :=
    BitVec.extractLsb'_append_extractLsb'_eq_extractLsb' rfl
  exact (congrArg (· ++ v.extractLsb' 0 8) high).trans (all.trans BitVec.extractLsb'_eq_self)

theorem word4_be4 (v : Serial) :
    word4 (v.extractLsb' 24 8) (v.extractLsb' 16 8) (v.extractLsb' 8 8) (v.extractLsb' 0 8) = v := by
  have two : v.extractLsb' 24 8 ++ v.extractLsb' 16 8 = v.extractLsb' 16 16 :=
    BitVec.extractLsb'_append_extractLsb'_eq_extractLsb' rfl
  have three : v.extractLsb' 16 16 ++ v.extractLsb' 8 8 = v.extractLsb' 8 24 :=
    BitVec.extractLsb'_append_extractLsb'_eq_extractLsb' rfl
  have all : v.extractLsb' 8 24 ++ v.extractLsb' 0 8 = v.extractLsb' 0 32 :=
    BitVec.extractLsb'_append_extractLsb'_eq_extractLsb' rfl
  have high := (congrArg (· ++ v.extractLsb' 8 8) two).trans three
  exact (congrArg (· ++ v.extractLsb' 0 8) high).trans (all.trans BitVec.extractLsb'_eq_self)

theorem flagOf_flagByte (b : Bool) : flagOf (flagByte b) = b := by
  cases b <;> rfl

/-- A value in its range is brought nowhere (R55). -/
theorem clamp_within {w lo hi : Nat} {v : BitVec w} (h1 : lo ≤ v.toNat) (h2 : v.toNat ≤ hi) : clamp lo hi v = v := by
  rw [clamp, Nat.min_eq_right h2, Nat.max_eq_right h1, BitVec.ofNat_toNat, BitVec.setWidth_eq]

theorem toList_look {α : Type} {n : Nat} (v : Vector α n) : v.toList = (List.finRange n).map (look v) := by
  apply List.ext_getElem
  · simp
  · intro i h1 h2
    simp [look, Vector.get_eq_getElem]

/-! ### Trunk frames and card grants (R182, R183, R209) -/

theorem receive_frameBytes {f : Frame} (hl : f.body.length ≤ 255) (hk : frameKind (frameCode f.kind) = f.kind) :
    receive (frameBytes f) = .good f := by
  have hlen : (byteOf f.body.length).toNat = f.body.length := by
    rw [byteOf, BitVec.toNat_ofNat]
    omega
  obtain ⟨check, hcheck⟩ : ∃ c, c = BitVec.ofNat 16 (65535 - byteSum ([frameCode f.kind, f.dest, f.source, f.tag,
    byteOf f.body.length] ++ f.body) % 65536) := ⟨_, rfl⟩
  have hbytes : frameBytes f = frameCode f.kind :: f.dest :: f.source :: f.tag :: byteOf f.body.length ::
      (f.body ++ [check.extractLsb' 8 8, check.extractLsb' 0 8]) := by
    simp only [frameBytes, num2, be2, ← hcheck]
    rfl
  have hsum : (byteSum (frameCode f.kind :: f.dest :: f.source :: f.tag :: byteOf f.body.length :: f.body) +
      check.toNat) % 65536 = 65535 := by
    rw [hcheck, BitVec.toNat_ofNat]
    simp only [List.cons_append, List.nil_append]
    omega
  rw [hbytes]
  simp only [receive, hlen, List.take_left, List.drop_left, half_be2, hsum, if_true, hk]

theorem parseGrant_grantBytes (g : Grant) : parseGrant (grantBytes g) = some g := by
  simp only [grantBytes, be2, be3, be4, List.cons_append, List.nil_append, parseGrant, half_be2, minute3_be3, word4_be4]

/-! ### Table entries (R56, R57, R59 to R61, R67, R211) -/

theorem rateOf_rateCode (r : BitRate) : rateOf (rateCode r) = some r := by
  cases r <;> rfl

theorem configBytes_eq (e : ConfigEntry) :
    configBytes e =
      be2 e.siteCode ++ be2 e.grace ++ be2 e.returnWindow ++
        [e.stretch, rateCode (look e.rates 0), rateCode (look e.rates 1), rateCode (look e.rates 2),
          rateCode (look e.rates 3)] := by
  simp only [configBytes, toList_look]
  rfl

theorem parseConfig_configBytes {e : ConfigEntry} (hg : e.grace.toNat ≤ 1439) (hw : e.returnWindow.toNat ≤ 6000)
    (h1 : 1 ≤ e.stretch.toNat) (h50 : e.stretch.toNat ≤ 50) : parseConfig (configBytes e) = some e := by
  have hrates : #v[look e.rates 0, look e.rates 1, look e.rates 2, look e.rates 3] = e.rates := by
    apply store_ext
    intro i
    fin_cases i <;> rfl
  simp only [configBytes_eq, be2, List.cons_append, List.nil_append, parseConfig, half_be2, rateOf_rateCode,
    clamp_within (Nat.zero_le _) hg, clamp_within (Nat.zero_le _) hw, clamp_within h1 h50, hrates]

/-- The entries a DOOR table holds: the fields that a kind does not use are 0 (R57). -/
def doorPlain (e : DoorEntry) : Prop :=
  match e.kind with
  | .unused => e = .cleared
  | .roomDoor => e.room ≠ 0
  | .commonGate => e.room = 0
  | .minibar => e.room ≠ 0
  | .encoder => e = { DoorEntry.cleared with kind := .encoder }

theorem parseDoor_plain {bs : List Byte} {e : DoorEntry} (h : parseDoor bs = some e) : doorPlain e := by
  have hl : bs.length = 5 := by
    unfold parseDoor at h
    split at h
    · rfl
    · cases h
  have placed : ∀ {kind room}, doorPlaced bs kind room = some e → e.kind = kind ∧ e.room = room := fun hp => by
    unfold doorPlaced at hp
    split at hp
    · cases hp; exact ⟨rfl, rfl⟩
    · cases hp
  rw [parseDoor_eq hl] at h
  unfold doorPlain
  split at h
  · cases h; rfl
  · split at h
    · cases h
    · next hr => obtain ⟨hk, hroom⟩ := placed h; rw [hk, hroom]; exact hr
  · obtain ⟨hk, hroom⟩ := placed h; rw [hk, hroom]
  · split at h
    · cases h
    · next hr => obtain ⟨hk, hroom⟩ := placed h; rw [hk, hroom]; exact hr
  · cases h; rfl
  · cases h

theorem parseDoor_doorBytes {e : DoorEntry} (h : doorPlain e) : parseDoor (doorBytes e) = some e := by
  have hz : (byteOf e.zone.val).toNat = e.zone.val := by rw [byteOf, BitVec.toNat_ofNat]; omega
  have hc : (byteOf e.cls.val).toNat = e.cls.val := by rw [byteOf, BitVec.toNat_ofNat]; omega
  obtain ⟨kind, room, zone, cls⟩ := e
  cases kind
  case unused | encoder =>
    simp only [doorPlain] at h
    rw [h]
    rfl
  case roomDoor | minibar =>
    have hroom : ¬ room = 0#16 := h
    simp only at hz hc
    simp [doorBytes, be2, parseDoor, half_be2, nodeKindCode, hz, hc, hroom]
  case commonGate =>
    have hroom : room = 0#16 := h
    simp only at hz hc
    simp [doorBytes, be2, parseDoor, nodeKindCode, hz, hc, hroom]

theorem parseWindow_windowBytes {w : Window} (ho : w.openAt.toNat ≤ 1439) (hc : w.closeAt.toNat ≤ 1439) :
    parseWindow (windowBytes w) = some w := by
  simp only [windowBytes, be2, List.cons_append, List.nil_append, parseWindow, half_be2,
    clamp_within (Nat.zero_le _) ho, clamp_within (Nat.zero_le _) hc]

theorem parseProfile_profileBytes {p : ProfileEntry} (ho : p.shift.openAt.toNat ≤ 1439)
    (hc : p.shift.closeAt.toNat ≤ 1439) : parseProfile (profileBytes p) = some p := by
  have hdays : (p.weekdays.setWidth 8).extractLsb' 0 7 = p.weekdays := by
    have hv := p.weekdays.isLt
    apply BitVec.eq_of_toNat_eq
    simp only [BitVec.extractLsb'_toNat, BitVec.toNat_setWidth, Nat.shiftRight_zero]
    omega
  simp only [profileBytes, windowBytes, be2, List.cons_append, List.nil_append, parseProfile, half_be2, flagOf_flagByte,
    hdays, clamp_within (Nat.zero_le _) ho, clamp_within (Nat.zero_le _) hc]

theorem parseClass_classBytes {e : ClassEntry} (h1 : 1 ≤ e.openTime.toNat) (h250 : e.openTime.toNat ≤ 250)
    (h10 : 10 ≤ e.heldLimit.toNat) (h6000 : e.heldLimit.toNat ≤ 6000) : parseClass (classBytes e) = some e := by
  simp only [classBytes, be2, List.cons_append, List.nil_append, parseClass, half_be2, clamp_within h1 h250,
    clamp_within h10 h6000]

theorem parsePrice_be2 (v : Half) : parsePrice (be2 v) = some v := by
  simp only [be2, parsePrice, half_be2]

theorem nodeByte?_nodeByte (n : Node) : nodeByte? (nodeByte n) = some n := by
  obtain ⟨l, a⟩ := n
  have hl := l.isLt
  have ha := a.isLt
  have hn : (nodeByte { line := l, addr := a }).toNat = l.val * 32 + a.val := by
    simp only [nodeByte, byteOf, BitVec.toNat_ofNat]
    omega
  rw [nodeByte_eq, hn, if_pos (by omega)]
  simp only [nodeNumbered, hn, Option.some.injEq, Node.mk.injEq, Fin.ext_iff]
  omega

theorem nodeByte?_optNodeByte (n : Option Node) : nodeByte? (optNodeByte n) = n := by
  cases n with
  | none => rfl
  | some n => exact nodeByte?_nodeByte n

theorem priceIndex_byteOf (p : Fin 64) : priceIndex (byteOf p.val) = some p := by
  have hp : (byteOf p.val).toNat = p.val := by rw [byteOf, BitVec.toNat_ofNat]; omega
  rw [priceIndex_eq, hp, if_pos p.isLt]
  simp

theorem roomBytes_eq (st : RoomStatic) (d : RoomDyn) :
    roomBytes st d =
      be2 st.number ++ [optNodeByte st.minibarNode] ++ be2 st.limit ++
        ((List.finRange 8).map fun c => byteOf (look st.prices c).val) ++
        [1, flagByte d.occupied, d.accepted, d.issued] ++ be2 (tallyOf d) ++
        [flagByte d.privacy, (d.marker.map fun k => byteOf k.val).getD 0xFF,
          (d.minibar.map fun m => minibarCode m.state).getD 0xFF,
          byteOf ((d.minibar.map fun m => m.charges.length).getD 0)] := by
  simp only [roomBytes, toList_look, List.map_map]
  rfl

theorem parseRoom_roomBytes (e : RoomStatic) (d : RoomDyn) :
    parseRoom ((roomBytes e d).take 19) =
      some (e, some { occupied := d.occupied, accepted := d.accepted, issued := d.issued, tally := tallyOf d }) := by
  have hprices : #v[look e.prices 0, look e.prices 1, look e.prices 2, look e.prices 3, look e.prices 4, look e.prices 5,
      look e.prices 6, look e.prices 7] = e.prices := by
    apply store_ext
    intro i
    fin_cases i <;> rfl
  have hindexes : priceIndexes (byteOf (look e.prices 0).val) (byteOf (look e.prices 1).val)
      (byteOf (look e.prices 2).val) (byteOf (look e.prices 3).val) (byteOf (look e.prices 4).val)
      (byteOf (look e.prices 5).val) (byteOf (look e.prices 6).val) (byteOf (look e.prices 7).val) = some e.prices := by
    rw [← hprices]
    simp only [priceIndexes, priceIndex_byteOf]
    rfl
  have hone : decide (flagByte d.occupied = 1) = d.occupied := by
    cases d.occupied <;> decide
  have hflag : (decide (flagByte d.occupied = 0) || d.occupied) = true := by
    cases d.occupied <;> decide
  have hrange : List.finRange 8 = [0, 1, 2, 3, 4, 5, 6, 7] := rfl
  simp only [roomBytes_eq, hrange, be2, List.map_cons, List.map_nil, List.cons_append, List.nil_append,
    List.take_succ_cons, List.take_zero, parseRoom, hindexes, half_be2, nodeByte?_optNodeByte, if_true, hone, hflag]

/-- Settles O52: each format is read back from its bytes, a DOOR entry once its unused fields are 0. -/
theorem formatsRoundTrip : Obligations.FormatsRoundTrip :=
  ⟨fun _ hl hk => receive_frameBytes hl hk, parseGrant_grantBytes,
    fun _ hg hw h1 h50 => parseConfig_configBytes hg hw h1 h50,
    fun _ _ h => parseDoor_doorBytes (parseDoor_plain h), parseRoom_roomBytes,
    fun _ ho hc => parseWindow_windowBytes ho hc, fun _ ho hc => parseProfile_profileBytes ho hc,
    fun _ h1 h250 h10 h6000 => parseClass_classBytes h1 h250 h10 h6000, parsePrice_be2, nodeByte?_nodeByte⟩

end Sys2Proof.Machine
end

section
/-!
READ_ENTRIES and STATUS (10_table_store.md, R174, R180; 11_trunk_and_management_requests.md, R195; R211, R212): the bytes of each
table's entry and of the status record, and the reply that carries them.
-/

namespace Sys2Proof.Machine

section
variable {s : State} {r : RequestInHand} {tb : Byte} {first : Half} {count : Byte}

/-! ### The range of a READ_ENTRIES (R180) -/

theorem tableOf_named {tab : TableId} (h : tableOf tb = some tab) : 1 ≤ tb.toNat ∧ tb.toNat ≤ 7 := by
  unfold tableOf at h
  split at h
  all_goals cases h
  all_goals omega

theorem readInRange_outside
    (h : count = 0 ∨ 8 < count.toNat ∨ tb = 0 ∨ 8 < tb.toNat ∨ ∃ t, tableOf tb = some t ∧ tableSize t ≤ first.toNat) :
    readInRange tb first count = false := by
  have unnamed : tb = 0 ∨ 8 < tb.toNat → readInRange tb first count = false := fun hno => by
    have hnone : tableOf tb = none := Option.eq_none_iff_forall_ne_some.2 fun tab ht => by
      obtain ⟨h1, h7⟩ := tableOf_named ht
      rcases hno with rfl | hno
      · cases h1
      · omega
    have hdeny : tb ≠ 8 := by
      rintro rfl
      revert hno
      decide
    simp only [readInRange, hnone, hdeny, decide_false, Bool.and_false]
  rcases h with rfl | h | h | h | ⟨t, ht, hsize⟩
  · rfl
  · simp [readInRange, Nat.not_le.2 h]
  · exact unnamed (.inl h)
  · exact unnamed (.inr h)
  · simp [readInRange, ht, Nat.not_lt.2 hsize]

theorem readInRange_table {tab : TableId} (h1 : 1 ≤ count.toNat) (h8 : count.toNat ≤ 8) (ht : tableOf tb = some tab)
    (hf : first.toNat < tableSize tab) : readInRange tb first count = true := by
  simp [readInRange, h1, h8, ht, hf]

theorem readInRange_deny (h1 : 1 ≤ count.toNat) (h8 : count.toNat ≤ 8) : readInRange 8 first count = true := by
  simp [readInRange, h1, h8, tableOf]

/-! ### The replies -/

/-- One out of range is refused without a table operation (R180). -/
theorem readEntries_refused (hask : asked s r) (hreq : r.request = .readEntries tb first count)
    (hrange : readInRange tb first count = false) :
    ∃ t, exec (.readEntries .complete) s = .next t ∧ unchangedBut [.trunk] s t ∧ answers s t r (.refused .range) := by
  obtain ⟨hwork, hr⟩ := hask
  obtain ⟨request, tag, unicast⟩ := r
  subst hreq
  refine ⟨settle (answerRequest s (.refused .range)), ?_, ?_, ?_⟩
  · simp [exec, execReadEntries, hr, hrange, hwork, done, readEntries]
  · exact unchangedBut.settled (by rw [unchangedBut_iff]; simp)
  · exact (trunkIs.answered (trunkIs_refl s) hr _).settled

/-- The completion of an operation that only answers its request (R170, R194). -/
theorem completion_answers {op : PortOp} {c : Instr} {a : Answer} (hop : opFor s op r)
    (he : exec c s = .next (settle (answerRequest (setInHand s none) a))) :
    ∃ t, exec c s = .next t ∧ unchangedBut [.port, .trunk] s t ∧ t.port.inHand = none ∧ answers s t r a := by
  obtain ⟨-, hr⟩ := hop
  refine ⟨_, he, ?_, ?_, ?_⟩
  · exact unchangedBut.settled (by rw [unchangedBut_iff]; simp)
  · simp [setInHand]
  · exact (trunkIs.answered (trunkIs_of_eq (by simp)) hr _).settled

theorem entryAt_setInHand (tab : TableId) (k : Nat) (op : Option PortOp) :
    entryAt (setInHand s op) tab k = entryAt s tab k := by
  cases tab <;> simp [entryAt, configOf, doorAt, roomOf, zoneOf, profileOf, classOf, priceOf, dynOf]

theorem entriesRead_setInHand (tb : Byte) (first count : Nat) (op : Option PortOp) :
    entriesRead (setInHand s op) tb first count = entriesRead s tb first count := by
  simp [entriesRead, entryAt_setInHand]

theorem readEntries_answered (hop : opFor s .readEntries r) (hreq : r.request = .readEntries tb first count)
    (hrange : readInRange tb first count = true) :
    ∃ t, exec (.readEntries .complete) s = .next t ∧ unchangedBut [.port, .trunk] s t ∧ t.port.inHand = none ∧
      answers s t r
        (.done
          ([tb] ++ be2 first ++ [byteOf (entriesRead s tb first.toNat count.toNat).length] ++
            (entriesRead s tb first.toNat count.toNat).flatten)) := by
  refine completion_answers hop ?_
  obtain ⟨hhand, hr⟩ := hop
  obtain ⟨request, tag, unicast⟩ := r
  subst hreq
  have hcomplete := runForm_complete
    (grant := grantSimple .requestUnit .readEntries (requestAsks .readEntries)) (finishOp_eq hhand (eff := effReadEntries) rfl)
  simp only [exec, execReadEntries, hr, hrange, if_true, hcomplete, setInHand_frame, readEntries, entriesRead_setInHand]

end

/-! ### The bytes of an entry (R56, R57, R59 to R61, R63, R211) -/

theorem windowBytes_eq (w : Window) :
    windowBytes w =
      [BitVec.ofNat 8 (w.openAt.toNat / 256), BitVec.ofNat 8 w.openAt.toNat] ++
        [BitVec.ofNat 8 (w.closeAt.toNat / 256), BitVec.ofNat 8 w.closeAt.toNat] := by
  rw [windowBytes, be2_eq, be2_eq]

theorem tallyOf_toNat (d : RoomDyn) : (tallyOf d).toNat = (d.minibar.map fun m => m.tally.toNat).getD 0 := by
  unfold tallyOf
  cases d.minibar <;> rfl

theorem fin_of_lt {n k : Nat} [NeZero n] (h : k < n) : (⟨k, h⟩ : Fin n) = Fin.ofNat n k :=
  Fin.ext (Nat.mod_eq_of_lt h).symm

/-- The entries of a table from an index on, each as `entry` gives it (R180). -/
theorem entriesRead_table {s : State} {tb : Byte} {tab : TableId} {first count : Nat} {entry : Nat → List Byte}
    (ht : tableOf tb = some tab) (hentry : ∀ k, k < tableSize tab → entryAt s tab k = entry k) :
    entriesRead s tb first count = (List.range (min count (tableSize tab - first))).map fun k => entry (first + k) := by
  simp only [entriesRead, ht]
  refine List.map_congr_left fun k hk => hentry _ ?_
  have := List.mem_range.1 hk
  omega

/-! ### The status record (R195, R212) -/

section
variable {s : State}

theorem ctxBytes_eq (c : IssueCtx) :
    ctxBytes c =
      [byteOf (ctxCode c.state + if c.void then 4 else 0), if c.state = .free then 0 else nodeByte c.node] := by
  unfold ctxBytes isOpen
  cases c.state <;> simp

theorem statusBytes_eq (s : State) :
    statusBytes s =
      [phaseCode s.startup.phase, s.time.clock.minute.extractLsb' 16 8, s.time.clock.minute.extractLsb' 8 8,
          s.time.clock.minute.extractLsb' 0 8, byteOf s.time.clock.second.val, condCode s.time.clock.cond,
          levelCode s.override.effective, levelCode s.override.requested, lineByte (lineOf s 0), lineByte (lineOf s 1),
          lineByte (lineOf s 2), lineByte (lineOf s 3), byteOf s.queue.length, byteOf s.loader.buffer.length] ++
        num2 s.store.denyCount ++ num2 s.journal.records.length ++ [flagByte s.journal.push] ++ ctxBytes (ctxOf s 0) ++
        ctxBytes (ctxOf s 1) ++
        [flagByte s.trunk.downAbsent, byteOf ((s.trunk.chain.map Fin.val).getD 31), errorCode s.trunk.lastError] := by
  simp only [statusBytes, toList_look, be3]
  rfl

theorem statusBytes_length (s : State) : (statusBytes s).length = 26 := by
  simp [statusBytes_eq, num2_eq, ctxBytes_eq]

theorem statusBytes_setInHand (s : State) (op : Option PortOp) : statusBytes (setInHand s op) = statusBytes s := by
  simp [statusBytes]

/-- STATUS answered, the last receive error cleared (R195). -/
theorem status_answered {r : RequestInHand} (hop : opFor s .status r) :
    ∃ t, exec (.status .complete) s = .next t ∧ unchangedBut [.port, .trunk] s t ∧ t.port.inHand = none ∧
      trunkIs t { answeredTrunk s.trunk r (.done (statusBytes s)) with lastError := .none } := by
  obtain ⟨hhand, hr⟩ := hop
  have he := runForm_complete
    (grant := grantSimple .requestUnit .status (requestAsks .status)) (finishOp_eq hhand (eff := effStatus) rfl)
  refine ⟨_, he, ?_, ?_, ?_⟩
  · exact unchangedBut.settled (by rw [unchangedBut_iff]; simp)
  · simp [setInHand]
  · refine (trunkIs_of_eq ?_).settled
    simp only [answerStatus, statusBytes_setInHand]
    rw [answerRequest_some _ r _ (by simpa using hr)]
    simp

end

/-- Settles O40: a READ_ENTRIES in range answers the bytes of its entries, table by table or of the deny list, and STATUS its
record. -/
theorem readsAnswerWithoutChange : Obligations.ReadsAnswerWithoutChange := by
  refine ⟨fun s r tb first count hreq => ⟨fun hask hrange => readEntries_refused hask hreq (readInRange_outside hrange), ?_⟩, ?_⟩
  · intro hop h1 h8 two flag head window rate kind entry
    have hrate : ∀ v, rateCode v = rate v := fun v => by cases v <;> rfl
    have hkind : ∀ v, nodeKindCode v = kind v := fun v => by cases v <;> rfl
    have hnode : ∀ n, optNodeByte n = (match n with
        | some n => BitVec.ofNat 8 (n.line.val * 32 + n.addr.val)
        | none => 128) := fun n => by cases n <;> rfl
    have hbar : ∀ m : Option MinibarPart, (m.map fun m => minibarCode m.state) = m.map fun m =>
        match m.state with
        | .locked => (0 : Byte)
        | .guest => 1
        | .openGuest => 2
        | .capped => 3
        | .restock => 4 := fun m => by
      cases m with
      | none => rfl
      | some m => cases hm : m.state <;> simp [hm, minibarCode]
    have hentry : ∀ tab k, k < tableSize tab → entryAt s tab k = entry tab k := fun tab k hk => by
      cases tab with
      | config =>
        simp only [entryAt, configBytes_eq, be2_eq, hrate]
        rfl
      | door =>
        have hk : k < 128 := hk
        simp only [entryAt, dif_pos hk, fin_of_lt hk, doorBytes, be2_eq, hkind]
        rfl
      | room =>
        have hk : k < 128 := hk
        simp only [entryAt, dif_pos hk, fin_of_lt hk, roomBytes_eq, be2_eq, hnode, tallyOf_toNat, hbar]
        rfl
      | zone =>
        have hk : k < 16 := hk
        simp only [entryAt, dif_pos hk, fin_of_lt hk, windowBytes_eq]
        rfl
      | profile =>
        have hk : k < 32 := hk
        simp only [entryAt, dif_pos hk, fin_of_lt hk, profileBytes, windowBytes_eq, ← BitVec.ofNat_toNat]
        rfl
      | cls =>
        have hk : k < 8 := hk
        simp only [entryAt, dif_pos hk, fin_of_lt hk, classBytes, be2_eq]
        rfl
      | price =>
        have hk : k < 64 := hk
        simp only [entryAt, dif_pos hk, fin_of_lt hk, be2_eq]
        rfl
    refine ⟨fun tab ht hf => ?_, fun ht => ?_⟩
    · have hanswer := readEntries_answered hop hreq (readInRange_table h1 h8 ht hf)
      rw [entriesRead_table ht (hentry tab), List.length_map, List.length_range] at hanswer
      exact hanswer
    · subst ht
      have hanswer := readEntries_answered hop hreq (readInRange_deny h1 h8)
      have hdeny : entriesRead s 8 first.toNat count.toNat =
          ((s.store.deny.drop first.toNat).take count.toNat).map denyBytes := rfl
      rw [hdeny, List.length_map] at hanswer
      exact hanswer
  · intro s r hop hreq two flag phase condition level line context error
    obtain ⟨t, he, hsame, hport, htrunk⟩ := status_answered hop
    refine ⟨t, statusBytes s, he, hsame, hport, htrunk, statusBytes_length s, ?_⟩
    have hphase : phaseCode s.startup.phase = phase := by
      simp only [phase]
      cases s.startup.phase <;> rfl
    have hcond : condCode s.time.clock.cond = condition := by
      simp only [condition]
      cases s.time.clock.cond <;> rfl
    have hlevel : ∀ l, levelCode l = level l := fun l => by cases l <;> rfl
    have hline : ∀ l, lineByte (lineOf s l) = line l := fun l => by
      simp only [lineByte, line]
      cases (lineOf s l).mode <;> rfl
    have hctx : ∀ k, ctxBytes (ctxOf s k) = context k := fun k => by
      simp only [ctxBytes_eq, context]
      cases (ctxOf s k).state <;> rfl
    have herror : errorCode s.trunk.lastError = error := by
      simp only [error]
      cases s.trunk.lastError <;> rfl
    simp only [statusBytes_eq, num2_eq, hphase, hcond, hlevel, hline, hctx, herror]
    rfl

end Sys2Proof.Machine
end

section
/-!
The capacities of the queues (11_trunk_and_management_requests.md, R185, R191): a state that holds them, and whose next step does
not. The capacities do not say that the request FIFO holds frames of its own two kinds alone (R185): REQUEST_TAKE judges a frame of
another kind as a unicast REQUEST without asking for the free reply position that R191 asks for a REQUEST.
-/

namespace Sys2Proof.Machine

/-- A frame of a kind that the request FIFO never takes up (R185), addressed to the part. -/
def strayNotice : Frame := { kind := .notice, dest := 0, source := 0, tag := 0, body := [] }

/-- A part in RUN with every reply position reserved, a stray frame in its request FIFO, and REQUEST_TAKE next. -/
def strayTaken : State :=
  { State.reset with
    pending := [.requestTake]
    startup := { State.reset.startup with phase := .run }
    trunk := { State.reset.trunk with requests := [strayNotice], reserved := 4 } }

theorem strayTaken_sound : queuesSound strayTaken := by
  unfold queuesSound repliesOwed
  decide

/-- The stray frame is refused as a request without a code: a fifth reply position is taken and filled. -/
theorem step_strayTaken :
    ∃ t, step strayTaken = .next t ∧ replyCount t.trunk.outQueue + t.trunk.reserved = 5 :=
  ⟨_, rfl, rfl⟩

/-- Refutes O56: four positions reserved, a fifth reply is queued for a frame that is not a REQUEST. -/
theorem not_stepsKeepQueues : ¬ Obligations.StepsKeepQueues := by
  intro h
  obtain ⟨t, hstep, hfive⟩ := step_strayTaken
  obtain ⟨-, -, -, -, -, -, -, -, hreplies, -⟩ := h strayTaken t strayTaken_sound hstep
  omega

end Sys2Proof.Machine
end

section
/-!
RELOCK and HELD expiries at a door (05_admission.md, R93, R94), privacy writes (R96) and ROOM_BUMP
(06_issue_and_supersession.md, R120).
-/

namespace Sys2Proof.Machine

/-! ### Expiries at a door (R93, R94) -/

section
variable {s : State} {n : Node}

/-- RELOCK and HELD have the Door Tracker for their owner (R11). -/
theorem sameOwner_door (x : DeadlineKind) :
    sameOwner .relock x = [DeadlineKind.relock, .held].contains x ∧
      sameOwner .held x = [DeadlineKind.relock, .held].contains x := by
  cases x <;> decide

/-- The state a RELOCK expiry leaves a door in (R93). -/
def relocked : DoorState → DoorState
  | .unlocked => .locked
  | d => d

theorem relocked_of_ne {d : DoorState} (h : d ≠ .unlocked) : relocked d = d := by
  cases d
  case unlocked => exact absurd rfl h
  all_goals rfl

theorem relockExpired_door : DoorSet n (relocked (trackOf s n).state) s (relockExpired s n) := by
  unfold relockExpired
  split
  · next h => rw [h]; exact setDoorState_door s n .locked
  · next h => rw [relocked_of_ne h]; exact .same s n

/-- The state a HELD expiry leaves a door in (R94). -/
def heldBeyond : DoorState → DoorState
  | .opened => .held
  | d => d

theorem heldBeyond_of_ne {d : DoorState} (h : d ≠ .opened) : heldBeyond d = d := by
  cases d
  case opened => exact absurd rfl h
  all_goals rfl

theorem heldExpired_door : DoorSet n (heldBeyond (trackOf s n).state) s (heldExpired s n) := by
  unfold heldExpired
  split
  · next h => rw [h]; exact (setDoorState_door s n .held).of_tracker (by simp)
  · next h => rw [heldBeyond_of_ne h]; exact .same s n

theorem relockExpired_writes : (relockExpired s n).tracker.writes = s.tracker.writes := by
  unfold relockExpired
  split <;> simp [setDoorState, setTrack]

theorem heldExpired_writes : (heldExpired s n).tracker.writes = s.tracker.writes := by
  unfold heldExpired
  split <;> simp [setDoorState, setTrack]

/-- A door set and the privacy writes left: every other door stands, once settled too. -/
theorem DoorSet.doorsBut {d : DoorState} {t : State} (h : DoorSet n d s t) (hw : t.tracker.writes = s.tracker.writes) :
    doorsBut n s (settle t) := by
  refine ⟨by simpa using hw, fun m hm => ?_⟩
  simpa [trackOf] using h.others m hm

theorem trackOf_settle (t : State) (m : Node) : trackOf (settle t) m = trackOf t m := by simp [trackOf]

end

/-- Settles O6: the door's state after the expiry, and after a closing with no RELOCK pending. -/
theorem relockExpiryLocksUnlocked : Obligations.RelockExpiryLocksUnlocked := by
  intro s n hd
  obtain ⟨u, hu⟩ : ∃ u, u = s.withTime { s.time with expiring := s.time.expiring.erase (n, .relock) } := ⟨_, rfl⟩
  have he : exec (.relockExpiry n) s = .next (settle (relockExpired u n)) := by
    simp [exec, execRelockExpiry, takeExpiry_delivered (fun x => (sameOwner_door x).1) hd, done, hu]
  have htrack : trackOf u n = trackOf s n := by simp [trackOf, hu]
  have hdoor : DoorSet n (relocked (trackOf s n).state) s (relockExpired u n) :=
    ⟨by rw [relockExpired_door.track, htrack], fun m hm => by
      rw [relockExpired_door.others m hm]; simp [trackOf, hu]⟩
  have hnow : trackOf (settle (relockExpired u n)) n = { trackOf s n with state := relocked (trackOf s n).state } := by
    rw [trackOf_settle, hdoor.track]
  refine ⟨_, he, unchangedBut.settled ?_, by simp [expiryTaken, hu], hdoor.doorsBut ?_, fun h => ?_, fun h => ?_, fun h hr => ?_⟩
  · rw [unchangedBut_iff]
    simp [hu]
  · rw [relockExpired_writes, hu]
    rfl
  · rw [hnow, h]
    rfl
  · rw [hnow, relocked_of_ne h]
  · have hpending : relockPending (settle (relockExpired u n)) n = false := by
      simpa [relockPending, hu] using hr
    rw [trackOf, contactReport_tracker, ← trackOf, trackOf_setTrack, if_pos rfl, contactSaid, hpending, hnow, h]
    rfl

theorem heldExpired_opened {s : State} {n : Node} (h : (trackOf s n).state = .opened) :
    heldExpired s n = pushNotice (appendNode (setDoorState s n .held) .doorHeld n .absent) (.doorHeld n) := if_pos h

theorem heldExpired_other {s : State} {n : Node} (h : (trackOf s n).state ≠ .opened) : heldExpired s n = s := if_neg h

/-- Settles O7: the alarm of an OPEN door, and none of a door in HELD. -/
theorem heldExpiryRaisesAlarm : Obligations.HeldExpiryRaisesAlarm := by
  intro s n hd
  obtain ⟨u, hu⟩ : ∃ u, u = s.withTime { s.time with expiring := s.time.expiring.erase (n, .held) } := ⟨_, rfl⟩
  have he : exec (.heldExpiry n) s = .next (settle (heldExpired u n)) := by
    simp [exec, execHeldExpiry, takeExpiry_delivered (fun x => (sameOwner_door x).2) hd, done, hu]
  have hblocks : u.journal = s.journal ∧ u.trunk = s.trunk ∧ u.time.clock = s.time.clock := by simp [hu]
  obtain ⟨hjournal, htrunk, hclock⟩ := hblocks
  have htrack : trackOf u n = trackOf s n := by simp [trackOf, hu]
  have hdoor : DoorSet n (heldBeyond (trackOf s n).state) s (heldExpired u n) :=
    ⟨by rw [heldExpired_door.track, htrack], fun m hm => by
      rw [heldExpired_door.others m hm]; simp [trackOf, hu]⟩
  have hnow : trackOf (settle (heldExpired u n)) n = { trackOf s n with state := heldBeyond (trackOf s n).state } := by
    rw [trackOf_settle, hdoor.track]
  refine ⟨_, he, unchangedBut.settled ?_, by simp [expiryTaken, hu], hdoor.doorsBut ?_, fun h => ⟨?_, ?_, ?_⟩,
    fun h => ⟨?_, ?_, ?_⟩, fun h => ?_⟩
  · rw [unchangedBut_iff]
    simp [hu]
  · rw [heldExpired_writes, hu]
    rfl
  · rw [hnow, h]
    rfl
  · have hrec : appendsAll s (appendNode (setDoorState u n .held) .doorHeld n .absent) _ :=
      (appendsAll_nil (t := setDoorState u n .held) (by simp [hjournal])).node (by simp [htrunk]) (by simp [hclock])
        .doorHeld n
    rw [heldExpired_opened (htrack ▸ h)]
    exact (hrec.of_journal (by simp)).settled
  · refine trunkIs.settled (trunkIs_of_eq ?_)
    rw [heldExpired_opened (htrack ▸ h)]
    simp [pushNotice_eq, noticesAfter, noticesWith, htrunk, hclock]
  · rw [hnow, heldBeyond_of_ne h]
  · rw [heldExpired_other (htrack ▸ h)]
    exact (appendsAll_nil hjournal).settled
  · rw [heldExpired_other (htrack ▸ h)]
    exact (trunkIs_of_eq htrunk).settled
  · have hheld : (trackOf (settle (heldExpired u n)) n).state = .held := by
      rw [hnow, h]
      rfl
    have hsaid : (contactSaid (settle (heldExpired u n)) n true).2.1 = [] := by
      rw [contactSaid, hheld]
      rfl
    refine ⟨?_, ?_⟩
    · simp [contactReport, contactOpen, hheld, setContact]
    · rw [contactReport_trunk, hsaid]
      rfl

/-! ### Privacy writes and ROOM_BUMP (R96, R120) -/

section
variable {s : State} {w : PrivacyWrite}

/-- A privacy write for a number that names no slot, or with the value the room holds, changes nothing (R96). -/
theorem applyPrivacy_same (h : ∀ i, findRoom s w.room = some i → (dynOf s i).privacy = w.value) : applyPrivacy s w = s := by
  unfold applyPrivacy
  split
  · rfl
  · next i hi => rw [if_pos (h i hi)]

/-- A privacy write that changes a room's value (R96). -/
theorem applyPrivacy_changed {i : Slot} (hi : findRoom s w.room = some i) (h : (dynOf s i).privacy ≠ w.value) :
    applyPrivacy s w =
      appendRecord (setDyn s i { dynOf s i with privacy := w.value })
        { stampedRecord s .privacy with
          node := w.node.map .node, room := some w.room, detail := .privacy w.value } := by
  simp [applyPrivacy, hi, h]

theorem setDyn_store (s : State) (i : Slot) (d : RoomDyn) :
    (setDyn s i d).store = { s.store with dyns := put s.store.dyns i d } := rfl

theorem findRoom_setInHand (s : State) (op : Option PortOp) (room : Half) :
    findRoom (setInHand s op) room = findRoom s room := rfl

end

/-- A ROOM_BUMP of a room that no slot holds, or that is VACANT, is refused (R120). -/
theorem bumpRoom_none {s : State} {room : Half} (h : findRoom s room = none) :
    bumpRoom s room = answerRequest s (.refused .room) := by simp [bumpRoom, h]

theorem bumpRoom_vacant {s : State} {room : Half} {i : Slot} (h : findRoom s room = some i)
    (hv : (dynOf s i).occupied = false) : bumpRoom s room = answerRequest s (.refused .vacant) := by
  simp [bumpRoom, h, hv]

/-- The records of a ROOM_BUMP (R120). -/
def bumpRecords (s : State) (room : Half) (d : RoomDyn) : List Record :=
  if d.accepted = d.issued then []
  else [{ stampedRecord s .supersede with room := some room, detail := .supersede d.accepted d.issued }]

/-- An OCCUPIED room bumped: the records over the room record, then the answer (R120). -/
theorem bumpRoom_occupied {s : State} {room : Half} {i : Slot} (h : findRoom s room = some i)
    (ho : (dynOf s i).occupied = true) :
    bumpRoom s room =
      answerRequest
        ((bumpRecords s room (dynOf s i)).foldl appendRecord
          (setDyn s i { dynOf s i with accepted := (dynOf s i).issued }))
        (.done [(dynOf s i).issued, (dynOf s i).issued]) := by
  have htaken : (!(dynOf s i).occupied) = false := by simp [ho]
  unfold bumpRoom bumpRecords
  simp only [h, htaken]
  by_cases hsame : (dynOf s i).accepted = (dynOf s i).issued
  · simp [hsame]
  · simp [hsame, stampedRecord]

/-- Records appended one after another. -/
theorem appendsAll_foldl {s : State} (rs : List Record) {t : State} {qs : List Record} (h : appendsAll s t qs)
    (hc : t.trunk.chain = s.trunk.chain) : appendsAll s (rs.foldl appendRecord t) (qs ++ rs) := by
  induction rs generalizing t qs with
  | nil => simpa using h
  | cons r rs ih => simpa using ih (h.record hc r) (by simpa using hc)

theorem foldl_appendRecord_keeps {β : Type} (g : State → β) (hg : ∀ s r, g (appendRecord s r) = g s) (rs : List Record)
    (s : State) : g (rs.foldl appendRecord s) = g s := foldl_keeps g appendRecord hg rs s

/-- Settles O16: the write, then the bump, by whether the room is held and what it holds. -/
theorem bumpAndPrivacyWriteRoom : Obligations.BumpAndPrivacyWriteRoom := by
  refine ⟨fun s w hop => ?_, fun s r room hop hreq => ?_⟩
  · have he : exec (.privacyWrite .complete) s = .next (settle (applyPrivacy (setInHand s none) w)) :=
      runForm_complete (grant := grantPrivacy) (by simp [finishPrivacy, hop.1, hop.2])
    refine ⟨_, he, unchangedBut.settled ?_, by simp [setInHand], fun h => ?_, fun i hi h => ?_⟩
    · rw [unchangedBut_iff]
      simp
    · rw [applyPrivacy_same (s := setInHand s none) h]
      exact ⟨by simp, (appendsAll_nil (by simp)).settled⟩
    · rw [applyPrivacy_changed (s := setInHand s none) hi h]
      refine ⟨by simp [setDyn_store, dynOf], appendsAll.settled ?_⟩
      exact (appendsAll_nil (by simp)).record (by simp) _
  · obtain ⟨hhand, hr⟩ := hop
    obtain ⟨request, tag, unicast⟩ := r
    subst hreq
    have he : exec (.roomBump .complete) s = .next (settle (bumpRoom (setInHand s none) room)) := by
      have := runForm_complete (grant := grantSimple .requestUnit .bump (requestAsks .bump))
        (finishOp_eq hhand (eff := effBump) rfl)
      simp only [setInHand_frame, hr] at this
      exact this
    have refused : ∀ why, bumpRoom (setInHand s none) room = answerRequest (setInHand s none) (.refused why) →
        (settle (bumpRoom (setInHand s none) room)).store = s.store ∧
          appendsAll s (settle (bumpRoom (setInHand s none) room)) [] ∧
          answers s (settle (bumpRoom (setInHand s none) room)) _ (.refused why) := fun why h => by
      rw [h]
      exact ⟨by simp, (appendsAll_nil (by simp)).settled, (trunkIs.answered (trunkIs_of_eq (by simp)) hr _).settled⟩
    refine ⟨_, he, unchangedBut.settled ?_, by simp [setInHand], fun h => refused _ (bumpRoom_none h),
      fun i hi => ⟨fun hv => refused _ (bumpRoom_vacant hi hv), fun ho => ?_⟩⟩
    · rw [unchangedBut_iff]
      simp
    · obtain ⟨u, hu⟩ : ∃ u, u = setDyn (setInHand s none) i { dynOf s i with accepted := (dynOf s i).issued } := ⟨_, rfl⟩
      have hbump : bumpRoom (setInHand s none) room =
          answerRequest ((bumpRecords s room (dynOf s i)).foldl appendRecord u)
            (.done [(dynOf s i).issued, (dynOf s i).issued]) := by
        rw [hu]; exact bumpRoom_occupied (s := setInHand s none) hi ho
      have hrecords : appendsAll s ((bumpRecords s room (dynOf s i)).foldl appendRecord u)
          (bumpRecords s room (dynOf s i)) :=
        appendsAll_foldl _ (appendsAll_nil (by simp [hu])) (by simp [hu])
      rw [hbump]
      refine ⟨?_, (hrecords.of_journal (by simp)).settled, trunkIs.settled (trunkIs.answered (trunkIs_of_eq ?_) hr _)⟩
      · have hstore := foldl_appendRecord_keeps (·.store) (fun s r => by simp) (bumpRecords s room (dynOf s i)) u
        simp only [settle_frame, answerRequest_frame]
        exact hstore.trans (hu ▸ rfl)
      · rw [foldl_appendRecord_keeps (·.trunk) (fun s r => by simp), hu]
        simp

end Sys2Proof.Machine
end

section
/-!
The stages of a decision (05_admission.md, R74 to R85; 08_minibars.md, R138 to R140): what each tests, in the words of the rules,
and which presentations it refuses under the stages before it.
-/

namespace Sys2Proof.Machine

/-! ### What the stages test (R75 to R84) -/

section
variable (s : State) (p : Presentation)

/-- Stage 0 (R75): the level is RELEASE, at a door. -/
def heldReleased : Prop :=
  s.override.effective = .release ∧ ((doorOf s p.node).kind = .roomDoor ∨ (doorOf s p.node).kind = .commonGate)

/-- Stage 1 (R76): the card verifies. -/
def cardRead : Prop := verifies (configOf s).siteCode p.grant = true

/-- Stage 2 (R77): the deny list holds the card's serial. -/
def cardDenied : Prop := ∃ e ∈ s.store.deny, e.serial = p.grant.serial

/-- Stage 3 (R78): the node admits the card's class. -/
def cardAdmitted : Prop :=
  1 ≤ p.grant.cls.toNat ∧ p.grant.cls.toNat ≤ 5 ∧
    ((doorOf s p.node).kind = .roomDoor ∨ (doorOf s p.node).kind = .commonGate ∨
      ((doorOf s p.node).kind = .minibar ∧ (p.grant.cls = 1 ∨ p.grant.cls = 3)))

/-- The profile the card names, of index 0 to 31, has a property (R19). -/
def cardProfiled (q : ProfileEntry → Bool) : Prop :=
  ∃ i : Fin 32, p.grant.room.toNat = i.val ∧ q (profileOf s i) = true

/-- Stage 4 (R79): the card does not pass LOCKDOWN at a door. -/
def cardBarred : Prop :=
  s.override.effective = .lockdown ∧ ((doorOf s p.node).kind = .roomDoor ∨ (doorOf s p.node).kind = .commonGate) ∧
    p.grant.cls ≠ 4 ∧ p.grant.cls ≠ 5 ∧ ¬ (p.grant.cls = 2 ∧ cardProfiled s p fun q => q.lockdownAccess)

/-- Stage 5 (R80): the card's start is yet to come. -/
def cardEarly : Prop := p.capture.minute.toNat < p.grant.start.toNat

/-- Stage 5 (R80): the card's end, with a guest's grace, has passed. -/
def cardLate : Prop :=
  p.grant.finish ≠ 16777215 ∧
    p.grant.finish.toNat + (if p.grant.cls = 1 then (configOf s).grace.toNat else 0) ≤ p.capture.minute.toNat

/-- Stages 0 to 5 passed. -/
def cardTimely : Prop :=
  ¬ heldReleased s p ∧ cardRead s p ∧ ¬ cardDenied s p ∧ cardAdmitted s p ∧ ¬ cardBarred s p ∧ ¬ cardEarly p ∧
    ¬ cardLate s p

/-- Stage 6 (R81): a guest at the door or minibar of another room. -/
def cardOtherRoom : Prop :=
  p.grant.cls = 1 ∧ (doorOf s p.node).kind ≠ .commonGate ∧ p.grant.room ≠ (doorOf s p.node).room

/-- Stage 6 (R81): a card without the node's zone, where its zones are tested. -/
def cardOtherZone : Prop :=
  ((p.grant.cls = 1 ∧ (doorOf s p.node).kind = .commonGate) ∨ p.grant.cls = 2 ∨ p.grant.cls = 3 ∨ p.grant.cls = 4) ∧
    p.grant.zones.getLsbD (doorOf s p.node).zone.val = false

/-- Stage 7 (R82): the gate's zone is shut for a guest, or the shift of the card's profile is. -/
def cardShut : Prop :=
  (p.grant.cls = 1 ∧ (doorOf s p.node).kind = .commonGate ∧
      windowOpen (zoneOf s (doorOf s p.node).zone) (p.capture.minute.toNat % 1440) = false) ∨
    ((p.grant.cls = 2 ∨ p.grant.cls = 3) ∧ ¬ cardProfiled s p fun q => shiftOpen q p.capture.minute)

/-- Stages 0 to 7 passed. -/
def cardPlaced : Prop := cardTimely s p ∧ ¬ cardOtherRoom s p ∧ ¬ cardOtherZone s p ∧ ¬ cardShut s p

/-- The room record of the card's room (R83). -/
def cardRoom : Option RoomDyn := (findRoom s p.grant.room).map (dynOf s)

/-- The card's distance above the accepted generation (R83). -/
def cardDistance : Nat := ((cardRoom s p).map fun x => (p.grant.gen - x.accepted).toNat).getD 0

/-- The span of the card's room (R63). -/
def cardSpan : Nat := ((cardRoom s p).map fun x => (x.issued - x.accepted + 1).toNat).getD 0

/-- Stage 8 (R83): the card's room is OCCUPIED. -/
def cardOccupied : Prop := (cardRoom s p).map (·.occupied) = some true

/-- Stages 0 to 8 passed. -/
def cardValid : Prop :=
  cardPlaced s p ∧ (p.grant.cls = 1 → cardOccupied s p ∧ cardDistance s p < cardSpan s p)

/-- Stage 9 (R84): the node's room is in privacy, and the card does not override it. -/
def cardHidden : Prop :=
  ((findRoom s (doorOf s p.node).room).map fun i => (dynOf s i).privacy) = some true ∧
    (((doorOf s p.node).kind = .roomDoor ∧
        (p.grant.cls = 1 ∨ p.grant.cls = 2 ∨ p.grant.cls = 3 ∨ (p.grant.cls = 4 ∧ p.grant.options.getLsbD 1 = false))) ∨
      ((doorOf s p.node).kind = .minibar ∧ p.grant.cls = 3))

end

/-! ### One stage -/

/-- A stage refuses with `x` exactly where `P` holds. -/
def RefusesWhen (P : Prop) (x : Reason) (o : Option Reason) : Prop := ∀ r, o = some r ↔ P ∧ r = x

theorem RefusesWhen.passes_iff {P : Prop} {x : Reason} {o : Option Reason} (h : RefusesWhen P x o) : o = none ↔ ¬ P := by
  rw [Option.eq_none_iff_forall_ne_some]
  exact ⟨fun hn hp => hn x ((h x).2 ⟨hp, rfl⟩), fun hp r hr => hp ((h r).1 hr).1⟩

theorem failIf_refuses {b : Bool} {x : Reason} {P : Prop} (h : b = true ↔ P) : RefusesWhen P x (failIf b x) := by
  intro r
  unfold failIf
  cases b
  · simp [← h]
  · simp [← h, eq_comm]

theorem none_refuses (x : Reason) : RefusesWhen False x none := fun r => by simp

theorem RefusesWhen.congr {P Q : Prop} {x : Reason} {o : Option Reason} (h : RefusesWhen P x o) (hq : P ↔ Q) :
    RefusesWhen Q x o := fun r => (h r).trans (and_congr_left fun _ => hq)

theorem orElse_some {a b : Option Reason} {r : Reason} : (a <|> b) = some r ↔ a = some r ∨ (a = none ∧ b = some r) := by
  cases a <;> simp

theorem orElse_none {a b : Option Reason} : (a <|> b) = none ↔ a = none ∧ b = none := by
  cases a <;> simp

/-- A stage before others: its reason where it refuses, theirs where it does not. -/
theorem RefusesWhen.orElse_some {P : Prop} {x : Reason} {a : Option Reason} (h : RefusesWhen P x a) (b : Option Reason)
    (r : Reason) : (a <|> b) = some r ↔ (P ∧ r = x) ∨ (¬ P ∧ b = some r) := by
  rw [Machine.orElse_some, h r, h.passes_iff]

theorem RefusesWhen.orElse_none {P : Prop} {x : Reason} {a : Option Reason} (h : RefusesWhen P x a) (b : Option Reason) :
    (a <|> b) = none ↔ ¬ P ∧ b = none := by
  rw [Machine.orElse_none, h.passes_iff]

/-- The class code of each class (R17). -/
def codeOf : CardClass → Byte
  | .guest => 1
  | .staff => 2
  | .service => 3
  | .master => 4
  | .emergency => 5

theorem classOfCode_some {b : Byte} {c : CardClass} : classOfCode b = some c ↔ b = codeOf c := by
  constructor
  · intro h
    unfold classOfCode at h
    split at h
    all_goals cases h
    all_goals (next hb => exact BitVec.eq_of_toNat_eq hb)
  · rintro rfl
    cases c <;> rfl

theorem classOfCode_none {b : Byte} : classOfCode b = none ↔ ¬ (1 ≤ b.toNat ∧ b.toNat ≤ 5) := by
  unfold classOfCode
  split
  case h_6 h1 h2 h3 h4 h5 =>
    have hne : b.toNat ≠ 1 ∧ b.toNat ≠ 2 ∧ b.toNat ≠ 3 ∧ b.toNat ≠ 4 ∧ b.toNat ≠ 5 := ⟨h1, h2, h3, h4, h5⟩
    simp only [true_iff]
    omega
  all_goals (next hb => simp [hb])

theorem profileFor_iff {s : State} {p : Presentation} {q : ProfileEntry → Bool} :
    ((profileFor s p.grant).map q).getD false = true ↔ cardProfiled s p q := by
  unfold profileFor cardProfiled
  split
  · next h =>
    constructor
    · intro hq; exact ⟨⟨_, h⟩, rfl, hq⟩
    · rintro ⟨i, hi, hq⟩
      have : i = ⟨p.grant.room.toNat, h⟩ := Fin.ext hi.symm
      exact this ▸ hq
  · next h =>
    constructor
    · exact nofun
    · rintro ⟨i, hi, -⟩
      omega

theorem isDoor_iff {d : DoorEntry} : isDoor d = true ↔ d.kind = .roomDoor ∨ d.kind = .commonGate := by simp [isDoor]

section
variable {s : State} {p : Presentation} {c : CardClass}

theorem stageRelease_iff : stageRelease s (doorOf s p.node) = true ↔ heldReleased s p := by
  simp [stageRelease, heldReleased, isDoor_iff]

theorem stageCheck_refuses : RefusesWhen (¬ cardRead s p) .misread (stageCheck s p.grant) :=
  failIf_refuses (by simp [cardRead])

theorem stageDeny_refuses : RefusesWhen (cardDenied s p) .revoked (stageDeny s p.grant) :=
  failIf_refuses (by simp [cardDenied, denyFind])

theorem stageClass_refuses :
    RefusesWhen (¬ cardAdmitted s p) .cls (stageClass (classOfCode p.grant.cls) (doorOf s p.node)) := by
  rcases hc : classOfCode p.grant.cls with _ | c
  · have hn : ¬ cardAdmitted s p := fun h => classOfCode_none.1 hc ⟨h.1, h.2.1⟩
    intro r
    simp [stageClass, hn, eq_comm]
  · have hcode := classOfCode_some.1 hc
    refine failIf_refuses ?_
    unfold cardAdmitted
    rw [hcode]
    cases c <;> cases (doorOf s p.node).kind <;> simp [admittedAt, codeOf]

theorem stageLockdown_refuses (hc : p.grant.cls = codeOf c) :
    RefusesWhen (cardBarred s p) .lockdown (stageLockdown s c p.grant (doorOf s p.node)) := by
  refine failIf_refuses ?_
  unfold cardBarred
  rw [hc, ← profileFor_iff]
  cases c <;> simp [passesLockdown, codeOf, isDoor_iff, and_assoc]

/-- Stage 5 tests the start, then the end. -/
def timeTests (s : State) (p : Presentation) : Option Reason :=
  failIf (decide (p.capture.minute.toNat < p.grant.start.toNat)) .notYet <|>
    failIf
      (decide (p.grant.finish ≠ 16777215 ∧
        p.grant.finish.toNat + (if p.grant.cls = 1 then (configOf s).grace.toNat else 0) ≤ p.capture.minute.toNat))
      .expired

theorem stageTime_eq (hc : p.grant.cls = codeOf c) : stageTime s c p.grant p.capture.minute = timeTests s p := by
  have hgrace : (if c = .guest then (configOf s).grace.toNat else 0) =
      if p.grant.cls = 1 then (configOf s).grace.toNat else 0 := by
    rw [hc]
    cases c <;> simp [codeOf]
  unfold stageTime timeTests failIf
  rw [hgrace]
  simp only [decide_eq_true_eq]
  split <;> rfl

theorem stageTime_some (hc : p.grant.cls = codeOf c) (r : Reason) :
    stageTime s c p.grant p.capture.minute = some r ↔
      (cardEarly p ∧ r = .notYet) ∨ (¬ cardEarly p ∧ cardLate s p ∧ r = .expired) := by
  rw [stageTime_eq hc]
  exact ((failIf_refuses decide_eq_true_iff).orElse_some _ r).trans
    (or_congr_right (and_congr_right fun _ => failIf_refuses decide_eq_true_iff r))

theorem stageTime_none (hc : p.grant.cls = codeOf c) :
    stageTime s c p.grant p.capture.minute = none ↔ ¬ cardEarly p ∧ ¬ cardLate s p := by
  rw [stageTime_eq hc]
  exact ((failIf_refuses decide_eq_true_iff).orElse_none _).trans
    (and_congr_right fun _ => (failIf_refuses decide_eq_true_iff).passes_iff)

/-- Stage 6: a guest's room but at a gate; the zones of a guest at a gate and of any other card but an EMERGENCY. -/
theorem stagePlace_some (hc : p.grant.cls = codeOf c) (r : Reason) :
    stagePlace c p.grant (doorOf s p.node) = some r ↔
      (cardOtherRoom s p ∧ r = .room) ∨ (cardOtherZone s p ∧ r = .zone) := by
  have zone : RefusesWhen (p.grant.zones.getLsbD (doorOf s p.node).zone.val = false) .zone
      (failIf (!inZone p.grant (doorOf s p.node)) .zone) := failIf_refuses (by simp only [inZone, Bool.not_eq_true'])
  have room : RefusesWhen (p.grant.room ≠ (doorOf s p.node).room) .room
      (failIf (decide (p.grant.room ≠ (doorOf s p.node).room)) .room) := failIf_refuses decide_eq_true_iff
  unfold cardOtherRoom cardOtherZone
  rw [hc]
  cases c
  case guest =>
    by_cases hk : (doorOf s p.node).kind = .commonGate
    · simp only [stagePlace, hk, if_true]
      exact (zone r).trans (by simp [codeOf])
    · simp only [stagePlace, hk, if_false]
      exact (room r).trans (by simp [codeOf, hk])
  case emergency => simp [stagePlace, codeOf]
  all_goals exact (zone r).trans (by simp [codeOf])

theorem stagePlace_none (hc : p.grant.cls = codeOf c) :
    stagePlace c p.grant (doorOf s p.node) = none ↔ ¬ cardOtherRoom s p ∧ ¬ cardOtherZone s p := by
  rw [Option.eq_none_iff_forall_ne_some]
  simp only [ne_eq, stagePlace_some hc]
  constructor
  · exact fun h => ⟨fun hr => h .room (.inl ⟨hr, rfl⟩), fun hz => h .zone (.inr ⟨hz, rfl⟩)⟩
  · rintro ⟨hr, hz⟩ r (⟨h, -⟩ | ⟨h, -⟩)
    · exact hr h
    · exact hz h

theorem stageHours_refuses (hc : p.grant.cls = codeOf c) :
    RefusesWhen (cardShut s p) .hours (stageHours s c p.grant (doorOf s p.node) p.capture.minute) := by
  have shift : RefusesWhen (¬ cardProfiled s p fun q => shiftOpen q p.capture.minute) .hours
      (failIf (!((profileFor s p.grant).map fun q => shiftOpen q p.capture.minute).getD false) .hours) :=
    failIf_refuses (by rw [← profileFor_iff]; simp)
  unfold cardShut
  rw [hc]
  cases c
  case guest =>
    by_cases hk : (doorOf s p.node).kind = .commonGate
    · simp only [stageHours, hk, if_true]
      exact failIf_refuses (by simp [codeOf, minuteOfDay])
    · simp only [stageHours, hk, if_false]
      exact (none_refuses _).congr (by simp [codeOf])
  case staff => exact shift.congr (by simp [codeOf])
  case service => exact shift.congr (by simp [codeOf])
  all_goals exact (none_refuses _).congr (by simp [codeOf])

/-- A distance outside the span, behind it or ahead of it (R83). -/
theorem spanTest_some (distance span : Nat) (r : Reason) :
    (if distance < span then none else if 128 ≤ distance then some Reason.genOld else some .genFuture) = some r ↔
      span ≤ distance ∧ ((128 ≤ distance ∧ r = .genOld) ∨ (distance < 128 ∧ r = .genFuture)) := by
  repeat' split
  · next h => simp [h]
  · next h hd => simp [Nat.le_of_not_lt h, hd, Nat.not_lt.2 hd, eq_comm]
  · next h hd => simp [Nat.le_of_not_lt h, hd, Nat.lt_of_not_le hd, eq_comm]

/-- Stage 8: what a guest's room record refuses. -/
theorem stageRoom_some (hc : p.grant.cls = codeOf c) (r : Reason) :
    stageRoom s c p.grant = some r ↔
      p.grant.cls = 1 ∧
        ((cardRoom s p = none ∧ r = .room) ∨
          ((cardRoom s p).map (·.occupied) = some false ∧ r = .vacant) ∨
          (cardOccupied s p ∧ cardSpan s p ≤ cardDistance s p ∧
            ((128 ≤ cardDistance s p ∧ r = .genOld) ∨ (cardDistance s p < 128 ∧ r = .genFuture)))) := by
  rw [hc]
  by_cases hg : c = .guest
  · subst hg
    unfold stageRoom cardOccupied cardSpan cardDistance cardRoom
    rcases findRoom s p.grant.room with _ | i
    · simp [codeOf, eq_comm]
    · rcases ho : (dynOf s i).occupied with _ | _
      · simp [codeOf, ho, eq_comm]
      · have test := spanTest_some (genDistance (dynOf s i) p.grant).toNat (spanOf (dynOf s i)).toNat r
        simp only [codeOf, ho, if_true, Option.map_some, Option.getD_some, Bool.not_true, Bool.false_eq_true, if_false,
          reduceCtorEq, Option.some.injEq, false_and, true_and, false_or]
        exact test
  · have hn : codeOf c ≠ 1 := by cases c <;> simp_all [codeOf]
    rw [stageRoom, if_neg hg]
    exact ⟨nofun, fun h => absurd h.1 hn⟩

theorem stageRoom_passes (hc : p.grant.cls = codeOf c) :
    stageRoom s c p.grant = none ↔ (p.grant.cls = 1 → cardOccupied s p ∧ cardDistance s p < cardSpan s p) := by
  rw [Option.eq_none_iff_forall_ne_some]
  simp only [ne_eq, stageRoom_some hc]
  constructor
  · intro h hg
    have refused : ∀ r, ¬ _ := fun r hr => h r ⟨hg, hr⟩
    have ho : cardOccupied s p := by
      unfold cardOccupied
      rcases hroom : cardRoom s p with _ | d
      · exact absurd (.inl ⟨hroom, rfl⟩) (refused .room)
      · rcases hd : d.occupied with _ | _
        · exact absurd (.inr (.inl ⟨by simp [hroom, hd], rfl⟩)) (refused .vacant)
        · simp [hd]
    refine ⟨ho, Nat.lt_of_not_le fun hs => ?_⟩
    rcases Nat.lt_or_ge (cardDistance s p) 128 with hd | hd
    · exact refused .genFuture (.inr (.inr ⟨ho, hs, .inr ⟨hd, rfl⟩⟩))
    · exact refused .genOld (.inr (.inr ⟨ho, hs, .inl ⟨hd, rfl⟩⟩))
  · rintro h r ⟨hg, hr⟩
    obtain ⟨ho, hd⟩ := h hg
    unfold cardOccupied at ho
    rcases hr with ⟨hn, -⟩ | ⟨hv, -⟩ | ⟨-, hs, -⟩
    · simp [hn] at ho
    · simp [hv] at ho
    · omega

theorem stagePrivacy_refuses (hc : p.grant.cls = codeOf c) :
    RefusesWhen (cardHidden s p) .privacy (stagePrivacy s c p.grant (doorOf s p.node)) := by
  have hprivate : doorPrivate s (doorOf s p.node) = true ↔
      ((findRoom s (doorOf s p.node).room).map fun i => (dynOf s i).privacy) = some true := by
    unfold doorPrivate
    cases findRoom s (doorOf s p.node).room <;> simp
  unfold cardHidden stagePrivacy
  rw [← hprivate, hc]
  cases (doorOf s p.node).kind
  case roomDoor =>
    refine failIf_refuses ?_
    cases c <;> simp [codeOf, hasOverride]
  case minibar =>
    refine failIf_refuses ?_
    cases c <;> simp [codeOf]
  all_goals exact (none_refuses _).congr (by simp)

/-! ### Stage 10 at a minibar (R85, R138 to R140) -/

/-- The minibar part the node's cards are judged against (R138). -/
def barPart (s : State) (p : Presentation) : Option MinibarPart := (boundRoom s p.node).bind (partOf s)

/-- The bound room's tally has reached its limit (R139). -/
def barCapped (s : State) (p : Presentation) : Prop :=
  ((boundRoom s p.node).bind fun i => (partOf s i).map fun m => decide ((roomOf s i).limit.toNat ≤ m.tally.toNat)) =
    some true

/-- What stage 10 refuses at a minibar (R139, R140). -/
def barRefuses (s : State) (p : Presentation) : Reason → Prop
  | .option => p.grant.cls = 1 ∧ hasMinibar p.grant = false
  | .capped =>
    p.grant.cls = 1 ∧ hasMinibar p.grant = true ∧
      (barPart s p = none ∨ (barPart s p).map (·.state) = some .locked ∨ (barPart s p).map (·.state) = some .capped ∨
        ((barPart s p).map (·.state) = some .openGuest ∧ barCapped s p))
  | .inUse =>
    (p.grant.cls = 1 ∧ hasMinibar p.grant = true ∧ (barPart s p).map (·.state) = some .restock) ∨
      (p.grant.cls = 3 ∧ (barPart s p = none ∨ (barPart s p).map (·.state) = some .openGuest))
  | _ => False

theorem boundPart_cases (s : State) (p : Presentation) :
    (boundPart s p.node = none ∧ barPart s p = none) ∨
      ∃ i m, boundPart s p.node = some (i, m) ∧ barPart s p = some m ∧
        (barCapped s p ↔ (roomOf s i).limit.toNat ≤ m.tally.toNat) := by
  unfold boundPart barPart barCapped
  rcases boundRoom s p.node with _ | i
  · exact .inl ⟨rfl, rfl⟩
  · rcases hm : partOf s i with _ | m
    · exact .inl ⟨by simp [hm], by simp [hm]⟩
    · exact .inr ⟨i, m, by simp [hm], by simp [hm], by simp [hm]⟩

theorem judgeGuest_refuses (hg : p.grant.cls = 1) (r : Reason) :
    judgeGuest s p.node p.grant = .error r ↔ barRefuses s p r := by
  rcases ho : hasMinibar p.grant with _ | _
  · have hj : judgeGuest s p.node p.grant = .error .option := by simp only [judgeGuest, ho]; rfl
    rw [hj]
    cases r <;> simp [barRefuses, hg, ho]
  · rcases boundPart_cases s p with ⟨hb, hn⟩ | ⟨i, m, hb, hn, hcap⟩
    · have hj : judgeGuest s p.node p.grant = .error .capped := by simp only [judgeGuest, ho, hb]; rfl
      rw [hj]
      cases r <;> simp [barRefuses, hg, ho, hn]
    · simp only [judgeGuest, ho, hb, Bool.not_true, Bool.false_eq_true, if_false]
      cases hs : m.state
      case openGuest =>
        by_cases hl : (roomOf s i).limit.toNat ≤ m.tally.toNat
        · rw [if_pos hl]
          cases r <;> simp [barRefuses, hg, ho, hn, hs, hcap, hl]
        · rw [if_neg hl]
          cases r <;> simp [barRefuses, hg, ho, hn, hs, hcap, hl]
      all_goals cases r <;> simp [barRefuses, hg, ho, hn, hs]

theorem judgeService_refuses (hg : p.grant.cls = 3) (r : Reason) :
    judgeService s p.node = .error r ↔ barRefuses s p r := by
  rcases boundPart_cases s p with ⟨hb, hn⟩ | ⟨i, m, hb, hn, -⟩
  · rw [judgeService, hb]
    cases r <;> simp [barRefuses, hg, hn]
  · simp only [judgeService, hb]
    cases hs : m.state
    all_goals cases r <;> simp [barRefuses, hg, hn, hs]

theorem map_some_error {x : Except Reason MinibarGrant} {r : Reason} : x.map some = .error r ↔ x = .error r := by
  cases x <;> simp [Except.map]

theorem stageMinibar_error (hc : p.grant.cls = codeOf c) (ha : cardAdmitted s p) (r : Reason) :
    stageMinibar s c p.node p.grant (doorOf s p.node) = .error r ↔
      (doorOf s p.node).kind = .minibar ∧ barRefuses s p r := by
  unfold stageMinibar
  by_cases hk : (doorOf s p.node).kind = .minibar
  · rw [if_pos hk]
    have hcls : p.grant.cls = 1 ∨ p.grant.cls = 3 := by simpa [cardAdmitted, hk] using ha.2.2
    rw [hc] at hcls
    cases c
    case guest => simp [map_some_error, judgeGuest_refuses hc, hk]
    case service => simp [map_some_error, judgeService_refuses hc, hk]
    all_goals simp [codeOf] at hcls
  · simp [hk]

/-! ### The decision (R74) -/

/-- Stages 4 to 7, of a card whose class is known. -/
theorem cardStages_some (hc : p.grant.cls = codeOf c) (r : Reason) :
    (stageLockdown s c p.grant (doorOf s p.node) <|> stageTime s c p.grant p.capture.minute <|>
        stagePlace c p.grant (doorOf s p.node) <|> stageHours s c p.grant (doorOf s p.node) p.capture.minute) = some r ↔
      (cardBarred s p ∧ r = .lockdown) ∨
        (¬ cardBarred s p ∧
          (((cardEarly p ∧ r = .notYet) ∨ (¬ cardEarly p ∧ cardLate s p ∧ r = .expired)) ∨
            ((¬ cardEarly p ∧ ¬ cardLate s p) ∧
              (((cardOtherRoom s p ∧ r = .room) ∨ (cardOtherZone s p ∧ r = .zone)) ∨
                ((¬ cardOtherRoom s p ∧ ¬ cardOtherZone s p) ∧ cardShut s p ∧ r = .hours))))) := by
  rw [(stageLockdown_refuses hc).orElse_some, orElse_some, stageTime_some hc, stageTime_none hc, orElse_some,
    stagePlace_some hc, stagePlace_none hc, stageHours_refuses hc r]

theorem cardStages_none (hc : p.grant.cls = codeOf c) :
    (stageLockdown s c p.grant (doorOf s p.node) <|> stageTime s c p.grant p.capture.minute <|>
        stagePlace c p.grant (doorOf s p.node) <|> stageHours s c p.grant (doorOf s p.node) p.capture.minute) = none ↔
      ¬ cardBarred s p ∧ (¬ cardEarly p ∧ ¬ cardLate s p) ∧ (¬ cardOtherRoom s p ∧ ¬ cardOtherZone s p) ∧
        ¬ cardShut s p := by
  rw [(stageLockdown_refuses hc).orElse_none, orElse_none, stageTime_none hc, orElse_none, stagePlace_none hc,
    (stageHours_refuses hc).passes_iff]

/-- Stages 1 to 3, then those of the card's class. -/
theorem earlyStages_eq (s : State) (p : Presentation) :
    earlyStages s p (doorOf s p.node) =
      (stageCheck s p.grant <|> stageDeny s p.grant <|> stageClass (classOfCode p.grant.cls) (doorOf s p.node) <|>
        (classOfCode p.grant.cls).bind fun c =>
          stageLockdown s c p.grant (doorOf s p.node) <|> stageTime s c p.grant p.capture.minute <|>
            stagePlace c p.grant (doorOf s p.node) <|> stageHours s c p.grant (doorOf s p.node) p.capture.minute) := rfl

/-- What a decision refuses a presentation for, each reason under the stages before it. -/
def refusedFor (s : State) (p : Presentation) : Reason → Prop
  | .misread => ¬ heldReleased s p ∧ ¬ cardRead s p
  | .revoked => ¬ heldReleased s p ∧ cardRead s p ∧ cardDenied s p
  | .cls => ¬ heldReleased s p ∧ cardRead s p ∧ ¬ cardDenied s p ∧ ¬ cardAdmitted s p
  | .lockdown => ¬ heldReleased s p ∧ cardRead s p ∧ ¬ cardDenied s p ∧ cardAdmitted s p ∧ cardBarred s p
  | .notYet =>
    ¬ heldReleased s p ∧ cardRead s p ∧ ¬ cardDenied s p ∧ cardAdmitted s p ∧ ¬ cardBarred s p ∧ cardEarly p
  | .expired =>
    ¬ heldReleased s p ∧ cardRead s p ∧ ¬ cardDenied s p ∧ cardAdmitted s p ∧ ¬ cardBarred s p ∧ ¬ cardEarly p ∧
      cardLate s p
  | .room => (cardTimely s p ∧ cardOtherRoom s p) ∨ (cardPlaced s p ∧ p.grant.cls = 1 ∧ cardRoom s p = none)
  | .zone => cardTimely s p ∧ cardOtherZone s p
  | .hours => cardTimely s p ∧ ¬ cardOtherRoom s p ∧ ¬ cardOtherZone s p ∧ cardShut s p
  | .vacant => cardPlaced s p ∧ p.grant.cls = 1 ∧ (cardRoom s p).map (·.occupied) = some false
  | .genOld =>
    cardPlaced s p ∧ p.grant.cls = 1 ∧ cardOccupied s p ∧ cardSpan s p ≤ cardDistance s p ∧ 128 ≤ cardDistance s p
  | .genFuture =>
    cardPlaced s p ∧ p.grant.cls = 1 ∧ cardOccupied s p ∧ cardSpan s p ≤ cardDistance s p ∧ cardDistance s p < 128
  | .privacy => cardValid s p ∧ cardHidden s p
  | r => (cardValid s p ∧ ¬ cardHidden s p ∧ (doorOf s p.node).kind = .minibar) ∧ barRefuses s p r

/-- Stages 8 to 10. -/
def lateRefuses (s : State) (p : Presentation) (r : Reason) : Prop :=
  (p.grant.cls = 1 ∧
      ((cardRoom s p = none ∧ r = .room) ∨
        ((cardRoom s p).map (·.occupied) = some false ∧ r = .vacant) ∨
        (cardOccupied s p ∧ cardSpan s p ≤ cardDistance s p ∧
          ((128 ≤ cardDistance s p ∧ r = .genOld) ∨ (cardDistance s p < 128 ∧ r = .genFuture))))) ∨
    ((p.grant.cls = 1 → cardOccupied s p ∧ cardDistance s p < cardSpan s p) ∧
      ((cardHidden s p ∧ r = .privacy) ∨
        (¬ cardHidden s p ∧ (doorOf s p.node).kind = .minibar ∧ barRefuses s p r)))

theorem lateStages_refuse (hc : p.grant.cls = codeOf c) (ha : cardAdmitted s p) (r : Reason) :
    lateStages s c p (doorOf s p.node) = .refuse r ↔ lateRefuses s p r := by
  have first : (stageRoom s c p.grant <|> stagePrivacy s c p.grant (doorOf s p.node)) = some r ↔
      stageRoom s c p.grant = some r ∨ (stageRoom s c p.grant = none ∧ cardHidden s p ∧ r = .privacy) := by
    rw [orElse_some, stagePrivacy_refuses hc r]
  have passed : (stageRoom s c p.grant <|> stagePrivacy s c p.grant (doorOf s p.node)) = none ↔
      stageRoom s c p.grant = none ∧ ¬ cardHidden s p := by
    rw [orElse_none, (stagePrivacy_refuses hc).passes_iff]
  have split : lateStages s c p (doorOf s p.node) = .refuse r ↔
      (stageRoom s c p.grant <|> stagePrivacy s c p.grant (doorOf s p.node)) = some r ∨
        ((stageRoom s c p.grant <|> stagePrivacy s c p.grant (doorOf s p.node)) = none ∧
          stageMinibar s c p.node p.grant (doorOf s p.node) = .error r) := by
    unfold lateStages
    rcases (stageRoom s c p.grant <|> stagePrivacy s c p.grant (doorOf s p.node)) with _ | x
    · rcases stageMinibar s c p.node p.grant (doorOf s p.node) with e | m <;> simp
    · simp
  rw [split, first, passed, stageMinibar_error hc ha, stageRoom_some hc, stageRoom_passes hc]
  constructor
  · rintro ((hx | ⟨hn, hh⟩) | ⟨⟨hn, hh⟩, hb⟩)
    · exact .inl hx
    · exact .inr ⟨hn, .inl hh⟩
    · exact .inr ⟨hn, .inr ⟨hh, hb⟩⟩
  · rintro (hx | ⟨hn, hh | ⟨hh, hb⟩⟩)
    · exact .inl (.inl hx)
    · exact .inl (.inr ⟨hn, hh⟩)
    · exact .inr ⟨⟨hn, hh⟩, hb⟩

theorem class_of_admitted (ha : cardAdmitted s p) : ∃ c, classOfCode p.grant.cls = some c := by
  rcases h : classOfCode p.grant.cls with _ | c
  · exact absurd ⟨ha.1, ha.2.1⟩ (classOfCode_none.1 h)
  · exact ⟨c, rfl⟩

/-- Stages 1 to 7 passed. -/
theorem earlyStages_none :
    earlyStages s p (doorOf s p.node) = none ↔
      cardRead s p ∧ ¬ cardDenied s p ∧ cardAdmitted s p ∧ ¬ cardBarred s p ∧ (¬ cardEarly p ∧ ¬ cardLate s p) ∧
        (¬ cardOtherRoom s p ∧ ¬ cardOtherZone s p) ∧ ¬ cardShut s p := by
  rw [earlyStages_eq, stageCheck_refuses.orElse_none, stageDeny_refuses.orElse_none, stageClass_refuses.orElse_none,
    not_not, not_not]
  refine and_congr_right fun _ => and_congr_right fun _ => and_congr_right fun ha => ?_
  obtain ⟨c, hc⟩ := class_of_admitted ha
  rw [hc, Option.bind_some, cardStages_none (classOfCode_some.1 hc)]

/-- Stages 1 to 7, each reason under the stages before it. -/
theorem earlyStages_some (r : Reason) :
    earlyStages s p (doorOf s p.node) = some r ↔
      (¬ cardRead s p ∧ r = .misread) ∨
        (cardRead s p ∧
          ((cardDenied s p ∧ r = .revoked) ∨
            (¬ cardDenied s p ∧
              ((¬ cardAdmitted s p ∧ r = .cls) ∨
                (cardAdmitted s p ∧
                  ((cardBarred s p ∧ r = .lockdown) ∨
                    (¬ cardBarred s p ∧
                      (((cardEarly p ∧ r = .notYet) ∨ (¬ cardEarly p ∧ cardLate s p ∧ r = .expired)) ∨
                        ((¬ cardEarly p ∧ ¬ cardLate s p) ∧
                          (((cardOtherRoom s p ∧ r = .room) ∨ (cardOtherZone s p ∧ r = .zone)) ∨
                            ((¬ cardOtherRoom s p ∧ ¬ cardOtherZone s p) ∧ cardShut s p ∧ r = .hours))))))))))) := by
  rw [earlyStages_eq, stageCheck_refuses.orElse_some, stageDeny_refuses.orElse_some, stageClass_refuses.orElse_some,
    not_not, not_not]
  refine or_congr_right (and_congr_right fun _ => or_congr_right (and_congr_right fun _ =>
    or_congr_right (and_congr_right fun ha => ?_)))
  obtain ⟨c, hc⟩ := class_of_admitted ha
  rw [hc, Option.bind_some, cardStages_some (classOfCode_some.1 hc)]

/-- Stages 0 to 7 passed, as the decision runs them. -/
theorem cardPlaced_iff : cardPlaced s p ↔ ¬ heldReleased s p ∧ earlyStages s p (doorOf s p.node) = none := by
  rw [earlyStages_none]
  unfold cardPlaced cardTimely
  tauto

theorem decidePresentation_release : decidePresentation s p = .release ↔ heldReleased s p := by
  rw [← stageRelease_iff]
  unfold decidePresentation
  dsimp only
  split
  · next h => simp [h]
  · next h =>
    have late : ∀ c, lateStages s c p (doorOf s p.node) ≠ .release := fun c => by
      unfold lateStages
      repeat' split
      all_goals nofun
    split
    · simp [h]
    · simp [h, late]
    · simp [h]

/-- The decision past stage 0: of the early stages the first to refuse, else of the late ones. -/
theorem decidePresentation_placed (h : cardPlaced s p) :
    ∃ c, classOfCode p.grant.cls = some c ∧ decidePresentation s p = lateStages s c p (doorOf s p.node) := by
  obtain ⟨c, hc⟩ := class_of_admitted (s := s) h.1.2.2.2.1
  obtain ⟨hrel, hearly⟩ := cardPlaced_iff.1 h
  refine ⟨c, hc, ?_⟩
  unfold decidePresentation
  simp only [hearly, hc, mt stageRelease_iff.1 hrel, Bool.false_eq_true, if_false]

theorem decidePresentation_early {r : Reason} (hrel : ¬ heldReleased s p)
    (h : earlyStages s p (doorOf s p.node) = some r) : decidePresentation s p = .refuse r := by
  unfold decidePresentation
  simp only [h, mt stageRelease_iff.1 hrel, Bool.false_eq_true, if_false]

theorem decidePresentation_refuse (r : Reason) :
    decidePresentation s p = .refuse r ↔
      (¬ heldReleased s p ∧ earlyStages s p (doorOf s p.node) = some r) ∨ (cardPlaced s p ∧ lateRefuses s p r) := by
  by_cases hrel : heldReleased s p
  · rw [decidePresentation_release.2 hrel]
    simp [hrel, cardPlaced_iff]
  · rcases he : earlyStages s p (doorOf s p.node) with _ | x
    · have hplaced := cardPlaced_iff.2 ⟨hrel, he⟩
      obtain ⟨c, hc, hd⟩ := decidePresentation_placed hplaced
      rw [hd, lateStages_refuse (classOfCode_some.1 hc) hplaced.1.2.2.2.1]
      simp [hplaced]
    · rw [decidePresentation_early hrel he]
      simp [hrel, cardPlaced_iff, he]

theorem decidePresentation_refuses (r : Reason) : decidePresentation s p = .refuse r ↔ refusedFor s p r := by
  rw [decidePresentation_refuse, earlyStages_some]
  cases r
  all_goals simp only [refusedFor, lateRefuses, barRefuses, cardValid, cardTimely, reduceCtorEq, and_false, or_false,
    false_or, and_true, and_assoc]

end

/-- Settles O11: RELEASE by stage 0, and every reason of a refusal by the stage that gives it. -/
theorem earlyStagesRefuseInOrder : Obligations.EarlyStagesRefuseInOrder := by
  intro s p
  have refuses := decidePresentation_refuses (s := s) (p := p)
  exact ⟨decidePresentation_release, refuses .misread, refuses .revoked, refuses .cls, refuses .lockdown, refuses .notYet,
    refuses .expired, refuses .room, refuses .zone, refuses .hours, refuses .vacant, refuses .genOld, refuses .genFuture,
    refuses .privacy, refuses .option, refuses .capped, refuses .inUse⟩

end Sys2Proof.Machine
end

section
/-!
The grants of a decision (05_admission.md, R73 to R88; 08_minibars.md, R138 to R141, R150): which cards the stages let through, and
what a grant leaves.
-/

namespace Sys2Proof.Machine

/-! ### What the stages ask, as conditions of a grant -/

section
variable {s : State} {p : Presentation} {c : CardClass} {i : Slot}

theorem lateStages_grant (hc : p.grant.cls = codeOf c) (c' : CardClass) (m : Option MinibarGrant) :
    lateStages s c p (doorOf s p.node) = .grant c' m ↔
      c = c' ∧ (p.grant.cls = 1 → cardOccupied s p ∧ cardDistance s p < cardSpan s p) ∧ ¬ cardHidden s p ∧
        stageMinibar s c p.node p.grant (doorOf s p.node) = .ok m := by
  have passed : (stageRoom s c p.grant <|> stagePrivacy s c p.grant (doorOf s p.node)) = none ↔
      (p.grant.cls = 1 → cardOccupied s p ∧ cardDistance s p < cardSpan s p) ∧ ¬ cardHidden s p := by
    rw [orElse_none, stageRoom_passes hc, (stagePrivacy_refuses hc).passes_iff]
  rw [← and_assoc (a := _ → _), ← passed]
  unfold lateStages
  rcases (stageRoom s c p.grant <|> stagePrivacy s c p.grant (doorOf s p.node)) with _ | x
  · rcases stageMinibar s c p.node p.grant (doorOf s p.node) with e | k <;> simp
  · simp

/-- A decision grants where the card passed stages 0 to 9 and stage 10 gives a grant (R74). -/
theorem decidePresentation_grant (c : CardClass) (m : Option MinibarGrant) :
    decidePresentation s p = .grant c m ↔
      p.grant.cls = codeOf c ∧ cardValid s p ∧ ¬ cardHidden s p ∧
        stageMinibar s c p.node p.grant (doorOf s p.node) = .ok m := by
  by_cases hplaced : cardPlaced s p
  · obtain ⟨c', hc', hd⟩ := decidePresentation_placed hplaced
    have hcode := classOfCode_some.1 hc'
    rw [hd, lateStages_grant hcode]
    unfold cardValid
    constructor
    · rintro ⟨rfl, hroom, hrest⟩
      exact ⟨hcode, ⟨hplaced, hroom⟩, hrest⟩
    · rintro ⟨hc, ⟨-, hroom⟩, hrest⟩
      have : c' = c := Option.some.inj (hc'.symm.trans (classOfCode_some.2 hc))
      subst this
      exact ⟨rfl, hroom, hrest⟩
  · refine iff_of_false (fun h => ?_) fun h => hplaced h.2.1.1
    by_cases hrel : heldReleased s p
    · rw [decidePresentation_release.2 hrel] at h
      cases h
    · rcases he : earlyStages s p (doorOf s p.node) with _ | x
      · exact hplaced (cardPlaced_iff.2 ⟨hrel, he⟩)
      · rw [decidePresentation_early hrel he] at h
        cases h

/-- Stage 10 does nothing at a door (R85). -/
theorem stageMinibar_door (hk : (doorOf s p.node).kind ≠ .minibar) (m : Option MinibarGrant) :
    stageMinibar s c p.node p.grant (doorOf s p.node) = .ok m ↔ m = none := by
  rw [stageMinibar, if_neg hk, Except.ok.injEq, eq_comm]

theorem not_cardDenied : ¬ cardDenied s p ↔ ∀ e ∈ s.store.deny, e.serial ≠ p.grant.serial := by simp [cardDenied]

theorem not_cardEarly : ¬ cardEarly p ↔ p.grant.start.toNat ≤ p.capture.minute.toNat := Nat.not_lt

theorem not_cardLate :
    ¬ cardLate s p ↔
      (p.grant.finish = 16777215 ∨
        p.capture.minute.toNat < p.grant.finish.toNat + (if p.grant.cls = 1 then (configOf s).grace.toNat else 0)) := by
  rw [cardLate, not_and_or, not_not, Nat.not_le]

theorem not_cardLate_guest (hc : p.grant.cls = 1) :
    ¬ cardLate s p ↔
      (p.grant.finish = 16777215 ∨ p.capture.minute.toNat < p.grant.finish.toNat + (configOf s).grace.toNat) := by
  rw [not_cardLate, if_pos hc]

theorem not_cardLate_other (hc : p.grant.cls ≠ 1) :
    ¬ cardLate s p ↔ (p.grant.finish = 16777215 ∨ p.capture.minute.toNat < p.grant.finish.toNat) := by
  rw [not_cardLate, if_neg hc, Nat.add_zero]

theorem cardRoom_found (hi : findRoom s p.grant.room = some i) : cardRoom s p = some (dynOf s i) := by
  rw [cardRoom, hi, Option.map_some]

theorem cardOccupied_found (hi : findRoom s p.grant.room = some i) : cardOccupied s p ↔ (dynOf s i).occupied = true := by
  rw [cardOccupied, cardRoom_found hi, Option.map_some, Option.some.injEq]

theorem cardDistance_found (hi : findRoom s p.grant.room = some i) :
    cardDistance s p = (p.grant.gen - (dynOf s i).accepted).toNat := by rw [cardDistance, cardRoom_found hi]; rfl

theorem cardSpan_found (hi : findRoom s p.grant.room = some i) :
    cardSpan s p = ((dynOf s i).issued - (dynOf s i).accepted + 1).toNat := by rw [cardSpan, cardRoom_found hi]; rfl

theorem cardAdmitted_door (hk : (doorOf s p.node).kind = .roomDoor ∨ (doorOf s p.node).kind = .commonGate)
    (hc : p.grant.cls = codeOf c) : cardAdmitted s p := by
  rw [cardAdmitted, hc, ← or_assoc]
  exact ⟨by cases c <;> decide, by cases c <;> decide, .inl hk⟩

/-- A guest's card past stages 0 to 8 at a door under NORMAL. -/
theorem cardValid_guestDoor (hn : s.override.effective = .normal)
    (hk : (doorOf s p.node).kind = .roomDoor ∨ (doorOf s p.node).kind = .commonGate) (hc : p.grant.cls = 1)
    (hi : findRoom s p.grant.room = some i) :
    cardValid s p ↔
      (verifies (configOf s).siteCode p.grant = true ∧ (∀ e ∈ s.store.deny, e.serial ≠ p.grant.serial) ∧
          p.grant.start.toNat ≤ p.capture.minute.toNat ∧
          (p.grant.finish = 16777215 ∨ p.capture.minute.toNat < p.grant.finish.toNat + (configOf s).grace.toNat) ∧
          (dynOf s i).occupied = true ∧
          (p.grant.gen - (dynOf s i).accepted).toNat < ((dynOf s i).issued - (dynOf s i).accepted + 1).toNat) ∧
        ¬ cardOtherRoom s p ∧ ¬ cardOtherZone s p ∧ ¬ cardShut s p := by
  have hrel : ¬ heldReleased s p := by simp [heldReleased, hn]
  have hbar : ¬ cardBarred s p := by simp [cardBarred, hn]
  have hadm : cardAdmitted s p := cardAdmitted_door (c := .guest) hk hc
  rw [cardValid, cardPlaced, cardTimely, cardRead, not_cardDenied, not_cardEarly, not_cardLate_guest hc, cardOccupied_found hi,
    cardDistance_found hi, cardSpan_found hi]
  simp only [hrel, hbar, hadm, hc, not_false_eq_true, true_and, true_implies]
  constructor
  · rintro ⟨⟨⟨hread, hdeny, hstart, hend⟩, hplace⟩, hoccupied, hspan⟩
    exact ⟨⟨hread, hdeny, hstart, hend, hoccupied, hspan⟩, hplace⟩
  · rintro ⟨⟨hread, hdeny, hstart, hend, hoccupied, hspan⟩, hplace⟩
    exact ⟨⟨⟨hread, hdeny, hstart, hend⟩, hplace⟩, hoccupied, hspan⟩

/-- A card of another class past stages 0 to 8 at a door without RELEASE. -/
theorem cardValid_otherDoor (hn : s.override.effective ≠ .release)
    (hk : (doorOf s p.node).kind = .roomDoor ∨ (doorOf s p.node).kind = .commonGate) (hc : p.grant.cls = codeOf c)
    (hg : p.grant.cls ≠ 1) :
    cardValid s p ↔
      verifies (configOf s).siteCode p.grant = true ∧ (∀ e ∈ s.store.deny, e.serial ≠ p.grant.serial) ∧
        ¬ cardBarred s p ∧ p.grant.start.toNat ≤ p.capture.minute.toNat ∧
        (p.grant.finish = 16777215 ∨ p.capture.minute.toNat < p.grant.finish.toNat) ∧
        ¬ cardOtherZone s p ∧ ¬ cardShut s p := by
  have hrel : ¬ heldReleased s p := by simp [heldReleased, hn]
  have hroom : ¬ cardOtherRoom s p := fun h => hg h.1
  have hadm : cardAdmitted s p := cardAdmitted_door hk hc
  rw [cardValid, cardPlaced, cardTimely, cardRead, not_cardDenied, not_cardEarly, not_cardLate_other hg]
  simp only [hrel, hroom, hadm, hg, not_false_eq_true, true_and, false_implies, and_true, and_assoc]

/-- Which guests a door's place and privacy let through (R81, R82, R84). -/
theorem guestDoor_passes (hk : (doorOf s p.node).kind = .roomDoor) (hc : p.grant.cls = 1)
    (hi : findRoom s p.grant.room = some i) :
    (¬ cardOtherRoom s p ∧ ¬ cardOtherZone s p ∧ ¬ cardShut s p) ∧ ¬ cardHidden s p ↔
      p.grant.room = (doorOf s p.node).room ∧ (dynOf s i).privacy = false := by
  have hroom : ¬ cardOtherRoom s p ↔ p.grant.room = (doorOf s p.node).room := by simp [cardOtherRoom, hk, hc]
  have hzone : ¬ cardOtherZone s p := by simp [cardOtherZone, hk, hc]
  have hshut : ¬ cardShut s p := by simp [cardShut, hk, hc]
  simp only [hroom, hzone, hshut, not_false_eq_true, and_true]
  refine and_congr_right fun he => ?_
  rw [he] at hi
  simp [cardHidden, hk, hc, hi]

/-- Which guests a gate's zone lets through (R81, R82). -/
theorem guestGate_passes (hk : (doorOf s p.node).kind = .commonGate) (hc : p.grant.cls = 1) :
    (¬ cardOtherRoom s p ∧ ¬ cardOtherZone s p ∧ ¬ cardShut s p) ∧ ¬ cardHidden s p ↔
      p.grant.zones.getLsbD (doorOf s p.node).zone.val = true ∧
        windowOpen (zoneOf s (doorOf s p.node).zone) (p.capture.minute.toNat % 1440) = true := by
  have hroom : ¬ cardOtherRoom s p := by simp [cardOtherRoom, hk]
  have hzone : ¬ cardOtherZone s p ↔ p.grant.zones.getLsbD (doorOf s p.node).zone.val = true := by
    simp only [cardOtherZone, hk, hc, and_self, true_or, true_and, Bool.not_eq_false]
  have hshut : ¬ cardShut s p ↔
      windowOpen (zoneOf s (doorOf s p.node).zone) (p.capture.minute.toNat % 1440) = true := by simp [cardShut, hk, hc]
  have hhidden : ¬ cardHidden s p := by simp [cardHidden, hk]
  simp only [hroom, hzone, hshut, hhidden, not_false_eq_true, true_and, and_true]

/-- Which cards of the other classes a door's level lets through (R79). -/
theorem not_cardBarred_door (hk : (doorOf s p.node).kind = .roomDoor ∨ (doorOf s p.node).kind = .commonGate)
    (hc : p.grant.cls = codeOf c) :
    ¬ cardBarred s p ↔
      (s.override.effective = .lockdown →
        c = .master ∨ c = .emergency ∨ (c = .staff ∧ cardProfiled s p fun q => q.lockdownAccess)) := by
  unfold cardBarred
  rw [hc]
  cases c <;> simp [codeOf, hk]

/-- Which cards of the other classes the node's zone lets through (R81). -/
theorem not_cardOtherZone_other (hc : p.grant.cls = codeOf c) (hg : c ≠ .guest) :
    ¬ cardOtherZone s p ↔ (c ≠ .emergency → p.grant.zones.getLsbD (doorOf s p.node).zone.val = true) := by
  unfold cardOtherZone
  rw [hc]
  cases c
  case guest => exact absurd rfl hg
  all_goals simp only [codeOf, ne_eq, reduceCtorEq, not_false_eq_true, true_implies]
  all_goals simp only [not_and, Bool.not_eq_false]
  all_goals simp

/-- Which shifts let a card through (R82). -/
theorem not_cardShut_other (hc : p.grant.cls = codeOf c) (hg : c ≠ .guest) :
    ¬ cardShut s p ↔ (c = .staff ∨ c = .service → cardProfiled s p fun q => shiftOpen q p.capture.minute) := by
  unfold cardShut
  rw [hc]
  cases c
  case guest => exact absurd rfl hg
  all_goals simp [codeOf]

/-- Which cards of the other classes privacy lets through (R84). -/
theorem not_cardHidden_door (hk : (doorOf s p.node).kind = .roomDoor ∨ (doorOf s p.node).kind = .commonGate)
    (hc : p.grant.cls = codeOf c) (hg : c ≠ .guest) :
    ¬ cardHidden s p ↔
      ((doorOf s p.node).kind = .roomDoor ∧ (∃ i, findRoom s (doorOf s p.node).room = some i ∧ (dynOf s i).privacy = true) →
        c = .emergency ∨ (c = .master ∧ p.grant.options.getLsbD 1 = true)) := by
  have hprivate : ((findRoom s (doorOf s p.node).room).map fun i => (dynOf s i).privacy) = some true ↔
      ∃ i, findRoom s (doorOf s p.node).room = some i ∧ (dynOf s i).privacy = true := Option.map_eq_some_iff
  unfold cardHidden
  rw [hprivate, hc]
  rcases hk with hk | hk
  · cases c
    case guest => exact absurd rfl hg
    all_goals simp only [hk, codeOf]
    all_goals simp
  · simp [hk]

/-! ### What a grant leaves (R86 to R88) -/

/-- A command that replaces any pending one but HOLD_OPEN: a decision's GRANT or HOLD_OPEN (R42). -/
structure GrantCommand (c : Command) : Prop where
  outlasted : ∀ old, outlasts old c = true ↔ old = .holdOpen
  taken : ∀ m, passTaken m c = true

theorem grantCommand_grant (d : Byte) : GrantCommand (.grant d) :=
  ⟨fun old => by cases old <;> simp [outlasts], fun _ => rfl⟩

theorem grantCommand_holdOpen : GrantCommand .holdOpen := ⟨fun old => by cases old <;> simp [outlasts], fun _ => rfl⟩

/-- A grant's command, queued as its lines say (R42, R87). -/
theorem grantQueued_of_lines {t : State} {n : Node} {c : Command} (hc : GrantCommand c)
    (h : t.lines = if (lineOf s n.line).mode = .decide then linesQueued s n c else s.lines) : grantQueued s t n c := by
  refine ⟨h, fun hm => ?_⟩
  rw [if_pos hm] at h
  rw [nodeOf, lineOf_of_linesQueued h, if_pos rfl, lineQueued_pending, ← nodeOf]
  split
  · next hn => rw [hn]; rfl
  · next old ho =>
    rw [ho]
    simp only [hc.outlasted, Option.some.injEq]
    split
    · next hold => rw [hold]
    · rfl

/-- A decision that grants, its effects `u` before the ENTRY record leaving lines and tables' static parts (R73, R87, R88). -/
theorem exec_decision_granted {v : Verdict} {u : State} (hop : opInHand s (.decision p))
    (hv : decidePresentation s p = v) (hcfg : configured (doorOf s p.node) = true)
    (hold : ∀ c, (nodeOf s p.node).command = some c → isSessionCommand c = false)
    (hc : GrantCommand (verdictCommand s p.node v)) (hu : verdictEffects (setInHand s none) p v = u)
    (hlines : u.lines = s.lines) (hdoor : doorOf u p.node = doorOf s p.node) :
    exec (.decision .complete) s =
      .next (settle ((appendRecord u (entryRecord s p v)).withLines
        (if (lineOf s p.node.line).mode = .decide then linesQueued s p.node (verdictCommand s p.node v) else s.lines))) := by
  have hdone : completeDecision (setInHand s none) p =
      queueIfDecide (appendRecord u (entryRecord s p v)) p.node (verdictCommand s p.node v) := by
    have hv' : decidePresentation (setInHand s none) p = v := hv
    unfold completeDecision
    rw [hv', ← hu]
    rfl
  have hexec : exec (.decision .complete) s =
      .next (settle (queueIfDecide (appendRecord u (entryRecord s p v)) p.node (verdictCommand s p.node v))) := by
    rw [← hdone]
    exact runForm_complete (grant := grantDecision) (by simp [finishDecision, hop.1, hop.2])
  obtain ⟨w, hw⟩ : ∃ w, w = appendRecord u (entryRecord s p v) := ⟨_, rfl⟩
  have hl : w.lines = s.lines := by rw [hw]; simpa using hlines
  have hline : lineOf w p.node.line = lineOf s p.node.line := lineOf_eq_of_lines hl _
  have hcfg' : configured (doorOf w p.node) = true := by
    rw [hw, doorOf_congr (s := u) (by simp) (by simp), hdoor, hcfg]
  rw [hexec, ← hw, queueIfDecide, hline]
  split
  · rw [queueCommand_plain w p.node _ hcfg' (hc.taken _) fun old ho => .inl (hold old (by rwa [nodeOf, hline] at ho))]
    rw [linesQueued, linesQueued, hl, hline]
  · rw [← hl]
    rfl

/-- The SUPERSEDE record of a guest's card granted above the accepted generation (R86). -/
def supersedeRecords (s : State) (p : Presentation) (i : Slot) : List Record :=
  if (dynOf s i).accepted = p.grant.gen then []
  else
    [{ stampedRecord s .supersede with
      node := some (.node p.node), serial := some p.grant.serial, room := some p.grant.room,
      detail := .supersede (dynOf s i).accepted p.grant.gen }]

/-- A guest's card makes its generation the accepted one (R86). -/
theorem supersede_guest (hi : findRoom s p.grant.room = some i) :
    DynSet i { dynOf s i with accepted := p.grant.gen } s (supersede s p .guest) ∧
      appendsAll s (supersede s p .guest) (supersedeRecords s p i) := by
  by_cases hsame : (dynOf s i).accepted = p.grant.gen
  · have hs : supersede s p .guest = s := by simp [supersede, hi, hsame]
    rw [hs, supersedeRecords, if_pos hsame, ← hsame]
    exact ⟨.refl s i, appendsAll_nil rfl⟩
  · have hs : supersede s p .guest =
        appendRecord (setDyn s i { dynOf s i with accepted := p.grant.gen })
          { stampedRecord s .supersede with
            node := some (.node p.node), serial := some p.grant.serial, room := some p.grant.room,
            detail := .supersede (dynOf s i).accepted p.grant.gen } := by simp [supersede, hi, hsame]
    rw [hs, supersedeRecords, if_neg hsame]
    exact ⟨((DynSet.refl s i).setDyn _).of_store (by simp), (appendsAll_nil (by simp)).record (by simp) _⟩

/-- No other card supersedes (R86). -/
theorem supersede_other (hc : c ≠ .guest) : supersede s p c = s := if_neg hc

/-- The ENTRY record of a guest's card granted (R88). -/
theorem entryRecord_guest {m : Option MinibarGrant} (hv : decidePresentation s p = .grant .guest m)
    (hi : findRoom s p.grant.room = some i) :
    entryRecord s p (.grant .guest m) =
      { kind := .entry, minute := p.capture.minute, second := p.capture.second, node := some (.node p.node),
        serial := some p.grant.serial, room := some p.grant.room, cls := some 1, outcome := some .grant,
        detail := .entry p.grant.gen (dynOf s i).accepted } := by
  obtain ⟨hc, ⟨hplaced, -⟩, -⟩ := (decidePresentation_grant .guest m).1 hv
  obtain ⟨hrel, hearly⟩ := cardPlaced_iff.1 hplaced
  have hcls : classOfCode p.grant.cls = some .guest := classOfCode_some.2 hc
  have hread : verifies (configOf s).siteCode p.grant = true := (earlyStages_none.1 hearly).1
  have hdetail : entryDetail s p = .entry p.grant.gen (dynOf s i).accepted := by
    simp [entryDetail, mt stageRelease_iff.1 hrel, hcls, hearly, hi]
  simp only [entryRecord, hread, hcls, hdetail, verdictOutcome, decide_true, Bool.and_self, if_true]
  rw [hc]
  rfl

/-- The ENTRY record of another card granted (R88). -/
theorem entryRecord_other {m : Option MinibarGrant} (hv : decidePresentation s p = .grant c m) (hg : c ≠ .guest) :
    entryRecord s p (.grant c m) =
      { kind := .entry, minute := p.capture.minute, second := p.capture.second, node := some (.node p.node),
        serial := some p.grant.serial, room := none, cls := some p.grant.cls, outcome := some .grant,
        detail := .absent } := by
  obtain ⟨hc, ⟨hplaced, -⟩, -⟩ := (decidePresentation_grant c m).1 hv
  have hcls : classOfCode p.grant.cls = some c := classOfCode_some.2 hc
  have hread : verifies (configOf s).siteCode p.grant = true := hplaced.1.2.1
  have hdetail : entryDetail s p = .absent := by simp [entryDetail, hcls, hg]
  simp [entryRecord, hread, hcls, hdetail, verdictOutcome, hg]

end

/-- Settles O13: the stages of a guest's card at a door and at a gate, then the supersession and the grant. -/
theorem guestCardOpensDoor : Obligations.GuestCardOpensDoor := by
  intro s p i hop hnormal hcls hi node g d valid
  have hcode : p.grant.cls = codeOf .guest := hcls
  refine ⟨fun hk => ?_, fun hk => ?_, fun hv hold => ?_⟩
  · have hdoor : (doorOf s p.node).kind = .roomDoor ∨ (doorOf s p.node).kind = .commonGate := .inl hk
    have hbar : (doorOf s p.node).kind ≠ .minibar := fun h => by rw [hk] at h; cases h
    rw [decidePresentation_grant, stageMinibar_door hbar, cardValid_guestDoor hnormal hdoor hcls hi, and_assoc,
      ← and_assoc (b := ¬ cardHidden s p), guestDoor_passes hk hcls hi]
    simp only [hcode, true_and, and_true]
    rfl
  · have hdoor : (doorOf s p.node).kind = .roomDoor ∨ (doorOf s p.node).kind = .commonGate := .inr hk
    have hbar : (doorOf s p.node).kind ≠ .minibar := fun h => by rw [hk] at h; cases h
    rw [decidePresentation_grant, stageMinibar_door hbar, cardValid_guestDoor hnormal hdoor hcls hi, and_assoc,
      ← and_assoc (b := ¬ cardHidden s p), guestGate_passes hk hcls]
    simp only [hcode, true_and, and_true]
    rfl
  · obtain ⟨-, hvalid, -⟩ := (decidePresentation_grant .guest none).1 hv
    have hcfg : configured (doorOf s p.node) = true := by
      rcases hvalid.1.1.2.2.2.1.2.2 with hk | hk | ⟨hk, -⟩ <;> simp [configured, hk]
    obtain ⟨u, hu⟩ : ∃ u, u = supersede (setInHand s none) p .guest := ⟨_, rfl⟩
    obtain ⟨hset, hrecords⟩ := supersede_guest (s := setInHand s none) (p := p) (i := i) hi
    rw [← hu] at hset hrecords
    have hdoor : doorOf u p.node = doorOf s p.node := by
      have hl : u.loader = s.loader := by simp [hu]
      simp only [doorOf, doorAt, hl, show u.store.doors = s.store.doors by rw [hset]; rfl]
    refine ⟨_, exec_decision_granted hop hv hcfg hold (grantCommand_grant _) hu.symm (by simp [hu]) hdoor,
      unchangedBut.settled ?_, ?_, ?_, ?_, grantQueued_of_lines (grantCommand_grant _) ?_⟩
    · rw [unchangedBut_iff]
      simp [hu]
    · simp [hu, setInHand]
    · exact Eq.trans (by simp) hset
    · rw [entryRecord_guest hv hi]
      exact ((hrecords.record (by simp [hu]) _).of_journal rfl).settled
    · simp only [settle_frame]
      rfl

/-- The ENTRY record under RELEASE: the card's fields only if it verified, and no generations (R75, R88). -/
theorem entryRecord_release {s : State} {p : Presentation} (hrel : heldReleased s p) :
    entryRecord s p .release =
      { kind := .entry, minute := p.capture.minute, second := p.capture.second, node := some (.node p.node),
        serial := if verifies (configOf s).siteCode p.grant then some p.grant.serial else none,
        room := if verifies (configOf s).siteCode p.grant = true ∧ p.grant.cls = 1 then some p.grant.room else none,
        cls := if verifies (configOf s).siteCode p.grant then some p.grant.cls else none,
        outcome := some .grantRelease, detail := .absent } := by
  have hdetail : entryDetail s p = .absent := by simp [entryDetail, stageRelease_iff.2 hrel]
  simp only [entryRecord, hdetail, verdictOutcome, Bool.and_eq_true, decide_eq_true_eq, guest_of_code]

/-- A grant that changes no table: its ENTRY record, and its command queued (R87, R88). -/
theorem exec_decision_plain {s : State} {p : Presentation} {v : Verdict} (hop : opInHand s (.decision p))
    (hv : decidePresentation s p = v) (hcfg : configured (doorOf s p.node) = true)
    (hold : ∀ c, (nodeOf s p.node).command = some c → isSessionCommand c = false)
    (hc : GrantCommand (verdictCommand s p.node v))
    (heff : verdictEffects (setInHand s none) p v = setInHand s none) :
    ∃ t, exec (.decision .complete) s = .next t ∧ unchangedBut [.lines, .port, .journal] s t ∧ t.port.inHand = none ∧
      grantQueued s t p.node (verdictCommand s p.node v) ∧ appendsAll s t [entryRecord s p v] := by
  refine ⟨_, exec_decision_granted hop hv hcfg hold hc heff (by simp) rfl, unchangedBut.settled ?_, ?_,
    grantQueued_of_lines hc ?_, appendsAll.settled ?_⟩
  · rw [unchangedBut_iff]
    simp
  · simp [setInHand]
  · simp only [settle_frame]
    rfl
  · have hnil : appendsAll s (setInHand s none) [] := appendsAll_nil (by simp)
    exact (hnil.record (by simp) _).of_journal rfl

/-- Settles O14: the grant of RELEASE; then the stages of the four classes that hold no room, and their grant. -/
theorem grantsChangeNoTable : Obligations.GrantsChangeNoTable := by
  refine ⟨fun s p hop hrelease hdoor hold => ?_, ?_⟩
  · have hrel : heldReleased s p := ⟨hrelease, hdoor⟩
    have hcfg : configured (doorOf s p.node) = true := configured_of_isDoor (isDoor_iff.2 hdoor)
    obtain ⟨t, hexec, hsame, hport, hqueued, hrecords⟩ :=
      exec_decision_plain hop (decidePresentation_release.2 hrel) hcfg hold grantCommand_holdOpen rfl
    exact ⟨t, hexec, hsame, hport, hqueued, entryRecord_release hrel ▸ hrecords⟩
  · intro s p c hop node g t0 profiled hidden hdoor hrelease hclass
    have hcode : p.grant.cls = codeOf c := by
      rcases hclass with ⟨rfl, h⟩ | ⟨rfl, h⟩ | ⟨rfl, h⟩ | ⟨rfl, h⟩ <;> exact h
    have hguest : c ≠ .guest := by rintro rfl; simp at hclass
    have hone : p.grant.cls ≠ 1 := fun h => hguest (Option.some.inj ((classOfCode_some.2 hcode).symm.trans ((guest_of_code _).2 h)))
    have hbar : (doorOf s p.node).kind ≠ .minibar := by rcases hdoor with hk | hk <;> rw [hk] <;> nofun
    have hcfg : configured (doorOf s p.node) = true := configured_of_isDoor (isDoor_iff.2 hdoor)
    refine ⟨?_, fun hv hold => ?_⟩
    · rw [decidePresentation_grant, stageMinibar_door hbar, cardValid_otherDoor hrelease hdoor hcode hone,
        not_cardBarred_door hdoor hcode, not_cardOtherZone_other hcode hguest, not_cardShut_other hcode hguest,
        not_cardHidden_door hdoor hcode hguest]
      simp only [hcode, true_and, and_true, and_assoc]
      rfl
    · obtain ⟨t, hexec, hsame, hport, hqueued, hrecords⟩ :=
        exec_decision_plain hop hv hcfg hold (grantCommand_grant _) (supersede_other hguest)
      exact ⟨t, hexec, hsame, hport, hqueued, entryRecord_other hv hguest ▸ hrecords⟩

end Sys2Proof.Machine
end

section
/-!
Cards at a minibar (08_minibars.md, R138 to R141, R150): which cards stages 1 to 10 let through, and what the grant leaves of the
room record, the RELATCH deadline and the journal.
-/

namespace Sys2Proof.Machine

/-! ### Which cards a minibar grants -/

section
variable {s : State} {p : Presentation} {i : Slot} {m : MinibarPart}

theorem boundPart_found (hi : boundRoom s p.node = some i) (hm : partOf s i = some m) :
    boundPart s p.node = some (i, m) := by simp [boundPart, hi, hm]

/-- The grants of a GUEST card at a minibar (R139). -/
theorem judgeGuest_grants (hi : boundRoom s p.node = some i) (hm : partOf s i = some m) (k : MinibarGrant) :
    judgeGuest s p.node p.grant = .ok k ↔
      p.grant.options.getLsbD 0 = true ∧
        ((m.state = .guest ∧ k = .openGuest) ∨
          (m.state = .openGuest ∧ m.tally.toNat < (roomOf s i).limit.toNat ∧ k = .reopen)) := by
  unfold judgeGuest hasMinibar
  rcases p.grant.options.getLsbD 0 with _ | _
  · simp
  · simp only [Bool.not_true, Bool.false_eq_true, if_false, boundPart_found hi hm, true_and]
    cases hs : m.state
    case openGuest =>
      by_cases hl : (roomOf s i).limit.toNat ≤ m.tally.toNat
      · simp [hl, Nat.not_lt.2 hl]
      · simp [hl, Nat.lt_of_not_le hl, eq_comm]
    all_goals simp [eq_comm]

/-- The grants of a SERVICE card at a minibar (R140). -/
theorem judgeService_grants (hi : boundRoom s p.node = some i) (hm : partOf s i = some m) (k : MinibarGrant) :
    judgeService s p.node = .ok k ↔
      (m.state = .restock ∧ k = .restockEnd) ∨
        ((m.state = .locked ∨ m.state = .guest ∨ m.state = .capped) ∧ k = .restockBegin) := by
  simp only [judgeService, boundPart_found hi hm]
  cases hs : m.state
  all_goals simp [eq_comm]

theorem map_some_ok {x : Except Reason MinibarGrant} {k : MinibarGrant} : x.map some = .ok (some k) ↔ x = .ok k := by
  cases x <;> simp [Except.map]

/-- Stages 8 to 10 of a guest whose room's record is held (R83). -/
theorem cardOccupied_iff :
    (cardOccupied s p ∧ cardDistance s p < cardSpan s p) ↔
      ∃ j, findRoom s p.grant.room = some j ∧ (dynOf s j).occupied = true ∧
        (p.grant.gen - (dynOf s j).accepted).toNat < ((dynOf s j).issued - (dynOf s j).accepted + 1).toNat := by
  rcases hj : findRoom s p.grant.room with _ | j
  · simp [cardOccupied, cardRoom, hj]
  · rw [cardOccupied_found hj, cardDistance_found hj, cardSpan_found hj]
    simp

/-- A guest's card past stages 0 to 9 at a minibar. -/
theorem guestBar_passes (hk : (doorOf s p.node).kind = .minibar) (hc : p.grant.cls = 1) :
    cardValid s p ∧ ¬ cardHidden s p ↔
      (verifies (configOf s).siteCode p.grant = true ∧ (∀ e ∈ s.store.deny, e.serial ≠ p.grant.serial) ∧
          p.grant.start.toNat ≤ p.capture.minute.toNat) ∧
        (p.grant.finish = 16777215 ∨ p.capture.minute.toNat < p.grant.finish.toNat + (configOf s).grace.toNat) ∧
        p.grant.room = (doorOf s p.node).room ∧
        ∃ j, findRoom s p.grant.room = some j ∧ (dynOf s j).occupied = true ∧
          (p.grant.gen - (dynOf s j).accepted).toNat < ((dynOf s j).issued - (dynOf s j).accepted + 1).toNat := by
  have hrel : ¬ heldReleased s p := by simp [heldReleased, hk]
  have hbar : ¬ cardBarred s p := by simp [cardBarred, hk]
  have hadm : cardAdmitted s p := by simp [cardAdmitted, hk, hc]
  have hroom : ¬ cardOtherRoom s p ↔ p.grant.room = (doorOf s p.node).room := by simp [cardOtherRoom, hk, hc]
  have hzone : ¬ cardOtherZone s p := by simp [cardOtherZone, hk, hc]
  have hshut : ¬ cardShut s p := by simp [cardShut, hk, hc]
  have hhidden : ¬ cardHidden s p := by simp [cardHidden, hk, hc]
  rw [cardValid, cardPlaced, cardTimely, cardRead, not_cardDenied, not_cardEarly, not_cardLate_guest hc, cardOccupied_iff]
  simp only [hrel, hbar, hadm, hroom, hzone, hshut, hhidden, hc, not_false_eq_true, true_and, and_true, true_implies, and_assoc]

/-- A service card past stages 0 to 9 at a minibar. -/
theorem serviceBar_passes (hk : (doorOf s p.node).kind = .minibar) (hc : p.grant.cls = 3) :
    cardValid s p ∧ ¬ cardHidden s p ↔
      (verifies (configOf s).siteCode p.grant = true ∧ (∀ e ∈ s.store.deny, e.serial ≠ p.grant.serial) ∧
          p.grant.start.toNat ≤ p.capture.minute.toNat) ∧
        (p.grant.finish = 16777215 ∨ p.capture.minute.toNat < p.grant.finish.toNat) ∧
        p.grant.zones.getLsbD (doorOf s p.node).zone.val = true ∧
        (∃ k : Fin 32, p.grant.room.toNat = k.val ∧ shiftOpen (profileOf s k) p.capture.minute = true) ∧
        ∀ j, findRoom s (doorOf s p.node).room = some j → (dynOf s j).privacy = false := by
  have hcode : p.grant.cls = codeOf .service := hc
  have hone : p.grant.cls ≠ 1 := by rw [hc]; decide
  have hrel : ¬ heldReleased s p := by simp [heldReleased, hk]
  have hbar : ¬ cardBarred s p := by simp [cardBarred, hk]
  have hadm : cardAdmitted s p := by simp [cardAdmitted, hk, hc]
  have hroom : ¬ cardOtherRoom s p := fun h => hone h.1
  have hzone : ¬ cardOtherZone s p ↔ p.grant.zones.getLsbD (doorOf s p.node).zone.val = true := by
    simp [not_cardOtherZone_other hcode]
  have hshut : ¬ cardShut s p ↔ cardProfiled s p fun q => shiftOpen q p.capture.minute := by
    simp [not_cardShut_other hcode]
  have hhidden : ¬ cardHidden s p ↔
      ∀ j, findRoom s (doorOf s p.node).room = some j → (dynOf s j).privacy = false := by simp [cardHidden, hk, hc]
  rw [cardValid, cardPlaced, cardTimely, cardRead, not_cardDenied, not_cardEarly, not_cardLate_other hone, hhidden]
  simp only [hrel, hbar, hadm, hroom, hzone, hshut, hone, not_false_eq_true, true_and, and_true, false_implies, and_assoc]
  rfl

/-- What a GUEST card is granted at a minibar (R139). -/
theorem guestBar_granted (hk : (doorOf s p.node).kind = .minibar) (hi : boundRoom s p.node = some i) (hm : partOf s i = some m)
    (k : MinibarGrant) :
    decidePresentation s p = .grant .guest (some k) ↔
      p.grant.cls = 1 ∧ (cardValid s p ∧ ¬ cardHidden s p) ∧ p.grant.options.getLsbD 0 = true ∧
        ((m.state = .guest ∧ k = .openGuest) ∨
          (m.state = .openGuest ∧ m.tally.toNat < (roomOf s i).limit.toNat ∧ k = .reopen)) := by
  rw [decidePresentation_grant, stageMinibar, if_pos hk, if_pos rfl, map_some_ok, judgeGuest_grants hi hm, and_assoc]
  rfl

/-- What a SERVICE card is granted at a minibar (R140). -/
theorem serviceBar_granted (hk : (doorOf s p.node).kind = .minibar) (hi : boundRoom s p.node = some i) (hm : partOf s i = some m)
    (k : MinibarGrant) :
    decidePresentation s p = .grant .service (some k) ↔
      p.grant.cls = 3 ∧ (cardValid s p ∧ ¬ cardHidden s p) ∧
        ((m.state = .restock ∧ k = .restockEnd) ∨
          ((m.state = .locked ∨ m.state = .guest ∨ m.state = .capped) ∧ k = .restockBegin)) := by
  rw [decidePresentation_grant, stageMinibar, if_pos hk, if_neg (by decide), map_some_ok, judgeService_grants hi hm, and_assoc]
  rfl

end

/-! ### What the grant leaves -/

/-- A room record edited, and the records of that: its dynamic part becomes `d`, and nothing else of the tables changes. -/
structure PartEdited (s : State) (i : Slot) (d : RoomDyn) (rs : List Record) (w : State) : Prop where
  same : unchangedBut [.store, .port, .journal] s w
  dyn : DynSet i d s w
  records : appendsAll s w rs

section
variable {s w : State} {p : Presentation} {i : Slot} {d : RoomDyn} {rs : List Record} {m : MinibarPart}

theorem PartEdited.refl (s : State) (i : Slot) : PartEdited s i (dynOf s i) [] s where
  same := by rw [unchangedBut_iff]; simp
  dyn := .refl s i
  records := appendsAll_nil rfl

/-- The operation in hand stands apart from the tables. -/
theorem PartEdited.taken (h : PartEdited (setInHand s none) i d rs w) : PartEdited s i d rs w where
  same := by
    have hfree : unchangedBut [.store, .port, .journal] s (setInHand s none) := by rw [unchangedBut_iff]; simp
    exact hfree.step h.same
  dyn := h.dyn
  records := h.records

theorem PartEdited.superseded (hi : findRoom s p.grant.room = some i) :
    PartEdited s i { dynOf s i with accepted := p.grant.gen } (supersedeRecords s p i) (supersede s p .guest) where
  same := by rw [unchangedBut_iff]; simp
  dyn := (supersede_guest hi).1
  records := (supersede_guest hi).2

theorem PartEdited.blocks (h : PartEdited s i d rs w) :
    w.time = s.time ∧ w.lines = s.lines ∧ w.loader = s.loader ∧ w.trunk.chain = s.trunk.chain := by
  refine ⟨h.same.2 .time (by simp), h.same.2 .lines (by simp), h.same.2 .loader (by simp), ?_⟩
  have htrunk : sameBlock s w .trunk := h.same.2 .trunk (by simp)
  exact (congrArg Trunk.chain htrunk).trans rfl

/-- The tables' static parts stand. -/
theorem PartEdited.reads (h : PartEdited s i d rs w) :
    (∀ n, doorOf w n = doorOf s n) ∧ (∀ j, roomOf w j = roomOf s j) ∧ ∀ c, classOf w c = classOf s c := by
  obtain ⟨-, -, hloader, -⟩ := h.blocks
  have hstore : w.store = _ := h.dyn
  refine ⟨fun n => ?_, fun j => ?_, fun c => ?_⟩
  · simp only [doorOf, doorAt, hloader, hstore]
  · simp only [roomOf, hloader, hstore]
  · simp only [classOf, hloader, hstore]

theorem PartEdited.bound (h : PartEdited s i d rs w) (n : Node) : boundRoom w n = boundRoom s n := by
  obtain ⟨hdoor, hroom, -⟩ := h.reads
  simp only [boundRoom, findRoom, hdoor, hroom]

theorem PartEdited.part (h : PartEdited s i d rs w) : partOf w i = d.minibar := by rw [partOf, h.dyn.dyn]

theorem PartEdited.setPart (h : PartEdited s i d rs w) (m : Option MinibarPart) :
    PartEdited s i { d with minibar := m } rs (setPart w i m) where
  same := h.same.step (by rw [unchangedBut_iff]; simp)
  dyn := h.dyn.setPart m
  records := h.records.of_journal (by simp)

theorem PartEdited.appendMinibar (h : PartEdited s i d rs w) (k : RecordKind) (x : Detail) :
    PartEdited s i d (rs ++ minibarRecords s i [(k, x)]) (appendMinibar w i k x) where
  same := h.same.step (by rw [unchangedBut_iff]; simp)
  dyn := h.dyn.of_store (by simp)
  records := by
    obtain ⟨htime, -, -, hchain⟩ := h.blocks
    have hrecord : Machine.appendMinibar w i k x =
        appendRecord w
          { stampedRecord s k with
            node := (roomOf s i).minibarNode.map .node, room := some (roomOf s i).number, detail := x } := by
      rw [Machine.appendMinibar, h.reads.2.1, stampedRecord_congr (congrArg TimeUnit.clock htime)]
    rw [hrecord]
    exact h.records.record hchain _

/-- OPEN_GUEST or RESTOCK entered, with its record (R139, R140). -/
theorem PartEdited.entered (h : PartEdited s i d rs w) (hm : d.minibar = some m) (st : MinibarState) (k : RecordKind)
    (x : Detail) :
    PartEdited s i { d with minibar := some { m with state := st } } (rs ++ minibarRecords s i [(k, x)])
      (Machine.appendMinibar (setMinibarState w i st) i k x) := by
  have hpart : partOf w i = some m := h.part.trans hm
  have hset : setMinibarState w i st = Machine.setPart w i (some { m with state := st }) := by
    simp only [setMinibarState, hpart]
  rw [hset]
  exact (h.setPart _).appendMinibar k x

/-- A restock ended, with its record (R150). -/
theorem PartEdited.restockEnded (h : PartEdited s i d rs w) (hm : d.minibar = some m) (hr : m.state = .restock) :
    PartEdited s i
      { d with
        minibar := some
          { m with
            stocked := m.stable
            state := restState d.occupied (roomOf s i).limit.toNat m.tally.toNat } }
      (rs ++ minibarRecords s i (relatchDetails m)) (endRestock w i) := by
  have hpart : partOf w i = some m := h.part.trans hm
  obtain ⟨v, hv⟩ : ∃ v, v = Machine.appendMinibar (Machine.setPart w i (some { m with stocked := m.stable })) i .restock
    (.restockEnd (setSize m.stable)) := ⟨_, rfl⟩
  have hrecorded := (h.setPart (some { m with stocked := m.stable })).appendMinibar .restock (.restockEnd (setSize m.stable))
  rw [← hv] at hrecorded
  have hdetails : relatchDetails m = [(.restock, .restockEnd (setSize m.stable))] := if_pos hr
  have hend : endRestock w i = Machine.setPart v i (some (recompute v i { m with stocked := m.stable })) := by
    rw [hv, endRestock, hpart]
  rw [hdetails, hend, recompute, recomputed_eq, hrecorded.dyn.dyn, hrecorded.reads.2.1]
  exact hrecorded.setPart _

/-- What a minibar's grant leaves: the room record `d`, `relatch` for the node's RELATCH entries, the grant queued, and `rs`. -/
def barGranted (s t : State) (p : Presentation) (i : Slot) (d : RoomDyn) (relatch : List Deadline) (rs : List Record) : Prop :=
  unchangedBut [.time, .lines, .store, .port, .journal] s t ∧ t.port.inHand = none ∧
    t.store = { s.store with dyns := put s.store.dyns i d } ∧
    t.time = { s.time with deadlines := t.time.deadlines } ∧
    t.time.deadlines.filter (fun d => !(d.node == p.node && d.kind == .relatch)) =
      s.time.deadlines.filter (fun d => !(d.node == p.node && d.kind == .relatch)) ∧
    t.time.deadlines.filter (fun d => d.node == p.node && d.kind == .relatch) = relatch ∧
    grantQueued s t p.node (.grant (classOf s (doorOf s p.node).cls).openTime) ∧ appendsAll s t rs

/-- RELATCH set over the room record and the records, then ENTRY and the command (R87, R88, R141, R150). -/
theorem exec_decision_bar {c : CardClass} {k : MinibarGrant} {u : State} {relatch : List Deadline}
    (hop : opInHand s (.decision p)) (hv : decidePresentation s p = .grant c (some k))
    (hk : (doorOf s p.node).kind = .minibar)
    (hold : ∀ c, (nodeOf s p.node).command = some c → isSessionCommand c = false) (h : PartEdited s i d rs w)
    (heff : verdictEffects (setInHand s none) p (.grant c (some k)) = u)
    (hset : u = setDeadlines w u.time.deadlines)
    (hothers : u.time.deadlines.filter (fun x => !(x.node == p.node && x.kind == .relatch)) =
      w.time.deadlines.filter (fun x => !(x.node == p.node && x.kind == .relatch)))
    (hmine : u.time.deadlines.filter (fun x => x.node == p.node && x.kind == .relatch) = relatch) :
    ∃ t, exec (.decision .complete) s = .next t ∧
      barGranted s t p i d relatch (rs ++ [entryRecord s p (.grant c (some k))]) := by
  obtain ⟨htime, hlines, -, hchain⟩ := h.blocks
  have hcfg : configured (doorOf s p.node) = true := by simp [configured, hk]
  have hstore : u.store = w.store := by rw [hset]; rfl
  have hdoor : doorOf u p.node = doorOf s p.node := by
    rw [← h.reads.1]
    exact doorOf_congr (by rw [hset]; rfl) hstore _
  have hrest : unchangedBut [.time, .lines, .store, .port, .journal] w u := by
    rw [unchangedBut_iff, hset]
    simp [setDeadlines]
  obtain ⟨t, ht⟩ : ∃ t, t = settle ((appendRecord u (entryRecord s p (.grant c (some k)))).withLines
      (if (lineOf s p.node.line).mode = .decide then
        linesQueued s p.node (verdictCommand s p.node (.grant c (some k))) else s.lines)) := ⟨_, rfl⟩
  have hexec := exec_decision_granted hop hv hcfg hold (grantCommand_grant _) heff (by rw [hset]; exact hlines) hdoor
  rw [← ht] at hexec
  have httime : t.time = u.time := by simp [ht]
  have hutime : u.time = { w.time with deadlines := u.time.deadlines } := congrArg State.time hset
  rw [htime] at hothers hutime
  refine ⟨t, hexec, ?_, ?_, ?_, by rw [httime]; exact hutime, by rw [httime]; exact hothers, by rw [httime]; exact hmine,
    grantQueued_of_lines (grantCommand_grant _) ?_, ?_⟩
  · rw [ht]
    refine unchangedBut.settled (((h.same.mono (by simp)).step hrest).step ?_)
    rw [unchangedBut_iff]
    simp
  · have hhand : t.port.inHand = u.port.inHand := by simp [ht]
    rw [hhand, ← heff]
    simp [setInHand]
  · have htstore : t.store = u.store := by simp [ht]
    exact htstore.trans (hstore.trans h.dyn)
  · rw [ht]
    simp only [settle_frame]
    rfl
  · have hu : appendsAll s u rs := h.records.of_journal (by rw [hset]; rfl)
    rw [ht]
    exact ((hu.record (by rw [hset]; exact hchain) _).of_journal rfl).settled

/-- RELATCH armed for the open time of the node's class (R141). -/
theorem exec_decision_armed {c : CardClass} {k : MinibarGrant} (hop : opInHand s (.decision p))
    (hv : decidePresentation s p = .grant c (some k)) (hk : (doorOf s p.node).kind = .minibar)
    (hold : ∀ c, (nodeOf s p.node).command = some c → isSessionCommand c = false)
    (hopen : 1 ≤ (classOf s (doorOf s p.node).cls).openTime.toNat) (h : PartEdited s i d rs w)
    (heff : verdictEffects (setInHand s none) p (.grant c (some k)) = armRelatch w p.node) :
    ∃ t, exec (.decision .complete) s = .next t ∧
      barGranted s t p i d
        [{ due := s.time.tick + (classOf s (doorOf s p.node).cls).openTime.setWidth 32, node := p.node, kind := .relatch }]
        (rs ++ [entryRecord s p (.grant c (some k))]) := by
  obtain ⟨hdoor, -, hclass⟩ := h.reads
  obtain ⟨htime, -⟩ := h.blocks
  have harm : armRelatch w p.node = arm w p.node .relatch ((classOf s (doorOf s p.node).cls).openTime.setWidth 32) := by
    rw [armRelatch, doorClass, hdoor, hclass]
  rw [harm] at heff
  have hwide : ((classOf s (doorOf s p.node).cls).openTime.setWidth 32).toNat =
      (classOf s (doorOf s p.node).cls).openTime.toNat := BitVec.toNat_setWidth_of_le (by decide)
  refine exec_decision_bar hop hv hk hold h heff ?_ (arm_others _ _ _ _) ?_
  · unfold arm armAt
    split <;> rfl
  · rw [arm_entry _ _ _ _ (by rw [hdoor, hk]; rfl) (by rw [hwide]; exact hopen) (by rw [hwide]; omega), htime]

/-- RELATCH cancelled (R150). -/
theorem exec_decision_cancelled {c : CardClass} {k : MinibarGrant} (hop : opInHand s (.decision p))
    (hv : decidePresentation s p = .grant c (some k)) (hk : (doorOf s p.node).kind = .minibar)
    (hold : ∀ c, (nodeOf s p.node).command = some c → isSessionCommand c = false) (h : PartEdited s i d rs w)
    (heff : verdictEffects (setInHand s none) p (.grant c (some k)) = cancel w p.node .relatch) :
    ∃ t, exec (.decision .complete) s = .next t ∧
      barGranted s t p i d [] (rs ++ [entryRecord s p (.grant c (some k))]) := by
  have hleft : (cancel w p.node .relatch).time.deadlines =
      w.time.deadlines.filter fun x => !(x.node == p.node && x.kind == .relatch) := rfl
  refine exec_decision_bar hop hv hk hold h heff rfl ?_ ?_
  · rw [hleft, List.filter_filter]
    simp
  · rw [hleft, List.filter_filter]
    simp

/-- The room a minibar is bound to is the one its DOOR entry names (R62). -/
theorem findRoom_of_bound (hi : boundRoom s p.node = some i) : findRoom s (doorOf s p.node).room = some i := by
  unfold boundRoom at hi
  split at hi
  · exact (Option.filter_eq_some_iff.1 hi).1
  · cases hi

theorem minibarRecords_nil (s : State) (i : Slot) : minibarRecords s i [] = [] := rfl

end

/-- Settles O15: the stages of a GUEST and a SERVICE card at a minibar, then the four grants. -/
theorem cardsOpenMinibar : Obligations.CardsOpenMinibar := by
  intro s p i m hop hk hi hm node g t0 limit open_ before read guest service effect armed opened stocked ended
  have hguest : guest ↔ p.grant.cls = 1 ∧ (cardValid s p ∧ ¬ cardHidden s p) ∧ p.grant.options.getLsbD 0 = true := by
    refine and_congr_right fun hc => ?_
    rw [guestBar_passes hk hc]
    constructor
    · rintro ⟨hread, hend, hroom, hoption, hrecord⟩
      exact ⟨⟨hread, hend, hroom, hrecord⟩, hoption⟩
    · rintro ⟨⟨hread, hend, hroom, hrecord⟩, hoption⟩
      exact ⟨hread, hend, hroom, hoption, hrecord⟩
  have hservice : service ↔ p.grant.cls = 3 ∧ (cardValid s p ∧ ¬ cardHidden s p) :=
    and_congr_right fun hc => (serviceBar_passes hk hc).symm
  have hfound : guest → findRoom s p.grant.room = some i := fun h => by
    rw [h.2.2.2.1]
    exact findRoom_of_bound hi
  have hguests : ∀ k, decidePresentation s p = .grant .guest (some k) → findRoom s p.grant.room = some i := fun k hv => by
    obtain ⟨hc, hpass, hoption, -⟩ := (guestBar_granted hk hi hm k).1 hv
    exact hfound (hguest.2 ⟨hc, hpass, hoption⟩)
  have hone : ∀ k, decidePresentation s p = .grant .guest (some k) → p.grant.cls = 1 := fun k hv =>
    ((guestBar_granted hk hi hm k).1 hv).1
  have hsuper : supersedeRecords s p i =
      if p.grant.gen = before then []
      else
        [{ stampedRecord s .supersede with
          node := some (.node p.node), serial := some p.grant.serial, room := some p.grant.room,
          detail := .supersede before p.grant.gen }] := if_congr eq_comm rfl rfl
  have hbegun : PartEdited s i (dynOf s i) [] (setInHand s none) := .taken (.refl _ i)
  refine ⟨?_, ?_, ?_, ?_, fun hv hold hopen => ?_, fun hv hold hopen => ?_, fun hv hold hopen => ?_, fun hv hold hopen => ?_⟩
  · rw [guestBar_granted hk hi hm, hguest]
    simp [and_assoc]
  · rw [guestBar_granted hk hi hm, hguest]
    simp [and_assoc, limit]
  · rw [serviceBar_granted hk hi hm, hservice]
    simp [and_assoc]
  · rw [serviceBar_granted hk hi hm, hservice]
    simp [and_assoc]
  · have hsup : PartEdited s i { dynOf s i with accepted := p.grant.gen } (supersedeRecords s p i)
        (supersede (setInHand s none) p .guest) := .taken (.superseded (hguests _ hv))
    have hdone := exec_decision_armed hop hv hk hold hopen (hsup.entered hm .openGuest .minibarOpen .absent)
      (by simp only [verdictEffects, minibarGrant, hsup.bound, hi])
    rw [entryRecord_guest hv (hguests _ hv), ← hone _ hv, hsuper] at hdone
    exact hdone
  · have hsup : PartEdited s i { dynOf s i with accepted := p.grant.gen } (supersedeRecords s p i)
        (supersede (setInHand s none) p .guest) := .taken (.superseded (hguests _ hv))
    have hdone := exec_decision_armed hop hv hk hold hopen hsup
      (by simp only [verdictEffects, minibarGrant, hsup.bound, hi])
    rw [entryRecord_guest hv (hguests _ hv), ← hone _ hv, hsuper] at hdone
    have hkept : ({ dynOf s i with accepted := p.grant.gen } : RoomDyn) =
        { dynOf s i with accepted := p.grant.gen, minibar := some m } := by rw [← hm]; rfl
    rw [hkept] at hdone
    simp only [minibarRecords_nil, List.append_nil]
    exact hdone
  · have hnone : supersede (setInHand s none) p .service = setInHand s none := supersede_other (by decide)
    have hdone := exec_decision_armed hop hv hk hold hopen (hbegun.entered hm .restock .restock .restockBegin)
      (by simp only [verdictEffects, minibarGrant, hnone, hbegun.bound, hi])
    rw [entryRecord_other hv (by decide)] at hdone
    simp only [if_true, List.nil_append] at hdone ⊢
    exact hdone
  · have hnone : supersede (setInHand s none) p .service = setInHand s none := supersede_other (by decide)
    have hrestock : m.state = .restock := by simpa using ((serviceBar_granted hk hi hm _).1 hv).2.2
    have hdone := exec_decision_cancelled hop hv hk hold (hbegun.restockEnded hm hrestock)
      (by simp only [verdictEffects, minibarGrant, hnone, hbegun.bound, hi])
    rw [entryRecord_other hv (by decide)] at hdone
    simp only [if_true, List.nil_append] at hdone ⊢
    exact hdone

end Sys2Proof.Machine
end

section
/-!
Charges committed one after another (08_minibars.md, R148, R149): the part, its state and the records they leave.
-/

namespace Sys2Proof.Machine

/-! ### The tally after charges -/

theorem tallyAfter_cons (t : Nat) (c : Charge) (cs : List Charge) :
    tallyAfter t (c :: cs) = tallyAfter (min 65535 (t + c.amount.toNat)) cs := rfl

theorem tallyAfter_bounds {t : Nat} (ht : t ≤ 65535) (cs : List Charge) : t ≤ tallyAfter t cs ∧ tallyAfter t cs ≤ 65535 := by
  induction cs generalizing t with
  | nil => exact ⟨Nat.le_refl t, ht⟩
  | cons c cs ih =>
    obtain ⟨hlow, hhigh⟩ := ih (t := min 65535 (t + c.amount.toNat)) (by omega)
    rw [tallyAfter_cons]
    omega

/-- A minibar part with charges committed, its list apart (R149). -/
def partAfter (m : MinibarPart) (occupied : Bool) (limit : Nat) (cs : List Charge) : MinibarPart :=
  { m with
    tally := BitVec.ofNat 16 (tallyAfter m.tally.toNat cs)
    state := stateAfterCommits m occupied limit cs }

section
variable (m : MinibarPart) (occupied : Bool) (limit : Nat) (c : Charge) (cs : List Charge)

theorem partAfter_tally : (partAfter m occupied limit cs).tally.toNat = tallyAfter m.tally.toNat cs := by
  have := (tallyAfter_bounds (t := m.tally.toNat) (by omega) cs).2
  rw [partAfter, BitVec.toNat_ofNat]
  omega

theorem partAfter_nil : partAfter m occupied limit [] = m := by
  have hstate : stateAfterCommits m occupied limit [] = m.state :=
    if_neg fun h => absurd h.2.1 (Nat.not_lt.2 h.2.2.1)
  have htally : BitVec.ofNat 16 (tallyAfter m.tally.toNat []) = m.tally := BitVec.ofNat_toNat ..
  rw [partAfter, hstate, htally]

/-- The limit is reached once: by the first charge, by a later one, or not at all. -/
theorem stateAfterCommits_cons :
    stateAfterCommits (partAfter m occupied limit [c]) occupied limit cs = stateAfterCommits m occupied limit (c :: cs) := by
  have hone : tallyAfter m.tally.toNat [c] = min 65535 (m.tally.toNat + c.amount.toNat) := rfl
  have hlow : m.tally.toNat ≤ tallyAfter m.tally.toNat [c] := (tallyAfter_bounds (by omega) _).1
  have hsplit : tallyAfter (tallyAfter m.tally.toNat [c]) cs = tallyAfter m.tally.toNat (c :: cs) := rfl
  have hrest : tallyAfter m.tally.toNat [c] ≤ tallyAfter m.tally.toNat (c :: cs) :=
    (tallyAfter_bounds (by rw [hone]; omega) cs).1
  by_cases hcross : limit ≠ 0 ∧ m.tally.toNat < limit ∧ limit ≤ tallyAfter m.tally.toNat [c]
  · obtain ⟨h0, hbelow, hreach⟩ := hcross
    rw [stateAfterCommits, partAfter_tally, if_neg fun h => absurd h.2.1 (Nat.not_lt.2 hreach)]
    simp only [partAfter, stateAfterCommits, hreach, hreach.trans hrest]
  · have hfirst : stateAfterCommits m occupied limit [c] = m.state := if_neg fun h => hcross ⟨h.1, h.2.1, h.2.2.1⟩
    have hstate : (partAfter m occupied limit [c]).state = m.state := hfirst
    rw [stateAfterCommits, partAfter_tally, hsplit, hstate, stateAfterCommits]
    refine if_congr ?_ rfl rfl
    constructor
    · rintro ⟨h0, hbelow, h⟩
      exact ⟨h0, by omega, h⟩
    · rintro ⟨h0, hbelow, h⟩
      refine ⟨h0, ?_, h⟩
      by_contra hover
      exact hcross ⟨h0, hbelow, Nat.le_of_not_lt hover⟩

theorem partAfter_cons :
    partAfter (partAfter m occupied limit [c]) occupied limit cs = partAfter m occupied limit (c :: cs) := by
  have hstate := stateAfterCommits_cons m occupied limit c cs
  have htally : tallyAfter (partAfter m occupied limit [c]).tally.toNat cs = tallyAfter m.tally.toNat (c :: cs) := by
    rw [partAfter_tally]
    rfl
  conv_lhs => rw [partAfter, hstate, htally]
  rfl

end

section
variable {m : MinibarPart} {occupied : Bool} {limit tally : Half} {c : Charge}

/-- A charge that takes the tally to the limit: the part is recomputed, OPEN_GUEST and RESTOCK kept (R149). -/
theorem partAfter_capped (ht : tally = BitVec.ofNat 16 (tallyAfter m.tally.toNat [c]))
    (h : limit ≠ 0 ∧ m.tally.toNat < limit.toNat ∧ limit.toNat ≤ tally.toNat) :
    partAfter m occupied limit.toNat [c] = recomputedKept occupied limit { m with tally := tally } := by
  obtain ⟨h0, hbelow, hreach⟩ := h
  have hn : limit.toNat ≠ 0 := fun hz => h0 (BitVec.eq_of_toNat_eq hz)
  have htoNat : tally.toNat = tallyAfter m.tally.toNat [c] := by
    rw [ht]
    exact partAfter_tally m occupied limit.toNat [c]
  have hstate : stateAfterCommits m occupied limit.toNat [c] =
      if m.state = .openGuest ∨ m.state = .restock then m.state else restState occupied limit.toNat tally.toNat := by
    unfold stateAfterCommits restState
    rw [← htoNat]
    by_cases hkept : m.state = .openGuest ∨ m.state = .restock
    · rw [if_pos hkept, if_neg fun h => hkept.elim h.2.2.2.1 h.2.2.2.2]
    · rw [not_or] at hkept
      simp only [hn, hbelow, hreach, hkept, ne_eq, not_false_eq_true, and_self, or_self, or_false, if_true, if_false]
      cases occupied <;> rfl
  rw [partAfter, hstate, ← ht]
  rfl

/-- Any other charge leaves the state (R149). -/
theorem partAfter_uncapped (ht : tally = BitVec.ofNat 16 (tallyAfter m.tally.toNat [c]))
    (h : ¬ (limit ≠ 0 ∧ m.tally.toNat < limit.toNat ∧ limit.toNat ≤ tally.toNat)) :
    partAfter m occupied limit.toNat [c] = { m with tally := tally } := by
  have htoNat : tally.toNat = tallyAfter m.tally.toNat [c] := by
    rw [ht]
    exact partAfter_tally m occupied limit.toNat [c]
  have hstate : stateAfterCommits m occupied limit.toNat [c] = m.state := by
    refine if_neg fun hc => h ⟨fun hz => hc.1 ?_, hc.2.1, htoNat ▸ hc.2.2.1⟩
    rw [hz]
    rfl
  rw [partAfter, hstate, ← ht]

end

theorem commitDetails_cons (limit : Half) (t : Nat) (c : Charge) (cs : List Charge) :
    commitDetails limit t (c :: cs) =
      commitDetails limit t [c] ++ commitDetails limit (min 65535 (t + c.amount.toNat)) cs := by
  simp [commitDetails]

theorem minibarRecords_append (s : State) (i : Slot) (ds es : List (RecordKind × Detail)) :
    minibarRecords s i (ds ++ es) = minibarRecords s i ds ++ minibarRecords s i es := List.map_append

/-! ### One commit, and all of them -/

section
variable {s w : State} {i : Slot} {d : RoomDyn} {rs : List Record} {m : MinibarPart}

/-- A part recomputed, OPEN_GUEST and RESTOCK kept (R136). -/
theorem PartEdited.recomputed (h : PartEdited s i d rs w) (x : MinibarPart) :
    PartEdited s i { d with minibar := some (recomputedKept d.occupied (roomOf s i).limit x) } rs
      (Machine.setPart w i (some (recomputeKeeping w i x))) := by
  rw [recomputeKeeping_eq, h.dyn.dyn, h.reads.2.1]
  exact h.setPart _

/-- One charge committed (R149). -/
theorem PartEdited.charged (h : PartEdited s i d rs w) (hm : d.minibar = some m) (c : Charge) :
    PartEdited s i { d with minibar := some (partAfter m d.occupied (roomOf s i).limit.toNat [c]) }
      (rs ++ minibarRecords s i (commitDetails (roomOf s i).limit m.tally.toNat [c])) (commitCharge i w c) := by
  have hpart : partOf w i = some m := h.part.trans hm
  have hlimit : roomOf w i = roomOf s i := h.reads.2.1 i
  obtain ⟨tally, ht⟩ : ∃ tally, tally = addTally m.tally c.amount := ⟨_, rfl⟩
  obtain ⟨w1, hw1⟩ : ∃ w1, w1 = Machine.appendMinibar (Machine.setPart w i (some { m with tally := tally })) i
    .minibarCharge (.charge c.compartment c.amount c.unlatched tally) := ⟨_, rfl⟩
  have hcharge : commitCharge i w c =
      if (roomOf s i).limit ≠ 0 ∧ m.tally.toNat < (roomOf s i).limit.toNat ∧ (roomOf s i).limit.toNat ≤ tally.toNat then
        let w2 := Machine.appendMinibar w1 i .minibarCapped (.capped tally (roomOf s i).limit)
        Machine.setPart w2 i (some (recomputeKeeping w2 i { m with tally := tally }))
      else w1 := by
    simp only [commitCharge, hpart, hlimit, hw1, ht]
  have htally : tally = BitVec.ofNat 16 (tallyAfter m.tally.toNat [c]) := ht
  have htoNat : tally.toNat = tallyAfter m.tally.toNat [c] := by rw [ht, addTally_toNat]; rfl
  have hpaid := (h.setPart (some { m with tally := tally })).appendMinibar .minibarCharge
    (.charge c.compartment c.amount c.unlatched tally)
  rw [← hw1] at hpaid
  have hdetails : commitDetails (roomOf s i).limit m.tally.toNat [c] =
      [(.minibarCharge, .charge c.compartment c.amount c.unlatched tally)] ++
        if (roomOf s i).limit ≠ 0 ∧ m.tally.toNat < (roomOf s i).limit.toNat ∧ (roomOf s i).limit.toNat ≤ tally.toNat then
          [(.minibarCapped, .capped tally (roomOf s i).limit)]
        else [] := by
    rw [htoNat, htally]
    simp only [commitDetails, List.append_nil]
    rfl
  rw [hcharge, hdetails]
  by_cases hcross : (roomOf s i).limit ≠ 0 ∧ m.tally.toNat < (roomOf s i).limit.toNat ∧
      (roomOf s i).limit.toNat ≤ tally.toNat
  · rw [if_pos hcross, if_pos hcross, partAfter_capped htally hcross, minibarRecords_append, ← List.append_assoc]
    exact (hpaid.appendMinibar .minibarCapped (.capped tally (roomOf s i).limit)).recomputed _
  · rw [if_neg hcross, if_neg hcross, List.append_nil, partAfter_uncapped htally hcross]
    exact hpaid

/-- Charges committed in list order (R149). -/
theorem PartEdited.chargedAll (cs : List Charge) (h : PartEdited s i d rs w) (hm : d.minibar = some m) :
    PartEdited s i { d with minibar := some (partAfter m d.occupied (roomOf s i).limit.toNat cs) }
      (rs ++ minibarRecords s i (commitDetails (roomOf s i).limit m.tally.toNat cs)) (cs.foldl (commitCharge i) w) := by
  induction cs generalizing d rs w m with
  | nil =>
    have hd : { d with minibar := some m } = d := by rw [← hm]
    rw [partAfter_nil, hd, commitDetails, minibarRecords_nil, List.append_nil]
    exact h
  | cons c cs ih =>
    have hrest := ih (h.charged hm c) rfl
    rw [partAfter_cons, partAfter_tally, List.append_assoc, ← minibarRecords_append] at hrest
    rw [List.foldl_cons, commitDetails_cons]
    exact hrest

/-- The charges selected taken off the list and committed (R148, R149). -/
theorem PartEdited.committed (h : PartEdited s i d rs w) (hm : d.minibar = some m) (due : Charge → Bool) :
    PartEdited s i { d with minibar := some (partCommitted m d.occupied (roomOf s i).limit.toNat due) }
      (rs ++ minibarRecords s i (commitDetails (roomOf s i).limit m.tally.toNat (m.charges.filter due)))
      (commitWhere w i due) := by
  have hpart : partOf w i = some m := h.part.trans hm
  rw [commitWhere, hpart]
  exact (h.setPart (some { m with charges := m.charges.filter fun c => !due c })).chargedAll (m.charges.filter due) rfl

/-- Every pending charge of a room committed (R152, R155). -/
theorem commitAll_committed (hm : partOf s i = some m) :
    (commitAll s i).store =
        storeWithPart s i (partCommitted m (dynOf s i).occupied (roomOf s i).limit.toNat fun _ => true) ∧
      appendsAll s (commitAll s i) (minibarRecords s i (commitDetails (roomOf s i).limit m.tally.toNat m.charges)) := by
  have hdone := (PartEdited.refl s i).committed hm fun _ => true
  have hall : (m.charges.filter fun _ => true) = m.charges := List.filter_eq_self.2 fun _ _ => rfl
  refine ⟨hdone.dyn, ?_⟩
  have hrecords := hdone.records
  rw [hall] at hrecords
  exact hrecords

end

end Sys2Proof.Machine
end

section
/-!
The stop work (12_start_up_retention_and_supply_failure.md, R206, R208): the tick that takes SFAILB, the steps of SUPPLY_FAIL and
RESTART_BEGIN, and the sessions step 4 closes.
-/

namespace Sys2Proof.Machine

/-! ### A part that stops -/

/-- A part that stops offers nothing and is ready for nothing (R162, R187). -/
theorem settle_stopping {s : State} (h : s.stopping = true) :
    (settle s).journal = { s.journal with offer := .none } ∧
      (settle s).trunk = { s.trunk with upRo := false, downRo := false } := by
  constructor
  · rw [settle_journal]
    simp [offerOf, State.working, h]
  · rw [settle_trunk]
    simp [upReady, downReady, h]

/-- A change of Start-up Control alone. -/
theorem startupOnly_settled (s : State) (x : Startup) :
    unchangedBut [.startup] s (settle (s.withStartup x)) ∧ (settle (s.withStartup x)).startup = x := by
  refine ⟨unchangedBut.settled ?_, by simp⟩
  rw [unchangedBut_iff]
  simp

/-- The tick that takes the supply fail counts, and does nothing else of a tick (R206, log 7). -/
theorem tickStep_failing {s : State} (fire : Bool) (hf : s.startup.failTaken = false) :
    tickStep fire true s = takeSupplyFail (countTick s) := by
  have htaken : (countTick s).startup.failTaken = false := by simpa using hf
  have supply : sampleSupply true (countTick s) = takeSupplyFail (countTick s) := by
    simp only [sampleSupply, htaken, Bool.not_false, Bool.and_self, if_true]
  have hfail : (takeSupplyFail (countTick s)).startup.failTaken = true := by simp [takeSupplyFail]; split <;> rfl
  have hstop : (takeSupplyFail (countTick s)).stopping = true := by simp [State.stopping, hfail]
  have expire : expireDue (takeSupplyFail (countTick s)) = takeSupplyFail (countTick s) := by simp [expireDue, hstop]
  have sample : sampleFire fire (takeSupplyFail (countTick s)) = takeSupplyFail (countTick s) := by
    simp [sampleFire, hstop]
  unfold tickStep
  rw [supply, expire, sample]
  simp [leaveResetting, hfail]

/-- The supply fail taken, with the LOAD in hand ended (R179, R206). -/
theorem takeSupplyFail_eq (s : State) :
    takeSupplyFail s =
      ((s.withStartup { s.startup with failTaken := true }).withLoader { s.loader with load := none }).withTrunk
        { s.trunk with inHand := if loadInHand s = true then none else s.trunk.inHand } := by
  unfold takeSupplyFail
  dsimp only
  split <;> rfl

/-- The tick that takes SFAILB (R206, log 7). -/
theorem tick_takesSupplyFail {s : State} (fire : Bool) (ht : s.ticking = true) (hf : s.startup.failTaken = false) :
    ∃ t, exec (.tickEvent fire true) s = .next t ∧ unchangedBut [.time, .loader, .journal, .trunk, .startup] s t ∧
      t.startup = { s.startup with failTaken := true } ∧ t.time.tick = s.time.tick + 1 ∧
      clockCounts s.time.clock t.time.clock ∧ t.time.deadlines = s.time.deadlines ∧
      t.time.expiring = s.time.expiring ∧ t.time.minuteEvents = s.time.minuteEvents ++ minuteRaised s t ∧
      t.loader = { s.loader with load := none } ∧ t.journal = { s.journal with offer := .none } ∧
      t.trunk =
        { s.trunk with
          inHand := (if loadInHand s = true then none else s.trunk.inHand)
          upRo := false, downRo := false } := by
  obtain ⟨u, hu⟩ : ∃ u, u = takeSupplyFail (countTick s) := ⟨_, rfl⟩
  have hexec := execTickEvent_eq ht fire true
  rw [tickStep_failing fire hf, ← hu] at hexec
  rw [takeSupplyFail_eq] at hu
  have hload : loadInHand (countTick s) = loadInHand s := rfl
  rw [hload] at hu
  have hstop : u.stopping = true := by rw [hu]; rfl
  have htime : (settle u).time = (countTick s).time := by rw [hu]; simp
  obtain ⟨hjournal, htrunk⟩ := settle_stopping hstop
  refine ⟨_, hexec, unchangedBut.settled ?_, by rw [hu]; simp, ?_, ?_, ?_, ?_, ?_, by rw [hu]; simp, ?_, ?_⟩
  · rw [unchangedBut_iff, hu]
    simp
  · rw [htime]
    rfl
  · rw [htime]
    exact clockTenth_counts _
  · rw [htime]
    rfl
  · rw [htime]
    rfl
  · rw [htime]
    exact countTick_minuteEvents ht (congrArg TimeUnit.clock htime)
  · rw [hjournal, hu]
    rfl
  · rw [htrunk, hu]
    rfl

/-! ### SUPPLY_FAIL (R206) -/

section
variable {s : State}

theorem exec_supplyFail (hf : s.startup.failTaken = true) (ht : s.ticking = true) :
    exec .supplyFail s = match failStep s with
      | some t => .next (settle t)
      | none => .next s := by
  simp only [exec, execSupplyFail, hf, ht, Bool.and_self, if_true]
  cases failStep s <;> rfl

/-- The supply fail begins its stop work, or takes a warm one over where it stands (R206, log 48). -/
theorem failStep_begin (h : s.startup.stopWork ≠ .supplyFail) : failStep s = some (beginFail s) := if_neg h

/-- Step 5: the marker, where the part writes one. -/
theorem failStep_marker (h : s.startup.stopWork = .supplyFail) (hm : s.startup.stopStep = .marker) :
    failStep s =
      some (s.withStartup
        { s.startup with
          stopStep := .finish
          marker :=
            s.startup.marker ||
              (!s.relayOnly &&
                decide (s.startup.phase = .run ∨ (s.startup.phase = .checking ∧ s.startup.keep = true))) }) := by
  have hmarks : marksClean s =
      (!s.relayOnly && decide (s.startup.phase = .run ∨ (s.startup.phase = .checking ∧ s.startup.keep = true))) := by
    simp [marksClean]
  have hstep : failStep s = some (atStep (if marksClean s = true then writeMarker s else s) .finish) := by
    rw [failStep, if_pos h, hm]
  rw [hstep, ← hmarks]
  cases marksClean s <;> simp [atStep, writeMarker, State.withStartup]

/-- Every frame and exchange in progress is over, or one is not (R206). -/
theorem allQuiet_iff :
    allQuiet s = true ↔ s.trunk.upTx = none ∧ s.trunk.downTx = none ∧ ∀ l, (lineOf s l).exchange = none := by
  simp [allQuiet, lineNos, and_assoc]

/-- Step 6: SHUTDOWN, once every frame and exchange is over. -/
theorem failStep_finish (h : s.startup.stopWork = .supplyFail) (hf : s.startup.stopStep = .finish) :
    failStep s = if allQuiet s = true then some (enterShutdown s) else none := by
  simp only [failStep, h, hf, if_true]

end

/-! ### A session closed by the stop work (R122, R206) -/

/-- The record of a session's end (R118). -/
def closingRecord (s : State) (k : Fin 2) (out : SessionOutcome) : Record :=
  { stampedRecord s (outcomeKind out) with
    node := some (.node (ctxOf s k).node), serial := (ctxOf s k).serial
    room := if isGuest (ctxOf s k) then some (ctxOf s k).stay.room else none
    cls := some (ctxOf s k).stay.cls, detail := .issue (ctxGens s (ctxOf s k)) (outcomeFailure out) }

section
variable {s : State} {k : Fin 2} {out : SessionOutcome}

theorem finishSession_silent : finishSession s k out false = setCtx (appendRecord s (closingRecord s k out)) k .free := rfl

theorem finishSession_journal (notify : Bool) :
    (finishSession s k out notify).journal = (appendRecord s (closingRecord s k out)).journal := by
  cases notify
  · rfl
  · simp only [finishSession, if_true]
    simp [setCtx, closingRecord]

theorem closeSession_decided (notify : Bool) (h : (ctxOf s k).outcome = some out) :
    closeSession s k notify =
      finishSession (closeEffects s (ctxOf s k) (finalOutcome (ctxOf s k) out)) k (finalOutcome (ctxOf s k) out) notify := by
  simp only [closeSession, h]

/-! A closing reads neither the operation in hand nor the notices. -/

theorem appendRecord_setInHand (s : State) (op : Option PortOp) (r : Record) :
    appendRecord (setInHand s op) r = setInHand (appendRecord s r) op := by
  rw [appendRecord_eq, appendRecord_eq]
  rfl

theorem undeny_setInHand (s : State) (op : Option PortOp) (serial : Option Serial) :
    undeny (setInHand s op) serial = setInHand (undeny s serial) op := by
  cases serial with
  | none => rfl
  | some x =>
    have hstore : (setInHand s op).store = s.store := rfl
    simp only [undeny, hstore]
    cases denyFind s.store.deny x with
    | none => rfl
    | some e => exact appendRecord_setInHand (setDeny s (denyErase s.store.deny x)) op _

theorem commitNew_setInHand (s : State) (op : Option PortOp) (i : Slot) (g : Gen) :
    commitNew (setInHand s op) i g = setInHand (commitNew s i g) op := by
  have hdyn : dynOf (setInHand s op) i = dynOf s i := rfl
  have hset : ∀ d, setDyn (setInHand s op) i d = setInHand (setDyn s i d) op := fun _ => rfl
  have hpart : ∀ d, partOf (setInHand (setDyn s i d) op) i = partOf (setDyn s i d) i := fun _ => rfl
  simp only [commitNew, hdyn, hset, hpart]
  by_cases hnext : g = (dynOf s i).issued + 1
  · simp only [if_pos hnext]
    by_cases ho : (dynOf s i).occupied = true
    · simp only [if_pos ho]
    · simp only [if_neg ho]
      cases partOf (setDyn s i { raiseGen (dynOf s i) g with occupied := true }) i <;> rfl
  · simp only [if_neg hnext]

theorem closeEffects_setInHand (s : State) (op : Option PortOp) (c : IssueCtx) (x : SessionOutcome) :
    closeEffects (setInHand s op) c x = setInHand (closeEffects s c x) op := by
  have hroom : ctxRoom (setInHand s op) c = ctxRoom s c := rfl
  cases x with
  | done =>
    simp only [closeEffects, closeDone, hroom]
    cases ctxRoom s c with
    | none => exact undeny_setInHand s op c.serial
    | some i =>
      cases committedGen c with
      | none =>
        simp only [undeny_setInHand]
        rfl
      | some g =>
        simp only [commitNew_setInHand, undeny_setInHand]
        rfl
  | void =>
    simp only [closeEffects, closeVoid, hroom]
    cases ctxRoom s c <;> rfl
  | failed why burn =>
    simp only [closeEffects, closeFailed, hroom]
    cases ctxRoom s c <;> rfl

/-- The closing operation of a decided session and the stop work's closing of it make the same of the store and the journal
(R115, R122). -/
theorem closeSession_silent_same (op : Option PortOp) (h : (ctxOf s k).outcome = some out) :
    (closeSession (setInHand s op) k true).store = (closeSession s k false).store ∧
      (closeSession (setInHand s op) k true).journal = (closeSession s k false).journal := by
  have h' : (ctxOf (setInHand s op) k).outcome = some out := h
  rw [closeSession_decided true h', closeSession_decided false h, finishSession_journal, finishSession_journal,
    closeEffects_setInHand]
  refine ⟨by simp; rfl, ?_⟩
  rw [appendRecord_eq, appendRecord_eq]
  rfl

/-- A session as the stop work decides it: its outcome stands, else it fails with `why` (R206). -/
def stopDecided (s : State) (k : Fin 2) (why : FailReason) : State :=
  { s with
    issue :=
      { s.issue with
        ctxs :=
          put s.issue.ctxs k
            { ctxOf s k with outcome := some ((ctxOf s k).outcome.getD (.failed why (burns (ctxOf s k) why))) } } }

theorem ctxOf_stopDecided (why : FailReason) :
    ctxOf (stopDecided s k why) k =
      { ctxOf s k with outcome := some ((ctxOf s k).outcome.getD (.failed why (burns (ctxOf s k) why))) } := by
  simp [ctxOf, stopDecided]

theorem stopSession_eq (why : FailReason) : stopSession why s k = closeSession (stopDecided s k why) k false := by
  rcases h : (ctxOf s k).outcome with _ | out
  · simp only [stopSession, h, failOutcome_eq, stopDecided, Option.getD_none]
    rfl
  · have hsame : stopDecided s k why = s := by
      have hctx : ({ ctxOf s k with outcome := some out } : IssueCtx) = ctxOf s k := by rw [← h]
      rw [stopDecided, h, Option.getD_some, hctx, ctxOf, put_look]
    rw [hsame]
    simp only [stopSession, h]

/-- What the stop work's closing of a session leaves: the context FREE, and no notice (R122). -/
theorem stopSession_leaves (why : FailReason) :
    unchangedBut [.issue, .store, .journal] s (stopSession why s k) ∧
      (stopSession why s k).issue = { s.issue with ctxs := put s.issue.ctxs k .free } := by
  have hdecided := ctxOf_stopDecided (s := s) (k := k) why
  have hclose := closeSession_decided (s := stopDecided s k why) (k := k) false (by rw [hdecided])
  rw [stopSession_eq, hclose, finishSession_silent]
  refine ⟨?_, ?_⟩
  · rw [unchangedBut_iff]
    simp [stopDecided]
  · simp [setCtx, stopDecided, put_put]

/-- The closing operation on the decided session leaves the store and the journal that the stop work leaves (R115, R122). -/
theorem stopSession_closes (why : FailReason) (hs : s.serving = true) :
    ∃ u, exec (.issueClosing .complete) (setInHand (stopDecided s k why) (some (.closing k))) = .next u ∧
      (settle (stopSession why s k)).store = u.store ∧ (settle (stopSession why s k)).journal = u.journal := by
  obtain ⟨v, hv⟩ : ∃ v, v = closeSession (setInHand (stopDecided s k why) none) k true := ⟨_, rfl⟩
  have hexec : exec (.issueClosing .complete) (setInHand (stopDecided s k why) (some (.closing k))) = .next (settle v) := by
    have hhand : opInHand (setInHand (stopDecided s k why) (some (.closing k))) (.closing k) := ⟨hs, rfl⟩
    rw [hv]
    exact runForm_complete (grant := grantIssue selClosing) (finishOp_eq hhand (eff := effClosing) rfl)
  have hdecided := ctxOf_stopDecided (s := s) (k := k) why
  obtain ⟨hstore, hjournal⟩ := closeSession_silent_same (s := stopDecided s k why) none (by rw [hdecided])
  rw [← hv, ← stopSession_eq] at hstore hjournal
  have hwork : (stopSession why s k).working = v.working := by
    simp [hv, State.working, State.serving, State.active, State.relayOnly, State.stopping, stopDecided]
  refine ⟨_, hexec, by simpa using hstore.symm, ?_⟩
  simp only [settle_journal, offerOf, hjournal, hwork]

/-- A GUEST NEW caught in WRITING burns its generation (R114, R122). -/
theorem stopSession_burns {why : FailReason} {i : Slot} {g : Gen} (hw : why ≠ .roomChanged)
    (hstate : (ctxOf s k).state = .writing) (hout : (ctxOf s k).outcome = none) (hcls : (ctxOf s k).stay.cls = 1)
    (hnew : (ctxOf s k).duplicate = false) (hvoid : (ctxOf s k).void = false)
    (hi : findRoom s (ctxOf s k).stay.room = some i) (hgen : (ctxOf s k).gen = some g) (hnext : g = (dynOf s i).issued + 1)
    (hoccupied : (dynOf s i).occupied = true) :
    DynSet i { raisedTo (dynOf s i) g with marker := none } s (stopSession why s k) ∧
      appendsAll s (stopSession why s k)
        [{ stampedRecord s .issueFailed with
          node := some (.node (ctxOf s k).node), serial := (ctxOf s k).serial, room := some (ctxOf s k).stay.room,
          cls := some 1, detail := .issue (some (g, (raisedTo (dynOf s i) g).accepted, g)) (some (why, true)) }] := by
  have hburns : burns (ctxOf s k) why = true := by simp [burns, hstate, hcls, hnew, hw]
  obtain ⟨b, hb⟩ : ∃ b, b = stopDecided s k why := ⟨_, rfl⟩
  have hctx : ctxOf b k = { ctxOf s k with outcome := some (.failed why true) } := by
    rw [hb, ctxOf_stopDecided, hout, Option.getD_none, hburns]
  have hguest : isGuest (ctxOf b k) = true := by simp [isGuest, hctx, hcls]
  have hroom : ctxRoom b (ctxOf b k) = some i := by
    rw [ctxRoom, if_pos hguest, hctx, hb]
    exact hi
  have hdyn : dynOf b i = dynOf s i := by rw [hb]; rfl
  have hburned : burned (dynOf s i) g false = raisedTo (dynOf s i) g := by
    rw [burned, if_pos hnext, hoccupied]
    rfl
  obtain ⟨v, hv⟩ : ∃ v, v = setDyn b i { raisedTo (dynOf s i) g with marker := none } := ⟨_, rfl⟩
  have heffects : closeEffects b (ctxOf b k) (.failed why true) = v := by
    have hpart : burnedPart (dynOf b i) true (ctxOf b k).void (ctxOf b k).gen = raisedTo (dynOf s i) g := by
      rw [hdyn, hctx]
      simp only [burnedPart, hvoid, hgen, if_true, hburned]
    rw [hv, closeEffects, closeFailed, hroom]
    simp only [hpart]
    rfl
  have hset : DynSet i { raisedTo (dynOf s i) g with marker := none } s v := by rw [hv, hb]; rfl
  have hstop : stopSession why s k = setCtx (appendRecord v (closingRecord v k (.failed why true))) k .free := by
    have hclose := closeSession_decided (s := b) (k := k) (out := .failed why true) false (by rw [hctx])
    rw [stopSession_eq, ← hb, hclose, finalOutcome, heffects, finishSession_silent]
  have hsame : v.journal = s.journal ∧ v.trunk = s.trunk := by rw [hv, hb]; exact ⟨rfl, rfl⟩
  have hvctx : ctxOf v k = ctxOf b k := by rw [hv]; rfl
  have hfound : findRoom v (ctxOf s k).stay.room = some i := by rw [hv, hb]; exact hi
  have hgens : ctxGens v (ctxOf v k) = some (g, (raisedTo (dynOf s i) g).accepted, g) := by
    rw [ctxGens, hvctx, if_pos hguest, hctx]
    simp only [hfound, hgen, hset.dyn, Option.getD_some]
    rfl
  have hrecord : closingRecord v k (.failed why true) =
      { stampedRecord s .issueFailed with
        node := some (.node (ctxOf s k).node), serial := (ctxOf s k).serial, room := some (ctxOf s k).stay.room,
        cls := some 1, detail := .issue (some (g, (raisedTo (dynOf s i) g).accepted, g)) (some (why, true)) } := by
    have hstamp : stampedRecord v .issueFailed = stampedRecord s .issueFailed := by rw [hv, hb]; rfl
    rw [closingRecord, hgens, hvctx, if_pos hguest, hctx, hcls]
    simp only [outcomeKind, outcomeFailure, hstamp]
  rw [hstop, hrecord]
  refine ⟨hset.of_store (by simp), ?_⟩
  exact ((appendsAll_nil hsame.1).record (by rw [hsame.2]) _).of_journal (by simp)

end

end Sys2Proof.Machine
end

section
/-!
The steps of the stop work as SUPPLY_FAIL and RESTART_BEGIN take them (12_start_up_retention_and_supply_failure.md, R206, R208).
-/

namespace Sys2Proof.Machine

/-- A command that takes the stop work on: SUPPLY_FAIL in its own, or RESTART_BEGIN in a warm one begun. -/
def runsStop (s : State) (c : Instr) : Prop :=
  (c = .supplyFail ∧ s.startup.failTaken = true ∧ s.ticking = true ∧ s.startup.stopWork = .supplyFail) ∨
    ((∃ straps, c = .restartBegin straps) ∧ s.startup.failTaken = false ∧ s.serving = true ∧
      (s.startup.phase = .run ∨ s.startup.phase = .awaitLoad) ∧ s.startup.restart = some .warm ∧
      s.startup.stopWork ≠ .none)

/-- The contexts that the stop work of a command closes (R122, R206). -/
def stopCloses (c : Instr) : IssueCtx → Bool := if c = .supplyFail then failCloses else warmCloses

/-- The reason it closes them with. -/
def stopReason (c : Instr) : FailReason := if c = .supplyFail then .shutdown else .restart

/-- The contexts it ends, in the words of R206. -/
def stopEnds (s : State) (c : Instr) (k : Fin 2) : Prop :=
  (ctxOf s k).state = .writing ∨ (c ≠ .supplyFail ∧ (ctxOf s k).state ≠ .free)

section
variable {s : State} {c : Instr}

theorem stopCloses_iff (k : Fin 2) : stopCloses c (ctxOf s k) = true ↔ stopEnds s c k := by
  unfold stopCloses stopEnds
  split
  · next h => simp [failCloses, h]
  · next h =>
    simp only [warmCloses, isOpen, h, ne_eq, not_false_eq_true, true_and, decide_eq_true_eq]
    constructor
    · exact .inr
    · rintro (hw | hf)
      · rw [hw]
        nofun
      · exact hf

theorem stopCloses_false (k : Fin 2) : stopCloses c (ctxOf s k) = false ↔ ¬ stopEnds s c k := by
  rw [← stopCloses_iff, Bool.not_eq_true]

theorem stopReason_ne : stopReason c ≠ .roomChanged := by
  unfold stopReason
  split <;> nofun

theorem execRestartBegin_warm {straps : BitVec 5} (hs : s.serving = true) (hf : s.startup.failTaken = false)
    (hp : s.startup.phase = .run ∨ s.startup.phase = .awaitLoad) (hr : s.startup.restart = some .warm) :
    exec (.restartBegin straps) s = match warmStep s straps with
      | some t => .next (settle t)
      | none => .next s := by
  have hphase : restartable s.startup.phase = true := by simpa [restartable] using hp
  simp only [exec, execRestartBegin, hs, hf, hphase, hr, Bool.and_self, Bool.not_false, if_true]
  cases warmStep s straps <;> rfl

/-- Steps 1 to 4 are the same for both commands (R206, R208). -/
theorem exec_stopEarly (h : runsStop s c) (hm : s.startup.stopStep ≠ .marker) (hf : s.startup.stopStep ≠ .finish) :
    exec c s = match stopEarly (stopCloses c) (stopReason c) s with
      | some t => .next (settle t)
      | none => .next s := by
  rcases h with ⟨rfl, hfail, htick, hwork⟩ | ⟨⟨straps, rfl⟩, hfail, hserving, hphase, hrestart, hwork⟩
  · rw [exec_supplyFail hfail htick]
    have hstep : failStep s = stopEarly failCloses .shutdown s := by
      rw [failStep, if_pos hwork]
      split
      · next h => exact absurd h hm
      · next h => exact absurd h hf
      · rfl
    rw [hstep]
    rfl
  · rw [execRestartBegin_warm hserving hfail hphase hrestart]
    have hstep : warmStep s straps = stopEarly warmCloses .restart s := by
      rw [warmStep, if_neg hwork]
      split
      · next h => exact absurd h hm
      · next h => exact absurd h hf
      · rfl
    rw [hstep]
    rfl

/-- A step that passes to the next. -/
theorem atStep_settled (p : StopStep) :
    unchangedBut [.startup] s (settle (atStep s p)) ∧
      (settle (atStep s p)).startup = { s.startup with stopStep := p } := startupOnly_settled s _

/-- Step 1: the table operation in hand is waited for (R172, R206). -/
theorem stopStep_operation (h : runsStop s c) (hs : s.startup.stopStep = .operation) :
    exec c s = if s.port.inHand = none then .next (settle (atStep s .drain)) else .next s := by
  rw [exec_stopEarly h (by rw [hs]; nofun) (by rw [hs]; nofun)]
  simp only [stopEarly, hs]
  cases s.port.inHand <;> rfl

/-- Step 2: the post buffer is drained (R172, R206). -/
theorem stopStep_drain (h : runsStop s c) (hs : s.startup.stopStep = .drain) :
    exec c s = if s.loader.buffer = [] ∧ s.port.inHand = none then .next (settle (atStep s .charges)) else .next s := by
  rw [exec_stopEarly h (by rw [hs]; nofun) (by rw [hs]; nofun)]
  simp only [stopEarly, hs]
  cases s.loader.buffer <;> cases s.port.inHand <;> rfl

/-- Step 3: the charges of the lowest slot that holds some are committed, and the step is done when none does (R155, R206). -/
theorem stopStep_charges (h : runsStop s c) (hs : s.startup.stopStep = .charges) :
    exec c s = match chargedRoom s with
      | some i => .next (settle (commitAll s i))
      | none => .next (settle (atStep s .sessions)) := by
  rw [exec_stopEarly h (by rw [hs]; nofun) (by rw [hs]; nofun)]
  simp only [stopEarly, hs]
  cases chargedRoom s <;> rfl

/-- Step 4: the lowest context to be ended is closed, and the step is done when none is left (R122, R206). -/
theorem stopStep_sessions (h : runsStop s c) (hs : s.startup.stopStep = .sessions) :
    exec c s = match ctxToClose (stopCloses c) s with
      | some k => .next (settle (stopSession (stopReason c) s k))
      | none => .next (settle (atStep s .marker)) := by
  rw [exec_stopEarly h (by rw [hs]; nofun) (by rw [hs]; nofun)]
  simp only [stopEarly, hs]
  cases ctxToClose (stopCloses c) s <;> rfl

/-- The charges of one room committed by a stop work (R155, R206). -/
theorem commitAll_settled {i : Slot} {m : MinibarPart} (hm : partOf s i = some m) :
    unchangedBut [.store, .journal] s (settle (commitAll s i)) ∧
      (settle (commitAll s i)).store =
        storeWithPart s i (partCommitted m (dynOf s i).occupied (roomOf s i).limit.toNat fun _ => true) ∧
      appendsAll s (settle (commitAll s i))
        (minibarRecords s i (commitDetails (roomOf s i).limit m.tally.toNat m.charges)) := by
  obtain ⟨hstore, hrecords⟩ := commitAll_committed hm
  refine ⟨unchangedBut.settled ?_, ?_, hrecords.settled⟩
  · rw [unchangedBut_iff]
    simp
  · simp only [settle_frame]
    exact hstore

/-- SHUTDOWN is entered once every frame and exchange is over, and waited for until then (R206, step 6). -/
theorem supplyFail_finishes (hf : s.startup.failTaken = true) (ht : s.ticking = true)
    (hw : s.startup.stopWork = .supplyFail) (hs : s.startup.stopStep = .finish) :
    (s.trunk.upTx = none → s.trunk.downTx = none → (∀ l, (lineOf s l).exchange = none) →
      ∃ t, exec .supplyFail s = .next t ∧ unchangedBut [.journal, .startup] s t ∧
        t.startup = { s.startup with phase := .shutdown } ∧
        t.journal = { s.journal with frozen := true, offer := .none } ∧ t.trunk.upRo = false ∧ t.trunk.downRo = false) ∧
      (s.trunk.upTx ≠ none ∨ s.trunk.downTx ≠ none ∨ (∃ l, (lineOf s l).exchange ≠ none) →
        exec .supplyFail s = .next s) := by
  have hexec := exec_supplyFail hf ht
  rw [failStep_finish hw hs] at hexec
  refine ⟨fun hup hdown hlines => ?_, fun hbusy => ?_⟩
  · rw [if_pos (allQuiet_iff.2 ⟨hup, hdown, hlines⟩)] at hexec
    have hstop : (enterShutdown s).stopping = true := by simp [State.stopping, enterShutdown, setPhase, hf]
    obtain ⟨hjournal, htrunk⟩ := settle_stopping hstop
    refine ⟨_, hexec, unchangedBut.settled ?_, by simp [enterShutdown, setPhase], ?_, by rw [htrunk], by rw [htrunk]⟩
    · rw [unchangedBut_iff]
      simp
    · rw [hjournal]
      rfl
  · have hquiet : ¬ allQuiet s = true := by
      rw [allQuiet_iff]
      rintro ⟨hup, hdown, hlines⟩
      rcases hbusy with h | h | ⟨l, h⟩
      · exact h hup
      · exact h hdown
      · exact h (hlines l)
    rw [if_neg hquiet] at hexec
    exact hexec

/-- Step 4's command on the lowest context that it ends (R122, R206). -/
theorem stopStep_closes {k : Fin 2} (h : runsStop s c) (hs : s.startup.stopStep = .sessions) (hk : stopEnds s c k)
    (hlower : ∀ j, j < k → ¬ stopEnds s c j) : exec c s = .next (settle (stopSession (stopReason c) s k)) := by
  have hexec := stopStep_sessions h hs
  rw [ctxToClose_some.2 ⟨(stopCloses_iff k).2 hk, fun j hj => (stopCloses_false j).2 (hlower j hj)⟩] at hexec
  exact hexec

/-- A warm restart resets the part once its stop work is done, with the marker written and the level kept (R102, R208). -/
theorem warmStep_reset (straps : BitVec 5) (hw : s.startup.stopWork ≠ .none) (hs : s.startup.stopStep = .marker) :
    warmStep s straps = some (resetPart (writeMarker s) .warm straps s.override.requested) := by
  rw [warmStep, if_neg hw, hs]

theorem exec_coldRestart {straps : BitVec 5} (hs : s.serving = true) (hf : s.startup.failTaken = false)
    (hp : s.startup.phase = .run ∨ s.startup.phase = .awaitLoad) (hr : s.startup.restart = some .cold) :
    exec (.restartBegin straps) s = .next (coldReset s straps) := by
  have hphase : restartable s.startup.phase = true := by simpa [restartable] using hp
  simp only [exec, execRestartBegin, hs, hf, hphase, hr, Bool.and_self, Bool.not_false, if_true, done, coldReset,
    settle_resetPart]

theorem exec_noRestart {straps : BitVec 5} (hr : s.startup.restart = none) : exec (.restartBegin straps) s = .next s := by
  simp only [exec, execRestartBegin, hr]
  split <;> rfl

end

/-- Settles O47: the tick that takes SFAILB, SUPPLY_FAIL's own steps, the steps of both commands, and the resets of RESTART. -/
theorem stopWorkRunsInSteps : Obligations.StopWorkRunsInSteps := by
  refine ⟨fun s fire ht hf => tick_takesSupplyFail fire ht hf, fun s hf ht => ⟨fun hw => ?_, fun hw hs => ?_, fun hw hs => ?_⟩,
    fun s c h => ?_, fun s straps hserving hf hp => ⟨exec_noRestart, fun hr hw => ?_, fun hr hw hs => ?_, fun hr => ?_⟩⟩
  · have hexec := exec_supplyFail hf ht
    rw [failStep_begin hw] at hexec
    exact ⟨_, hexec, startupOnly_settled s _⟩
  · have hexec := exec_supplyFail hf ht
    rw [failStep_marker hw hs] at hexec
    exact ⟨_, hexec, startupOnly_settled s _⟩
  · exact supplyFail_finishes hf ht hw hs
  · have hrun : runsStop s c := h
    refine ⟨fun hs hfree => ?_, fun hs hbusy => ?_, fun hs hdrained hfree => ?_, fun hs hbusy => ?_,
      fun hs => ⟨fun hnone => ?_, fun i m hm hcharged hlower => ?_⟩, fun hs => ?_⟩
    · exact ⟨_, (stopStep_operation hrun hs).trans (if_pos hfree), atStep_settled _⟩
    · exact (stopStep_operation hrun hs).trans (if_neg hbusy)
    · exact ⟨_, (stopStep_drain hrun hs).trans (if_pos ⟨hdrained, hfree⟩), atStep_settled _⟩
    · exact (stopStep_drain hrun hs).trans (if_neg fun h => hbusy.elim (fun hb => hb h.1) fun hb => hb h.2)
    · have hexec := stopStep_charges hrun hs
      rw [chargedRoom_none.2 hnone] at hexec
      exact ⟨_, hexec, atStep_settled _⟩
    · have hexec := stopStep_charges hrun hs
      rw [chargedRoom_some.2 ⟨⟨m, hm, hcharged⟩, hlower⟩] at hexec
      exact ⟨_, hexec, commitAll_settled hm⟩
    · refine ⟨fun hnone => ?_, fun k hk hlower => ?_⟩
      · have hexec := stopStep_sessions hrun hs
        rw [ctxToClose_none.2 fun k => (stopCloses_false k).2 (hnone k)] at hexec
        exact ⟨_, hexec, atStep_settled _⟩
      · obtain ⟨hsame, hissue⟩ := stopSession_leaves (s := s) (k := k) (stopReason c)
        refine ⟨_, stopStep_closes hrun hs hk hlower, hsame.settled, by simpa only [settle_frame] using hissue,
          fun hserving => stopSession_closes (stopReason c) hserving,
          fun hstate hout hcls hnew hvoid i hi g hgen hnext hoccupied => ?_⟩
        obtain ⟨hset, hrecords⟩ := stopSession_burns (stopReason_ne (c := c)) hstate hout hcls hnew hvoid hi hgen hnext hoccupied
        have hset : DynSet i { raisedTo (dynOf s i) g with marker := none } s (settle (stopSession (stopReason c) s k)) :=
          hset.of_store (by simp)
        refine ⟨hset.dyn, fun j hj => ?_, hrecords.settled⟩
        rw [dynOf, hset]
        exact look_put_ne _ (Ne.symm hj) _
  · have hexec := execRestartBegin_warm (straps := straps) hserving hf hp hr
    rw [warmStep, if_pos hw] at hexec
    exact ⟨_, hexec, startupOnly_settled s _⟩
  · have hexec := execRestartBegin_warm (straps := straps) hserving hf hp hr
    rw [warmStep_reset straps (by rw [hw]; nofun) hs] at hexec
    dsimp only at hexec
    rw [settle_resetPart] at hexec
    exact ⟨_, hexec, resetPart_fresh _ _ _ rfl rfl, resetPart_storeKept (writeMarker s) _ _ _, rfl, rfl, rfl, rfl, rfl⟩
  · exact ⟨_, exec_coldRestart hserving hf hp hr, resetPart_fresh _ _ _ rfl rfl, resetPart_storeCleared _ _ _ rfl, rfl, rfl, rfl,
      rfl, rfl⟩

end Sys2Proof.Machine
end

section
/-!
The contexts of the Issue Unit under the shared operations (06_issue_and_supersession.md, R104): each leaves a context open for
the node and stay it was open for, or FREE.
-/

namespace Sys2Proof.Machine

/-! ### The contexts from one state to another -/

/-- From `v` to `w` no context is opened, and those still open keep their node and stay. -/
def ContextsKept (v w : Vector IssueCtx 2) : Prop :=
  ∀ k, isOpen (look w k) = true →
    isOpen (look v k) = true ∧ (look w k).node = (look v k).node ∧ (look w k).stay = (look v k).stay

@[simp] theorem ContextsKept.same (v : Vector IssueCtx 2) : ContextsKept v v := fun _ h => ⟨h, rfl, rfl⟩

theorem ContextsKept.step {u v w : Vector IssueCtx 2} (h : ContextsKept u v) (g : ContextsKept v w) : ContextsKept u w := by
  intro k hk
  obtain ⟨hv, hnode, hstay⟩ := g k hk
  obtain ⟨hu, hnode', hstay'⟩ := h k hv
  exact ⟨hu, hnode.trans hnode', hstay.trans hstay'⟩

theorem sessionsSound_of_kept {s t : State} (h : ContextsKept s.issue.ctxs t.issue.ctxs) (hs : sessionsSound s) :
    sessionsSound t := by
  intro h0 h1
  obtain ⟨g0, hnode0, hstay0⟩ := h 0 h0
  obtain ⟨g1, hnode1, hstay1⟩ := h 1 h1
  have hsound := hs g0 g1
  unfold isGuest ctxOf at hsound ⊢
  rw [hnode0, hstay0, hnode1, hstay1]
  exact hsound

/-- A fold whose every step keeps the contexts keeps them. -/
theorem foldl_keepsContexts {β : Type} {v : Vector IssueCtx 2} (f : State → β → State)
    (hf : ∀ s b, ContextsKept v s.issue.ctxs → ContextsKept v (f s b).issue.ctxs) (l : List β) {s : State}
    (h : ContextsKept v s.issue.ctxs) : ContextsKept v (l.foldl f s).issue.ctxs :=
  foldl_holds (fun s => ContextsKept v s.issue.ctxs) f hf l s h

theorem ctxOf_congr {s t : State} (h : t.issue.ctxs = s.issue.ctxs) (k : Fin 2) : ctxOf t k = ctxOf s k := by
  unfold ctxOf
  rw [h]

section
variable {v : Vector IssueCtx 2} {s : State}

/-- One context changed: it is FREE, or open as it was. -/
theorem setCtx_keepsContexts {k : Fin 2} {c : IssueCtx} (h : ContextsKept v s.issue.ctxs)
    (hc : isOpen c = true → isOpen (ctxOf s k) = true ∧ c.node = (ctxOf s k).node ∧ c.stay = (ctxOf s k).stay) :
    ContextsKept v (setCtx s k c).issue.ctxs := by
  refine h.step fun j hj => ?_
  by_cases hjk : k = j
  · subst hjk
    simp only [setCtx, State.withIssue_issue, look_put_same] at hj ⊢
    exact hc hj
  · have hlook : look (setCtx s k c).issue.ctxs j = look s.issue.ctxs j := look_put_ne _ hjk _
    rw [hlook] at hj ⊢
    exact ⟨hj, rfl, rfl⟩

/-! ### Each operation that reaches a context -/

/-! Sessions and commands (R42, R112, R115, R118) -/

@[simp] theorem finishSession_keepsContexts (k : Fin 2) (out : SessionOutcome) (notify : Bool)
    (h : ContextsKept v s.issue.ctxs) : ContextsKept v (finishSession s k out notify).issue.ctxs := by
  unfold finishSession
  refine setCtx_keepsContexts ?_ nofun
  split <;> simpa using h

@[simp] theorem endSession_keepsContexts (k : Fin 2) (r : FailReason) (h : ContextsKept v s.issue.ctxs) :
    ContextsKept v (endSession s k r).issue.ctxs := by
  by_cases ho : isOpen (ctxOf s k) = true ∧ (ctxOf s k).outcome = none
  · have hdecided : ContextsKept v (sessionDecided s k r).issue.ctxs := by
      have hspent : ContextsKept v (withdraw (timeoutSpent s (ctxOf s k).node r) (ctxOf s k).node).issue.ctxs := by simpa using h
      refine setCtx_keepsContexts hspent fun _ => ?_
      rw [ctxOf_congr (s := s) (by simp)]
      exact ⟨ho.1, rfl, rfl⟩
    rw [endSession_eq r ho.1 ho.2]
    split
    · exact hdecided
    · exact finishSession_keepsContexts _ _ _ hdecided
  · have hsame : endSession s k r = s := if_neg (by simpa using ho)
    rw [hsame]
    exact h

@[simp] theorem endNodeSession_keepsContexts (n : Node) (r : FailReason) (h : ContextsKept v s.issue.ctxs) :
    ContextsKept v (endNodeSession s n r).issue.ctxs := by
  unfold endNodeSession
  split <;> simp [h]

@[simp] theorem endRoomSession_keepsContexts (room : Half) (r : FailReason) (h : ContextsKept v s.issue.ctxs) :
    ContextsKept v (endRoomSession s room r).issue.ctxs := by
  unfold endRoomSession
  split <;> simp [h]

@[simp] theorem issueDrop_keepsContexts (n : Node) (c : Command) (h : ContextsKept v s.issue.ctxs) :
    ContextsKept v (issueDrop s n c).issue.ctxs := by
  unfold issueDrop
  split
  · exact h
  · split <;> simp [h]

@[simp] theorem queueCommand_keepsContexts (n : Node) (c : Command) (h : ContextsKept v s.issue.ctxs) :
    ContextsKept v (queueCommand s n c).issue.ctxs := by
  unfold queueCommand
  dsimp only
  repeat' split
  all_goals simp [h]

@[simp] theorem closeSession_keepsContexts (k : Fin 2) (notify : Bool) (h : ContextsKept v s.issue.ctxs) :
    ContextsKept v (closeSession s k notify).issue.ctxs := by
  unfold closeSession
  dsimp only
  split <;> simp [h]

@[simp] theorem stopSession_keepsContexts (r : FailReason) (k : Fin 2) (h : ContextsKept v s.issue.ctxs) :
    ContextsKept v (stopSession r s k).issue.ctxs := by
  unfold stopSession
  dsimp only
  split
  · simp [h]
  · exact closeSession_keepsContexts _ _ (setCtx_keepsContexts h fun ho => ⟨ho, rfl, rfl⟩)

/-! Lines and levels (R49, R51, R98) -/

@[simp] theorem entryEffect_keepsContexts (n : Node) (h : ContextsKept v s.issue.ctxs) :
    ContextsKept v (entryEffect s n).issue.ctxs := by
  have hs : ContextsKept v (if (nodeOf (unqueue s n) n).command = some .holdOpen then unqueue s n
      else setLine (unqueue s n) n.line (dropCommand (lineOf (unqueue s n) n.line) n.addr .dropped)).issue.ctxs := by
    split <;> simp [h]
  unfold entryEffect
  dsimp only
  split <;> simp [hs]

@[simp] theorem entryEffects_keepsContexts (l : LineNo) (h : ContextsKept v s.issue.ctxs) :
    ContextsKept v (entryEffects s l).issue.ctxs := by
  unfold entryEffects
  exact foldl_keepsContexts entryEffect (fun _ n => entryEffect_keepsContexts n) (lineNodes l) h

@[simp] theorem queueDoors_keepsContexts (c : Command) (h : ContextsKept v s.issue.ctxs) :
    ContextsKept v (queueDoors s c).issue.ctxs :=
  foldl_keepsContexts _ (fun _ i => queueCommand_keepsContexts (nodeAt i) c) _ h

@[simp] theorem recomputeLevel_keepsContexts (h : ContextsKept v s.issue.ctxs) :
    ContextsKept v (recomputeLevel s).issue.ctxs := by
  unfold recomputeLevel leaveRelease enterRelease
  dsimp only
  repeat' split
  all_goals simp [h]

@[simp] theorem recomputeLevel_withOverride_keepsContexts (o : OverrideUnit) (h : ContextsKept v s.issue.ctxs) :
    ContextsKept v (recomputeLevel (s.withOverride o)).issue.ctxs := recomputeLevel_keepsContexts h

@[simp] theorem setOverride_keepsContexts (b : Byte) (h : ContextsKept v s.issue.ctxs) :
    ContextsKept v (setOverride s b).issue.ctxs := by
  unfold setOverride answerLevels
  dsimp only
  repeat' split
  all_goals simp [h]

@[simp] theorem toHeld_keepsContexts (l : LineNo) (h : ContextsKept v s.issue.ctxs) :
    ContextsKept v (toHeld s l).issue.ctxs := by
  unfold toHeld
  simp [h]

@[simp] theorem takeMode_keepsContexts (l : LineNo) (m : RequestedMode) (tag : Byte) (h : ContextsKept v s.issue.ctxs) :
    ContextsKept v (takeMode s l m tag).issue.ctxs := by
  have holding : ∀ b, ContextsKept v (enterHolding s l b tag).issue.ctxs := fun b => by
    unfold enterHolding
    dsimp only
    split <;> simp [h]
  unfold takeMode
  split
  · cases m <;> simp [takeFromDecide, modeAtOnce, h, holding]
  · cases m <;> simp [takeFromTransparent, modeAtOnce, h, holding]
  · simp [h]
  · simp [h]

@[simp] theorem lineMode_keepsContexts (line mode tag : Byte) (h : ContextsKept v s.issue.ctxs) :
    ContextsKept v (lineMode s line mode tag).issue.ctxs := by
  unfold lineMode
  repeat' split
  all_goals simp [h]

@[simp] theorem passDown_keepsContexts (line addr : Byte) (chars : List Byte) (h : ContextsKept v s.issue.ctxs) :
    ContextsKept v (passDown s line addr chars).issue.ctxs := by
  unfold passDown
  repeat' split
  all_goals simp [h]

@[simp] theorem tickStep_keepsContexts (fire fail : Bool) (h : ContextsKept v s.issue.ctxs) :
    ContextsKept v (tickStep fire fail s).issue.ctxs := by
  unfold tickStep leaveResetting enterChecking
  dsimp only
  repeat' split
  all_goals simp [h]

/-! Answers and ends of exchanges (R37 to R44, R107 to R109) -/

@[simp] theorem handPresent_keepsContexts (n : Node) (g : Grant) (c : Capture) (h : ContextsKept v s.issue.ctxs) :
    ContextsKept v (handPresent s n g c).issue.ctxs := by
  unfold handPresent handPresentation
  repeat' split
  all_goals simp [h]

@[simp] theorem blankReport_keepsContexts (n : Node) (serial : Serial) (h : ContextsKept v s.issue.ctxs) :
    ContextsKept v (blankReport s n serial).issue.ctxs := by
  unfold blankReport
  dsimp only
  repeat' split
  · exact h
  · exact setCtx_keepsContexts h fun ho => ⟨ho, rfl, rfl⟩
  · exact h

@[simp] theorem writtenReport_keepsContexts (n : Node) (h : ContextsKept v s.issue.ctxs) :
    ContextsKept v (writtenReport s n).issue.ctxs := by
  have hspent : ContextsKept v (withdraw (cancel s n .issueTimeout) n).issue.ctxs := by simpa using h
  unfold writtenReport
  dsimp only
  repeat' split
  · exact h
  · refine setCtx_keepsContexts hspent fun ho => ?_
    rw [ctxOf_congr (s := s) (by simp)]
    exact ⟨ho, rfl, rfl⟩
  · exact h

@[simp] theorem writeFailedReport_keepsContexts (n : Node) (h : ContextsKept v s.issue.ctxs) :
    ContextsKept v (writeFailedReport s n).issue.ctxs := by
  unfold writeFailedReport
  repeat' split
  all_goals simp [h]

@[simp] theorem encoderStatus_keepsContexts (n : Node) (b : Byte) (h : ContextsKept v s.issue.ctxs) :
    ContextsKept v (encoderStatus s n b).issue.ctxs := by
  unfold encoderStatus
  dsimp only
  split <;> simp [h]

@[simp] theorem handEvent_keepsContexts (n : Node) (kind : NodeKind) (event : NodeEvent) (status : Byte)
    (c : Capture) (h : ContextsKept v s.issue.ctxs) : ContextsKept v (handEvent s n kind event status c).issue.ctxs := by
  cases event
  all_goals simp only [handEvent, handContact]
  all_goals try split
  all_goals simp [h]

@[simp] theorem handStatus_keepsContexts (n : Node) (kind : NodeKind) (event : NodeEvent) (status : Byte)
    (h : ContextsKept v s.issue.ctxs) : ContextsKept v (handStatus s n kind event status).issue.ctxs := by
  cases kind <;> simp [handStatus, handContact, h]

@[simp] theorem missIf_keepsContexts (n : Node) (d : DoorEntry) (h : ContextsKept v s.issue.ctxs) :
    ContextsKept v (missIf s n d).issue.ctxs := by
  unfold missIf missedAnswer
  dsimp only
  repeat' split
  all_goals simp [h]

@[simp] theorem takeAnswer_keepsContexts (l : LineNo) (d : DoorEntry) (ans : NodeAnswer) (event : NodeEvent)
    (c : Capture) (h : ContextsKept v s.issue.ctxs) : ContextsKept v (takeAnswer s l d ans event c).issue.ctxs := by
  unfold takeAnswer handAnswer
  dsimp only
  split <;> simp [h]

@[simp] theorem answerEnd_keepsContexts (l : LineNo) (e : Exchange) (chars : List Byte) (h : ContextsKept v s.issue.ctxs) :
    ContextsKept v (answerEnd s l e chars).issue.ctxs := by
  unfold answerEnd
  dsimp only
  repeat' split
  all_goals simp [h]

@[simp] theorem failedAttempt_keepsContexts (n : Node) (c : Command) (duty : Bool) (fate : Fate)
    (h : ContextsKept v s.issue.ctxs) : ContextsKept v (failedAttempt s n c duty fate).issue.ctxs := by
  unfold failedAttempt
  dsimp only
  repeat' split
  all_goals simp [h]

@[simp] theorem commandFailed_keepsContexts (l : LineNo) (e : Exchange) (b : Addr) (c : Command) (duty : Bool)
    (fate : Fate) (h : ContextsKept v s.issue.ctxs) :
    ContextsKept v (commandFailed s l e b c duty fate).issue.ctxs := by
  unfold commandFailed
  simp [h]

@[simp] theorem abandon_keepsContexts (l : LineNo) (e : Exchange) (h : ContextsKept v s.issue.ctxs) :
    ContextsKept v (abandon s l e).issue.ctxs := by
  unfold abandon
  split <;> simp [h]

/-! Decisions and requests (R87, R107, R117, R119) -/

@[simp] theorem completeDecision_keepsContexts (p : Presentation) (h : ContextsKept v s.issue.ctxs) :
    ContextsKept v (completeDecision s p).issue.ctxs := by
  unfold completeDecision queueIfDecide
  dsimp only
  split <;> simp [h]

@[simp] theorem completeComposition_keepsContexts (k : Fin 2) (h : ContextsKept v s.issue.ctxs) :
    ContextsKept v (completeComposition s k).issue.ctxs := by
  unfold completeComposition
  dsimp only
  split
  · next hc =>
    have hopen : isOpen (ctxOf s k) = true := by simp [isOpen, hc.1]
    split
    · have hcomposed := fun c' => setCtx_keepsContexts (k := k) (c := c') h
      simp [hcomposed, hopen]
    · exact h
  · exact h

@[simp] theorem cancelIssue_keepsContexts (b : Byte) (h : ContextsKept v s.issue.ctxs) :
    ContextsKept v (cancelIssue s b).issue.ctxs := by
  unfold cancelIssue
  repeat' split
  all_goals simp [h]

@[simp] theorem checkoutRoom_keepsContexts (room : Half) (h : ContextsKept v s.issue.ctxs) :
    ContextsKept v (checkoutRoom s room).issue.ctxs := by
  have session : ∀ t : State, ContextsKept v t.issue.ctxs → ContextsKept v (checkoutSession t room).issue.ctxs :=
    fun t ht => by
      unfold checkoutSession
      repeat' split
      · exact ht
      · exact ht
      · exact endSession_keepsContexts _ _ ht
      · exact setCtx_keepsContexts ht fun ho => ⟨ho, rfl, rfl⟩
  unfold checkoutRoom
  dsimp only
  split <;> simp [h, session]

/-! Loads (R58, R65, R66) -/

@[simp] theorem postDoor_keepsContexts (i : Slot) (d : DoorEntry) (h : ContextsKept v s.issue.ctxs) :
    ContextsKept v (postDoor s i d).issue.ctxs := by
  unfold postDoor
  dsimp only
  repeat' split
  all_goals simp [h]

@[simp] theorem takeRoom_keepsContexts (i : Slot) (st : RoomStatic) (restore : Option RestorePart)
    (h : ContextsKept v s.issue.ctxs) : ContextsKept v (takeRoom s i st restore).issue.ctxs := by
  unfold takeRoom keepRoom replaceRoom restoreKept
  dsimp only
  repeat' split
  all_goals simp [h]

end

end Sys2Proof.Machine
end

section
/-!
Every step keeps two open contexts on different nodes and for different guest rooms (06_issue_and_supersession.md, R104, R105):
the ISSUE that opens one has found neither its node nor its room taken, and nothing else opens any.
-/

namespace Sys2Proof.Machine

/-- From `s` to `t` the invariant is kept. -/
def KeepsSessions (s t : State) : Prop := sessionsSound s → sessionsSound t

/-! ### The ISSUE that opens a context (R105, R106) -/

section
variable {s : State}

/-- A context opened for a node and a guest room for which none is open. -/
theorem sessionsSound_opened {c : IssueCtx} (k : Fin 2) (ht : ¬ contextTaken s c.node c.stay) :
    sessionsSound (setCtx s k c) := by
  have other : ∀ j, isOpen (ctxOf s j) = true →
      (ctxOf s j).node ≠ c.node ∧
        (isGuest (ctxOf s j) = true → isGuest c = true → (ctxOf s j).stay.room ≠ c.stay.room) := fun j hj => by
    have hfree : (ctxOf s j).state ≠ .free := by simpa [isOpen] using hj
    exact ⟨fun hn => ht ⟨j, hfree, .inl hn⟩, fun hg hc hr =>
      ht ⟨j, hfree, .inr ⟨of_decide_eq_true hc, of_decide_eq_true hg, hr⟩⟩⟩
  intro h0 h1
  rw [ctxOf_setCtx] at h0 h1 ⊢
  rw [ctxOf_setCtx]
  match k with
  | 0 =>
    obtain ⟨hnode, hroom⟩ := other 1 h1
    exact ⟨hnode.symm, fun hc hg hr => hroom hg hc hr.symm⟩
  | 1 => exact other 0 h0

/-- The test that gives a context has found none open for the node or the guest room (R105, test 5). -/
theorem judgeIssue_free {nb kb : Byte} {stay : Stay} {k : Fin 2} {n : Node} {dup : Bool}
    (h : judgeIssue s nb kb stay = .ok (k, n, dup)) : ¬ contextTaken s n stay := by
  intro ht
  unfold judgeIssue at h
  split at h
  · cases h
  · repeat' split at h
    · cases h
    · cases h
    · cases h
    · cases h
    · next hk =>
      cases h
      rw [ctxForIssue_none (.inl ht)] at hk
      cases hk

theorem completeIssue_keeps (s : State) : KeepsSessions s (completeIssue s) := by
  intro hs
  unfold completeIssue
  split
  · next nb kb stay tag _ _ =>
    split
    · exact sessionsSound_of_kept (by simp) hs
    · next k n dup hj =>
      unfold acceptIssue
      dsimp only
      refine sessionsSound_of_kept ?_ (sessionsSound_opened k
        (c := { IssueCtx.free with state := .awaitBlank, node := n, tag := tag, duplicate := dup, stay := stay })
        (judgeIssue_free hj))
      simp
  · exact hs

end

/-! ### What keeps the invariant -/

theorem keepsSessions_of_kept {s t : State} (h : ContextsKept s.issue.ctxs t.issue.ctxs) : KeepsSessions s t :=
  sessionsSound_of_kept h

theorem keepsSessions_of_same {s t : State} (h : t.issue.ctxs = s.issue.ctxs) : KeepsSessions s t :=
  sessionsSound_of_kept (by simp [h])

@[simp] theorem keepsSessions_idle (s : State) : Leads KeepsSessions s (idle s) := by
  rintro t ⟨⟩
  exact id

@[simp] theorem keepsSessions_settle (s t : State) : KeepsSessions s (settle t) ↔ KeepsSessions s t :=
  imp_congr_right fun _ => ⟨keepsSessions_of_same (by simp), keepsSessions_of_same (by simp)⟩

theorem keepsSessions_done {s t : State} (h : KeepsSessions s t) : Leads KeepsSessions s (done t) := by
  simpa using h

/-- With every context FREE there is nothing to keep. -/
theorem resetPart_sessionsSound (s : State) (cause : StartCause) (straps : BitVec 5) (l : Level) :
    sessionsSound (resetPart s cause straps l) := by
  intro h
  simp [ctxOf, resetPart, isOpen, IssueCtx.free] at h

/-! ### Table operations (R170) -/

/-- A grant opens no context, so the completion alone can. -/
theorem runForm_keepsSessions {form : OpForm} {grant complete : State → Option State}
    (hg : ∀ s t, grant s = some t → t.issue.ctxs = s.issue.ctxs) (hc : ∀ s t, complete s = some t → KeepsSessions s t)
    (s : State) : Leads KeepsSessions s (runForm form grant complete s) := by
  unfold runForm
  cases form
  all_goals dsimp only
  all_goals split
  · next t h => exact keepsSessions_done (keepsSessions_of_same (hg s t h))
  · exact keepsSessions_idle s
  · next t h => exact keepsSessions_done (hc s t h)
  · exact keepsSessions_idle s
  · next t h =>
    obtain ⟨g, h1, h2⟩ := Option.bind_eq_some_iff.1 h
    exact keepsSessions_done fun hs => hc _ t h2 (keepsSessions_of_same (by simp [hg s g h1]) hs)
  · exact keepsSessions_idle s

theorem finishOp_keepsSessions {eff : PortOp → Option (State → State)}
    (he : ∀ op f, eff op = some f → ∀ s, KeepsSessions s (f s)) (s t : State) (h : finishOp eff s = some t) :
    KeepsSessions s t := by
  obtain ⟨-, op, f, -, hf, rfl⟩ := finishOp_some h
  exact fun hs => he op f hf _ (keepsSessions_of_same (by simp) hs)

section
variable {s : State} {form : OpForm} {eff : PortOp → Option (State → State)}

/-- The operations granted to the Minibar Engine. -/
theorem minibarOperation_keepsSessions {sel : MinibarWork → Option PortOp}
    (he : ∀ op f, eff op = some f → ∀ s, KeepsSessions s (f s)) :
    Leads KeepsSessions s (runForm form (grantMinibar sel) (finishOp eff) s) := by
  refine runForm_keepsSessions (fun s t h => ?_) (finishOp_keepsSessions he) s
  unfold grantMinibar at h
  repeat' split at h
  · cases h
  · obtain ⟨op, -, rfl⟩ := Option.map_eq_some_iff.1 h
    simp
  · cases h

/-- The operations granted to the Issue Unit. -/
theorem issueOperation_keepsSessions {sel : IssueWork → Option PortOp}
    (he : ∀ op f, eff op = some f → ∀ s, KeepsSessions s (f s)) :
    Leads KeepsSessions s (runForm form (grantIssue sel) (finishOp eff) s) := by
  refine runForm_keepsSessions (fun s t h => ?_) (finishOp_keepsSessions he) s
  unfold grantIssue at h
  repeat' split at h
  · cases h
  · obtain ⟨op, -, rfl⟩ := Option.map_eq_some_iff.1 h
    simp
  · cases h

/-- The operations granted for a request, the loader and the pruner. -/
theorem simpleOperation_keepsSessions {r : Requester} {op : PortOp} {ready : State → Bool}
    (he : ∀ op f, eff op = some f → ∀ s, KeepsSessions s (f s)) :
    Leads KeepsSessions s (runForm form (grantSimple r op ready) (finishOp eff) s) := by
  refine runForm_keepsSessions (fun s t h => ?_) (finishOp_keepsSessions he) s
  obtain ⟨-, -, rfl⟩ := grantSimple_some h
  simp

theorem execDecision_keepsSessions (form : OpForm) (s : State) : Leads KeepsSessions s (execDecision form s) := by
  refine runForm_keepsSessions (fun s t h => ?_) (fun s t h => ?_) s
  · unfold grantDecision at h
    repeat' split at h
    · cases h
    · obtain rfl := Option.some.inj h
      simp
    · cases h
  · unfold finishDecision at h
    repeat' split at h
    · obtain rfl := Option.some.inj h
      exact keepsSessions_of_kept (by simp)
    · cases h
    · cases h

theorem execPrivacyWrite_keepsSessions (form : OpForm) (s : State) : Leads KeepsSessions s (execPrivacyWrite form s) := by
  refine runForm_keepsSessions (fun s t h => ?_) (fun s t h => ?_) s
  · unfold grantPrivacy at h
    repeat' split at h
    · cases h
    · obtain rfl := Option.some.inj h
      simp
    · cases h
  · unfold finishPrivacy at h
    repeat' split at h
    · obtain rfl := Option.some.inj h
      exact keepsSessions_of_same (by simp)
    · cases h
    · cases h

end

/-! ### Loads (R173) -/

section
variable {s t : State}

theorem postParsed_keepsSessions {α : Type} {n i : Nat} {e : Option α} {place : Fin n → α → State}
    (hp : ∀ j x, KeepsSessions s (place j x)) (h : postParsed n i e place = .ok t) : KeepsSessions s t := by
  unfold postParsed at h
  repeat' split at h
  · cases h
  · cases h; exact hp _ _
  · cases h

theorem postAt_keepsSessions {table : TableId} {i : Nat} {bytes : List Byte} (h : postAt s table i bytes = .ok t) :
    KeepsSessions s t := by
  unfold postAt at h
  cases table
  case room =>
    dsimp only at h
    split at h
    · unfold postRoom at h
      repeat' split at h
      · cases h
      · cases h
      · cases h; exact keepsSessions_of_kept (by simp)
    · cases h
  all_goals exact postParsed_keepsSessions (fun j x => keepsSessions_of_kept (by simp)) h

theorem examine_keepsSessions {w : LoadWindow} {e : List Byte} (h : examine s w e = .ok t) : KeepsSessions s t := by
  unfold examine at h
  repeat' split at h
  · cases h; next hp => exact postAt_keepsSessions hp
  all_goals cases h

theorem execPost_keepsSessions (s : State) : Leads KeepsSessions s (execPost s) := by
  have post : ∀ w ld e es, KeepsSessions s (postNext s w ld e es) := fun w ld e es => by
    unfold postNext
    split
    · next h => exact fun hs => keepsSessions_of_same (by simp) (examine_keepsSessions h hs)
    · exact keepsSessions_of_same (by simp)
  unfold execPost
  repeat' split
  · exact keepsSessions_done (post _ _ _ _)
  all_goals exact keepsSessions_idle s

/-! ### Stop work (R122, R206, R208) -/

theorem stopEarly_keepsSessions {sel : IssueCtx → Bool} {r : FailReason} (h : stopEarly sel r s = some t) :
    KeepsSessions s t := by
  refine keepsSessions_of_kept ?_
  unfold stopEarly at h
  repeat' split at h
  all_goals cases h
  all_goals simp

theorem warmStep_keepsSessions {straps : BitVec 5} (h : warmStep s straps = some t) : KeepsSessions s t := by
  unfold warmStep at h
  split at h
  · cases h; exact keepsSessions_of_same rfl
  · split at h
    · cases h; exact fun _ => resetPart_sessionsSound _ _ _ _
    · cases h; exact fun _ => resetPart_sessionsSound _ _ _ _
    · exact stopEarly_keepsSessions h

theorem failStep_keepsSessions (h : failStep s = some t) : KeepsSessions s t := by
  unfold failStep at h
  split at h
  · split at h
    · cases h; split <;> exact keepsSessions_of_same rfl
    · split at h
      · cases h; exact keepsSessions_of_same rfl
      · cases h
    · exact stopEarly_keepsSessions h
  · cases h; exact keepsSessions_of_same rfl

end

/-! ### Every step -/

/-- A delivered expiry. -/
theorem expiry_keepsSessions {s : State} {n : Node} {k : DeadlineKind} {f : State → State}
    (hf : ∀ t, ContextsKept t.issue.ctxs (f t).issue.ctxs) :
    Leads KeepsSessions s (match takeExpiry s n k with | some t => done (f t) | none => idle s) := by
  split
  · next t h =>
    obtain ⟨-, -, rfl⟩ := takeExpiry_some h
    exact keepsSessions_done (keepsSessions_of_kept (hf _))
  · simp

/-- A command that runs a table operation, a load, a reset or the stop work is taken by itself; any other one leaves each context
as it is or FREE, as what is proved of its operations says. -/
theorem exec_keepsSessions (c : Instr) (s : State) : Leads KeepsSessions s (exec c s) := by
  cases c
  case powerOnReset straps => exact keepsSessions_done fun _ => resetPart_sessionsSound _ _ _ _
  case pinReset straps =>
    simp only [exec, execPinReset]
    split
    · exact keepsSessions_done fun _ => resetPart_sessionsSound _ _ _ _
    · simp
  case restartBegin straps =>
    simp only [exec, execRestartBegin]
    repeat' split
    · simp
    · exact keepsSessions_done fun _ => resetPart_sessionsSound _ _ _ _
    · next h => exact keepsSessions_done (warmStep_keepsSessions h)
    all_goals simp
  case supplyFail =>
    simp only [exec, execSupplyFail]
    repeat' split
    · next h => exact keepsSessions_done (failStep_keepsSessions h)
    all_goals simp
  case decision form => exact execDecision_keepsSessions form s
  case privacyWrite form => exact execPrivacyWrite_keepsSessions form s
  case issue form => exact issueOperation_keepsSessions (eff := effJudge) fun | .judge, _, rfl, s => completeIssue_keeps s
  case composition form =>
    exact issueOperation_keepsSessions (eff := effComposition) fun
      | .composition _, _, rfl, _ => keepsSessions_of_kept (by simp)
  case issueClosing form =>
    exact issueOperation_keepsSessions (eff := effClosing) fun | .closing _, _, rfl, _ => keepsSessions_of_kept (by simp)
  case roomCheckout form =>
    exact simpleOperation_keepsSessions (eff := effCheckout) fun
      | .checkout, _, rfl, _ => keepsSessions_of_kept (by dsimp only; split <;> simp)
  case roomBump form =>
    exact simpleOperation_keepsSessions (eff := effBump) fun
      | .bump, _, rfl, _ => keepsSessions_of_same (by dsimp only; split <;> simp)
  case minibarSettle form =>
    exact simpleOperation_keepsSessions (eff := effSettle) fun
      | .settle, _, rfl, _ => keepsSessions_of_same (by dsimp only; split <;> simp)
  case denyAdd form =>
    exact simpleOperation_keepsSessions (eff := effDenyAdd) fun
      | .denyAdd, _, rfl, _ => keepsSessions_of_same (by dsimp only; split <;> simp)
  case denyRemove form =>
    exact simpleOperation_keepsSessions (eff := effDenyRemove) fun
      | .denyRemove, _, rfl, _ => keepsSessions_of_same (by dsimp only; split <;> simp)
  case pruneStep form =>
    exact simpleOperation_keepsSessions (eff := effPrune) fun | .prune, _, rfl, _ => keepsSessions_of_same (by simp)
  case drain form =>
    exact simpleOperation_keepsSessions (eff := effDrain) fun | .drain, _, rfl, _ => keepsSessions_of_same (by simp)
  case status form =>
    exact simpleOperation_keepsSessions (eff := effStatus) fun | .status, _, rfl, _ => keepsSessions_of_same (by simp)
  case readEntries form =>
    have whole : Leads KeepsSessions s
        (runForm form (grantSimple .requestUnit .readEntries (requestAsks .readEntries)) (finishOp effReadEntries) s) :=
      simpleOperation_keepsSessions fun
        | .readEntries, _, rfl, _ => keepsSessions_of_same (by dsimp only; split <;> simp)
    simp only [exec, execReadEntries]
    repeat' split
    · exact whole
    all_goals simp [keepsSessions_of_kept]
  case relatchExpiryOperation form =>
    exact minibarOperation_keepsSessions (eff := effRelatch) fun | .relatch _, _, rfl, _ => keepsSessions_of_same (by simp)
  case returnExpiryOperation form =>
    exact minibarOperation_keepsSessions (eff := effReturn) fun | .ret _, _, rfl, _ => keepsSessions_of_same (by simp)
  case reportItemOperation form =>
    exact minibarOperation_keepsSessions (eff := effItem) fun | .item _ _ _, _, rfl, _ => keepsSessions_of_same (by simp)
  case forcedCommit form =>
    exact minibarOperation_keepsSessions (eff := effForced) fun | .forced _, _, rfl, _ => keepsSessions_of_same (by simp)
  case minibarBringIntoLine form =>
    exact minibarOperation_keepsSessions (eff := effLineUp) fun | .lineUp _, _, rfl, _ => keepsSessions_of_same (by simp)
  case post => exact execPost_keepsSessions s
  case relockExpiry n => exact expiry_keepsSessions (f := fun t => relockExpired t n) fun t => by simp
  case heldExpiry n => exact expiry_keepsSessions (f := fun t => heldExpired t n) fun t => by simp
  case relatchExpiry n => exact expiry_keepsSessions (f := fun t => addMinibarWork t (.relatch n)) fun t => by simp
  case returnExpiry n => exact expiry_keepsSessions (f := fun t => addMinibarWork t (.ret n)) fun t => by simp
  case issueTimeoutExpiry n => exact expiry_keepsSessions (f := fun t => endNodeSession t n .timeout) fun t => by simp
  case pollSlot | callSlot | commandSlot | answerReceived | answerRestart | answerWindowClose | stretchLimitExceeded |
    commandDelivered | commandNotDelivered | pollFrameNotDelivered | lineStuck | lineFree | enterHeld =>
    simp only [exec, execPollSlot, execCallSlot, execCommandSlot, execAnswerReceived, execAnswerRestart,
      execAnswerWindowClose, execStretchLimitExceeded, execCommandDelivered, execCommandNotDelivered,
      execPollFrameNotDelivered, execLineStuck, execLineFree, execEnterHeld]
    repeat' split
    all_goals simp [keepsSessions_of_kept]
  case lineMode | nodePassDown | issueCancel | journalPush | loadWindow | load | restart | go | checkingEnd | setClock |
    setOverride =>
    simp only [exec, execLineMode, execNodePassDown, execIssueCancel, execJournalPush, execLoadWindow, execLoad,
      execRestart, execGo, execCheckingEnd, endChecking, execSetClock, execSetOverride]
    repeat' split
    all_goals simp [keepsSessions_of_kept]
  case tickEvent | firePinChange | minuteEvent | clockCountWithoutTick | vddFall | vbakOutOfRange =>
    simp only [exec, execTickEvent, execFirePinChange, execMinuteEvent, execClockCountWithoutTick, execVddFall,
      execVbakOutOfRange]
    repeat' split
    all_goals simp [keepsSessions_of_kept]
  case upstreamFrameReceived | downstreamFrameReceived | frameEndedShort | requestTake | upstreamGrant |
    upstreamFrameFinished | relayDownSend | relayDownFinished | downstreamAbsent | downstreamPresent =>
    simp only [exec, execUpstreamFrameReceived, execDownstreamFrameReceived, execFrameEndedShort, execRequestTake,
      execUpstreamGrant, execUpstreamFrameFinished, execRelayDownSend, execRelayDownFinished, execDownstreamAbsent,
      execDownstreamPresent]
    repeat' split
    all_goals simp [keepsSessions_of_kept]

/-- Settles O57: an ISSUE opens a context only for a node and a guest room that no other has, and no command changes the node or
the stay of an open one. -/
theorem stepsKeepSessions : Obligations.StepsKeepSessions := by
  intro s t hs h
  rcases hp : s.pending with _ | ⟨c, rest⟩
  · rw [step_nil hp] at h
    cases h; exact hs
  · rw [step_cons hp] at h
    exact exec_keepsSessions c _ t h (keepsSessions_of_same rfl hs)

end Sys2Proof.Machine
end

section
/-!
Sessions that end early (06_issue_and_supersession.md, R112 to R117): the end of one session by its class, the ISSUE_TIMEOUT
expiry, and ISSUE_CANCEL.
-/

namespace Sys2Proof.Machine

/-! ### One session ended, by its class (R112 to R115) -/

theorem burns_cause (c : IssueCtx) {why : FailReason} (hw : why ≠ .roomChanged) :
    burns c why = decide (c.state = .writing ∧ c.stay.cls = 1 ∧ c.duplicate = false) := by simp [burns, hw]

theorem burns_awaitBlank {c : IssueCtx} (h : c.state = .awaitBlank) (why : FailReason) : burns c why = false := by
  simp [burns, h]

section
variable {s : State} {k : Fin 2} (why : FailReason)

/-- A GUEST session's end is decided, and its closing asked for (R112, R115). -/
theorem sessionsEnded_guest (hc : (ctxOf s k).stay.cls = 1) :
    sessionsEnded s [k] why =
      { s.issue with
        ctxs :=
          put s.issue.ctxs k
            { ctxOf s k with outcome := some (.failed why (burns (ctxOf s k) why)), heldBlank := none }
        work := (s.issue.work.filter fun w => w != .composition k) ++ [.closing k] } := by
  simp [sessionsEnded, hc, bne]

/-- A session of another class is over at once (R113). -/
theorem sessionsEnded_other (hc : ¬ (ctxOf s k).stay.cls = 1#8) :
    sessionsEnded s [k] why =
      { s.issue with
        ctxs := put s.issue.ctxs k .free, work := s.issue.work.filter fun w => w != .composition k } := by
  simp [sessionsEnded, hc, bne]

theorem endRecords_guest (hc : (ctxOf s k).stay.cls = 1) : endRecords s [k] why = [] := by simp [endRecords, hc]

theorem endRecords_other (hc : ¬ (ctxOf s k).stay.cls = 1#8) :
    endRecords s [k] why =
      [{ stampedRecord s .issueFailed with
        node := some (.node (ctxOf s k).node), serial := (ctxOf s k).serial, cls := some (ctxOf s k).stay.cls,
        detail := .issue none (some (why, false)) }] := by
  simp [endRecords, hc]

theorem endNotices_guest (hc : (ctxOf s k).stay.cls = 1) : endNotices s [k] why = [] := by simp [endNotices, hc]

theorem endNotices_other (hc : ¬ (ctxOf s k).stay.cls = 1#8) :
    endNotices s [k] why =
      [.issueResult (ctxOf s k).tag k (.failed why false) (ctxOf s k).serial none] := by
  simp [endNotices, hc]

variable (ho : isOpen (ctxOf s k) = true) (hn : (ctxOf s k).outcome = none)
include ho hn

/-- A timeout that was the cause is not cancelled (R115). -/
theorem endSession_timeout_time : (endSession s k .timeout).time = s.time := by
  rw [endSession_eq .timeout ho hn]
  split <;> simp [sessionDecided, timeoutSpent]

/-- A GUEST session's end appends no record and queues no notice until it is closed (R115). -/
theorem endSession_guest (hc : (ctxOf s k).stay.cls = 1) :
    (endSession s k why).journal = s.journal ∧ (endSession s k why).trunk = s.trunk := by
  have hg : isGuest (ctxOf s k) = true := decide_eq_true hc
  rw [endSession_eq why ho hn, if_pos hg]
  simp [sessionDecided]

end

/-! ### The ISSUE_TIMEOUT expiry (R116) -/

section
variable {s : State} {n : Node}

theorem sameOwner_issueTimeout (x : DeadlineKind) :
    sameOwner .issueTimeout x = [DeadlineKind.issueTimeout].contains x := by cases x <;> decide

theorem endNodeSession_timeout_time (s : State) (n : Node) : (endNodeSession s n .timeout).time = s.time := by
  rcases endable_cases s n with h | ⟨k, -, hk, hn⟩
  · rw [endNodeSession_none h]
  · rw [endNodeSession_some hk, endSession_timeout_time (ctxOfNode_some hk).1 hn]

end

/-! ### ISSUE_CANCEL (R117) -/

section
variable {s : State} {r : RequestInHand} {b : Byte} {k : Fin 2}

theorem ctxNumber_none (h : 2 ≤ b.toNat) : ctxNumber b = none := by
  unfold ctxNumber
  split
  · omega
  · omega
  · rfl

theorem ctxNumber_some (h : b.toNat = k.val) : ctxNumber b = some k := by
  unfold ctxNumber
  rw [h]
  match k with
  | 0 => rfl
  | 1 => rfl

theorem exec_issueCancel (ha : asked s r) (hr : r.request = .issueCancel b) :
    exec .issueCancel s = .next (settle (cancelIssue s b)) := by
  obtain ⟨request, tag, unicast⟩ := r
  subst hr
  obtain ⟨hw, hin⟩ := ha
  simp [exec, execIssueCancel, hin, hw, done]

/-- An answer and nothing else. -/
theorem answered_only (hin : s.trunk.inHand = some r) (a : Answer) :
    unchangedBut [.trunk] s (settle (answerRequest s a)) ∧ answers s (settle (answerRequest s a)) r a := by
  refine ⟨unchangedBut.settled ?_, trunkIs.settled ((trunkIs_refl s).answered hin a)⟩
  rw [unchangedBut_iff]
  simp

theorem cancelIssue_awaitBlank (hb : b.toNat = k.val) (hs : (ctxOf s k).state = .awaitBlank) :
    cancelIssue s b = answerRequest (endSession s k .cancelled) (.done [0]) := by
  simp only [cancelIssue, ctxNumber_some hb, hs]

/-- What a session ended CANCELLED leaves once the request has been answered. -/
theorem cancelled_leaves {u : State} (hu : u = settle (answerRequest (endSession s k .cancelled) (.done [0])))
    (ho : isOpen (ctxOf s k) = true) (hn : (ctxOf s k).outcome = none) :
    u.issue = sessionsEnded s [k] .cancelled ∧ timeoutCancelled s u (ctxOf s k).node ∧
      u.lines = linesWithdrawn s (ctxOf s k).node := by
  subst hu
  refine ⟨?_, ?_, ?_⟩
  · simpa using endSession_issue .cancelled ho hn
  · simpa [timeoutCancelled] using endSession_time .cancelled ho hn nofun
  · simpa using endSession_lines .cancelled ho hn

end

/-- Settles O29: a cause that finds no undecided session changes nothing; one that finds it decides a GUEST's end and finishes
any other. -/
theorem sessionsEndEarly : Obligations.SessionsEndEarly := by
  refine ⟨fun s n hd => ?_, fun s r b ha hr => ?_⟩
  · obtain ⟨u, hu⟩ : ∃ u, u = s.withTime { s.time with expiring := s.time.expiring.erase (n, .issueTimeout) } := ⟨_, rfl⟩
    have hexec : exec (.issueTimeoutExpiry n) s = .next (settle (endNodeSession u n .timeout)) := by
      simp [exec, execIssueTimeoutExpiry, takeExpiry_delivered sameOwner_issueTimeout hd, done, hu]
    have hissue : u.issue = s.issue := by rw [hu]; rfl
    have hctx : ∀ k, ctxOf u k = ctxOf s k := fun k => by rw [ctxOf, hissue]; rfl
    have htime : (settle (endNodeSession u n .timeout)).time =
        { s.time with expiring := s.time.expiring.erase (n, .issueTimeout) } := by
      simp only [settle_frame, endNodeSession_timeout_time]
      rw [hu]
      rfl
    refine ⟨_, hexec, unchangedBut.settled ?_, htime, fun h => ?_, fun k hk hn => ?_⟩
    · rw [unchangedBut_iff, hu]
      simp
    · have hnone : endable u n = [] := by
        rcases endable_cases u n with h0 | ⟨k, -, hk, hn⟩
        · exact h0
        · rw [ctxOfNode_congr hissue] at hk
          rw [hctx] at hn
          exact absurd hn (h k hk)
      rw [endNodeSession_none hnone, hu]
      exact unchangedBut.settled (by rw [unchangedBut_iff]; simp)
    · intro c burn
      obtain ⟨ho, hnode⟩ := ctxOfNode_some hk
      have ho' : isOpen (ctxOf u k) = true := by rw [hctx]; exact ho
      have hn' : (ctxOf u k).outcome = none := by rw [hctx]; exact hn
      have hends : endNodeSession u n .timeout = endSession u k .timeout :=
        endNodeSession_some ((ctxOfNode_congr hissue n).trans hk) _
      obtain ⟨hended, hrecords, hnotices⟩ := endings_congr hissue (by rw [hu]; rfl : u.time.clock = s.time.clock) [k] .timeout
      have hissues : (settle (endNodeSession u n .timeout)).issue = sessionsEnded s [k] .timeout := by
        rw [hends, ← hended, ← endSession_issue .timeout ho' hn']
        simp
      have hlines : (settle (endNodeSession u n .timeout)).lines = linesWithdrawn s n := by
        rw [hends, ← hnode, ← hctx]
        simpa [linesWithdrawn, lineOf, hu] using endSession_lines .timeout ho' hn'
      refine ⟨fun hf => (linesWithdrawn_gone hlines).resolve_right fun h => h hf, hlines,
        fun hc => ⟨unchangedBut.settled ?_, ?_⟩, fun hc => ⟨?_, ?_, ?_⟩⟩
      · obtain ⟨hjournal, htrunk⟩ := endSession_guest .timeout ho' hn' (by rw [hctx]; exact hc)
        rw [hends, unchangedBut_iff, hjournal, htrunk, hu]
        simp
      · rw [hissues, sessionsEnded_guest .timeout hc, burns_cause (why := .timeout) _ nofun]
      · rw [hissues, sessionsEnded_other .timeout hc]
      · have happ : appendsAll s u [] := appendsAll_nil (by rw [hu]; rfl)
        have := endSession_records (s := u) (k := k) .timeout ho' hn' happ (by rw [hu]; rfl)
        rw [hends]
        rw [hrecords, endRecords_other .timeout hc, hnode] at this
        exact this.settled
      · refine trunkIs.settled (trunkIs_of_eq ?_)
        rw [hends, endSession_trunk .timeout ho' hn', hnotices, endNotices_other .timeout hc, hu]
        rfl
  · have hexec := exec_issueCancel ha hr
    have hin := ha.2
    intro answersOnly
    have only : ∀ a, cancelIssue s b = answerRequest s a → answersOnly a := fun a h => by
      rw [h] at hexec
      exact ⟨_, hexec, answered_only hin a⟩
    refine ⟨fun hb => only _ (by simp only [cancelIssue, ctxNumber_none hb]), fun k hb => ⟨fun hs => only _ ?_,
      fun hs => only _ ?_, fun hs hn => only _ ?_, fun hs hn hc => ?_, fun hs hn hc => ?_⟩⟩
    · simp only [cancelIssue, ctxNumber_some hb, hs]
    · simp only [cancelIssue, ctxNumber_some hb, hs]
    · rw [cancelIssue_awaitBlank hb hs, endSession_decided hn]
    · have ho : isOpen (ctxOf s k) = true := by simp [isOpen, hs]
      rw [cancelIssue_awaitBlank hb hs] at hexec
      obtain ⟨hissue, htime, hlines⟩ := cancelled_leaves rfl ho hn
      obtain ⟨hjournal, htrunk⟩ := endSession_guest .cancelled ho hn hc
      refine ⟨_, hexec, unchangedBut.settled ?_, ?_, htime, hlines, trunkIs.settled ((trunkIs_of_eq htrunk).answered hin _)⟩
      · rw [unchangedBut_iff]
        simp [hjournal]
      · rw [hissue, sessionsEnded_guest .cancelled hc, burns_awaitBlank hs]
    · have ho : isOpen (ctxOf s k) = true := by simp [isOpen, hs]
      rw [cancelIssue_awaitBlank hb hs] at hexec
      obtain ⟨hissue, htime, hlines⟩ := cancelled_leaves rfl ho hn
      have hrecords := endSession_records .cancelled ho hn (appendsAll_nil rfl) rfl
      have htrunk := endSession_trunk .cancelled ho hn
      rw [endNotices_other .cancelled hc] at htrunk
      rw [endRecords_other .cancelled hc] at hrecords
      refine ⟨_, hexec, unchangedBut.settled ?_, ?_, htime, hlines, (hrecords.of_journal (by simp)).settled,
        trunkIs.settled ((trunkIs_of_eq htrunk).thenAnswered (by rw [htrunk]; exact hin) _)⟩
      · rw [unchangedBut_iff]
        simp
      · rw [hissue, sessionsEnded_other .cancelled hc]

end Sys2Proof.Machine
end

section
/-!
The closing operation of a session (06_issue_and_supersession.md, R103, R109 to R115): what each outcome does to the room record and
the deny list, and the end of the session.
-/

namespace Sys2Proof.Machine

/-! ### A committed serial off the deny list (R110, R133) -/

section
variable {s : State}

/-- A found entry is one that its removal takes out. -/
theorem denyErase_ne_of_found {l : List DenyEntry} {x : Serial} {e : DenyEntry} (h : denyFind l x = some e) :
    denyErase l x ≠ l := by
  intro hsame
  have hmem : e ∈ denyErase l x := by
    rw [hsame]
    exact List.mem_of_find?_eq_some h
  have hserial : e.serial = x := by simpa using List.find?_some h
  simp [denyErase, hserial] at hmem

/-- A serial the list does not hold leaves it as it is. -/
theorem denyErase_of_missing {l : List DenyEntry} {x : Serial} (h : denyFind l x = none) : denyErase l x = l :=
  List.filter_eq_self.mpr fun e he => by simpa using List.find?_eq_none.mp h e he

theorem undeny_denyCommitted (serial : Option Serial) : denyCommitted s (undeny s serial) serial := by
  cases serial with
  | none => simp [denyCommitted, undeny]
  | some x =>
    have hleft : (s.store.deny.filter fun e => !decide (some e.serial = some x)) = denyErase s.store.deny x := by
      simp [denyErase]
    simp only [denyCommitted, hleft]
    cases hf : denyFind s.store.deny x with
    | none => simp [undeny, hf, denyErase_of_missing hf]
    | some e =>
      rw [if_neg (denyErase_ne_of_found hf)]
      simp [undeny, hf, setDeny]

theorem undeny_appends (serial : Option Serial) : appendsAll s (undeny s serial) (denyRecords s serial) := by
  cases serial with
  | none =>
    have hnone : denyRecords s none = [] := by simp [denyRecords]
    rw [hnone]
    exact appendsAll_nil rfl
  | some x =>
    have hrecords : denyRecords s (some x) =
        (denyFind s.store.deny x).toList.map fun e =>
          { stampedRecord s .deny with serial := some x, detail := .deny .issue (some e.expiry) } := by
      simp [denyRecords, denyFind]
    rw [hrecords]
    cases hf : denyFind s.store.deny x with
    | none =>
      simp only [undeny, hf]
      exact appendsAll_nil rfl
    | some e =>
      simp only [undeny, hf]
      exact (appendsAll_nil (t := setDeny s (denyErase s.store.deny x)) rfl).record rfl _

end

/-! ### The room record after a closing (R103, R109, R111, R114) -/

/-- A room record's dynamic part after the commit of a GUEST NEW with generation g (R109). -/
def newCommitted (d : RoomDyn) (limit : Half) (g : Gen) : RoomDyn :=
  { raisedTo d g with
    occupied := true
    minibar :=
      if d.occupied then d.minibar
      else
        d.minibar.map fun m =>
          { m with
            tally := 0
            state :=
              if m.state = .openGuest ∨ m.state = .restock then m.state else restState true limit.toNat 0 } }

/-- A room record's dynamic part under a burn of g (R114). -/
def burnCommitted (d : RoomDyn) (void : Bool) (g : Gen) : RoomDyn :=
  if void = true ∨ d.occupied = false then { d with issued := g, accepted := g + 1, occupied := false } else raisedTo d g

/-- A room record's dynamic part after the closing of a GUEST session with generation g, its marker apart. -/
def closedDyn (d : RoomDyn) (limit : Half) (c : IssueCtx) (g : Gen) : SessionOutcome → RoomDyn
  | .done => if c.duplicate = false then newCommitted d limit g else d
  | .void => { d with issued := g, accepted := g + 1, occupied := false }
  | .failed _ burn => if burn = false then d else burnCommitted d c.void g

theorem burned_following {d : RoomDyn} {g : Gen} (void : Bool) (hg : g = d.issued + 1) :
    burned d g void = burnCommitted d void g := by
  have hcond : (!d.occupied || void) = true ↔ void = true ∨ d.occupied = false := by
    rw [Bool.or_eq_true, Bool.not_eq_true', or_comm]
  simp only [burned, burnCommitted, if_pos hg, hcond]
  rfl

section
variable {s : State} {c : IssueCtx} {i : Slot} {g : Gen}

theorem commitNew_journal (s : State) (i : Slot) (g : Gen) : (commitNew s i g).journal = s.journal := by
  unfold commitNew
  dsimp only
  repeat' split
  all_goals rfl

/-- The commit of a NEW whose g follows the issued generation (R103, R109). -/
theorem commitNew_dynSet (hg : g = (dynOf s i).issued + 1) :
    DynSet i (newCommitted (dynOf s i) (roomOf s i).limit g) s (commitNew s i g) := by
  have hset := (DynSet.refl s i).setDyn { raisedTo (dynOf s i) g with occupied := true }
  have hraised : ({ raiseGen (dynOf s i) g with occupied := true } : RoomDyn) =
      { raisedTo (dynOf s i) g with occupied := true } := rfl
  simp only [commitNew, if_pos hg, hraised]
  by_cases ho : (dynOf s i).occupied = true
  · simp only [if_pos ho, newCommitted]
    exact hset
  · have hpart : partOf (setDyn s i { raisedTo (dynOf s i) g with occupied := true }) i = (dynOf s i).minibar := by
      rw [partOf, hset.dyn]
      rfl
    simp only [if_neg ho, newCommitted, hpart]
    cases hm : (dynOf s i).minibar with
    | none =>
      dsimp only
      rw [Option.map_none, ← hm]
      exact hset
    | some m =>
      dsimp only
      rw [recomputeKeeping_eq, hset.dyn]
      exact hset.setPart _

/-- The room record before a DONE commit's marker and deny entry (R109). -/
theorem committed_dynSet (hg : c.duplicate = false → c.gen = some g ∧ g = (dynOf s i).issued + 1) :
    ∃ w, DynSet i (closedDyn (dynOf s i) (roomOf s i).limit c g .done) s w ∧ w.journal = s.journal ∧ w.trunk = s.trunk ∧
      w.time = s.time ∧ (ctxRoom s c = some i → closeDone s c = unmark (undeny w c.serial) i) := by
  by_cases hd : c.duplicate = false
  · obtain ⟨hgen, hnext⟩ := hg hd
    refine ⟨commitNew s i g, ?_, commitNew_journal s i g, by simp, by simp, fun hroom => ?_⟩
    · simpa only [closedDyn, if_pos hd] using commitNew_dynSet hnext
    · simp only [closeDone, hroom, committedGen, hd, hgen]
      rfl
  · refine ⟨s, ?_, rfl, rfl, rfl, fun hroom => ?_⟩
    · simpa only [closedDyn, if_neg hd] using DynSet.refl s i
    · simp only [closeDone, hroom, committedGen, hd]
      rfl

/-- The room records and the deny list after a DONE commit (R109, R110). -/
theorem closeDone_guest (hroom : ctxRoom s c = some i)
    (hg : c.duplicate = false → c.gen = some g ∧ g = (dynOf s i).issued + 1) :
    (closeDone s c).store.dyns =
        put s.store.dyns i { closedDyn (dynOf s i) (roomOf s i).limit c g .done with marker := none } ∧
      denyCommitted s (closeDone s c) c.serial ∧ appendsAll s (closeDone s c) (denyRecords s c.serial) := by
  obtain ⟨w, hset, hjournal, htrunk, htime, hclose⟩ := committed_dynSet (s := s) (i := i) hg
  have hdeny : w.store.deny = s.store.deny := by rw [hset]
  have hdyns : (undeny w c.serial).store.dyns = w.store.dyns := by simp
  have hdyn : dynOf (undeny w c.serial) i = dynOf w i := by simp only [dynOf, hdyns]
  have hstore := undeny_denyCommitted (s := w) c.serial
  have hrecords : denyRecords w c.serial = denyRecords s c.serial := by
    simp only [denyRecords, hdeny, stampedRecord_congr (congrArg TimeUnit.clock htime)]
  have happends := (undeny_appends (s := w) c.serial).rebase hjournal (by rw [htrunk])
  rw [hrecords] at happends
  rw [hclose hroom]
  refine ⟨?_, ?_, happends.of_journal (by simp)⟩
  · simp only [unmark, setDyn, hdyn, hset.dyn, hdyns, State.withStore_store]
    rw [hset]
    simp [put_put, clearMarker]
  · simp only [denyCommitted, hdeny] at hstore ⊢
    simp only [unmark, setDyn, State.withStore_store]
    rw [hstore]
    rw [hset]

/-- The room record under a VOID commit (R111). -/
theorem closeVoid_guest (hroom : ctxRoom s c = some i) (hg : c.gen = some g) :
    (closeVoid s c).store =
      { s.store with
        dyns := put s.store.dyns i { closedDyn (dynOf s i) (roomOf s i).limit c g .void with marker := none } } := by
  simp only [closeVoid, hroom, hg, voidedPart]
  rfl

/-- The room record at the closing of a FAILED session (R113, R114). -/
theorem closeFailed_guest (why : FailReason) (burn : Bool) (hroom : ctxRoom s c = some i)
    (hg : burn = true → c.gen = some g ∧ g = (dynOf s i).issued + 1) :
    (closeFailed s c burn).store =
      { s.store with
        dyns :=
          put s.store.dyns i
            { closedDyn (dynOf s i) (roomOf s i).limit c g (.failed why burn) with marker := none } } := by
  have hpart : burnedPart (dynOf s i) burn c.void c.gen =
      closedDyn (dynOf s i) (roomOf s i).limit c g (.failed why burn) := by
    cases burn with
    | false => cases c.gen <;> rfl
    | true =>
      obtain ⟨hgen, hnext⟩ := hg rfl
      simp [burnedPart, closedDyn, hgen, burned_following c.void hnext]
  simp only [closeFailed, hroom, hpart]
  rfl

end

/-! ### The end of the session (R115, R118) -/

section
variable {s v : State} {k : Fin 2} {out final : SessionOutcome} {rs : List Record}

/-- What a closing operation leaves, its room records and deny list as its effects leave them (R115). -/
theorem closing_leaves (hop : opInHand s (.closing k)) (hout : (ctxOf s k).outcome = some out)
    (hfinal : finalOutcome (ctxOf s k) out = final) (hv : v = closeEffects s (ctxOf s k) final) (hrs : appendsAll s v rs) :
    ∃ t, exec (.issueClosing .complete) s = .next t ∧ unchangedBut [.issue, .store, .port, .journal, .trunk] s t ∧
      t.port.inHand = none ∧ t.issue = { s.issue with ctxs := put s.issue.ctxs k .free } ∧ t.store = v.store ∧
      appendsAll s t (rs ++ [closingRecord v k final]) ∧
      notifies s t
        (.issueResult (ctxOf s k).tag k final (ctxOf s k).serial
          (if isGuest (ctxOf s k) then (ctxOf s k).gen else none)) := by
  obtain ⟨b, hb⟩ : ∃ b, b = setInHand v none := ⟨_, rfl⟩
  have hexec : exec (.issueClosing .complete) s = .next (settle (finishSession b k final true)) := by
    have hclose := closeSession_decided (s := setInHand s none) (k := k) true hout
    have hctx : ctxOf (setInHand s none) k = ctxOf s k := rfl
    rw [hctx, hfinal, closeEffects_setInHand, ← hv, ← hb] at hclose
    rw [← hclose]
    exact runForm_complete (grant := grantIssue selClosing) (finishOp_eq hop (eff := effClosing) rfl)
  have hctx : ctxOf b k = ctxOf s k := by simp [ctxOf, hb, hv]
  have htrunk : b.trunk = s.trunk := by simp [hb, hv]
  have hfree : b.port.inHand = none := by rw [hb]; rfl
  have happends : appendsAll s (appendRecord b (closingRecord b k final)) (rs ++ [closingRecord v k final]) := by
    have hrecord : closingRecord v k final = closingRecord b k final := by rw [hb]; rfl
    rw [hrecord]
    exact (hrs.of_journal (u := b) (by rw [hb]; rfl)).record (by rw [htrunk]) _
  have hfinish : finishSession b k final true =
      setCtx
        (pushNotice (appendRecord b (closingRecord b k final))
          (.issueResult (ctxOf b k).tag k final (ctxOf b k).serial
            (if isGuest (ctxOf b k) then (ctxOf b k).gen else none))) k .free := rfl
  rw [hctx] at hfinish
  refine ⟨_, hexec, ?_, ?_, ?_, ?_, ?_, ?_⟩
  · refine unchangedBut.settled ?_
    rw [hfinish, unchangedBut_iff]
    simp [hb, hv]
  · rw [hfinish]
    simpa using hfree
  · rw [hfinish]
    simp [setCtx, hb, hv]
  · rw [hfinish]
    simp [hb]
  · rw [hfinish]
    exact (happends.of_journal (by simp)).settled
  · rw [hfinish]
    refine trunkIs.settled (trunkIs_of_eq ?_)
    simp only [State.withIssue_trunk, setCtx, pushNotice_eq, State.withTrunk_trunk]
    simp [noticesAfter, noticesWith, hb, hv]

theorem ctxRoom_closeEffects (s : State) (c d : IssueCtx) (x : SessionOutcome) :
    ctxRoom (closeEffects s c x) d = ctxRoom s d := by
  have hroom : ∀ i, roomOf (closeEffects s c x) i = roomOf s i := fun i => by simp only [roomOf, closeEffects_frame]
  simp only [ctxRoom, findRoom, hroom]

/-- The record of a GUEST session's closing: the room and its generations as the closing leaves them (R118). -/
theorem closingRecord_guest {i : Slot} (x : SessionOutcome) (hcls : (ctxOf s k).stay.cls = 1)
    (hi : findRoom s (ctxOf s k).stay.room = some i) (hv : v = closeEffects s (ctxOf s k) final) :
    closingRecord v k x =
      { stampedRecord s (outcomeKind x) with
        node := some (.node (ctxOf s k).node), serial := (ctxOf s k).serial, room := some (ctxOf s k).stay.room,
        cls := some 1,
        detail :=
          .issue (some ((ctxOf s k).gen.getD 0, (dynOf v i).accepted, (dynOf v i).issued)) (outcomeFailure x) } := by
  have hguest : isGuest (ctxOf s k) = true := by simp [isGuest, hcls]
  have hctx : ctxOf v k = ctxOf s k := by simp [ctxOf, hv]
  have hfound : findRoom v (ctxOf s k).stay.room = some i := by
    have hroom := ctxRoom_closeEffects s (ctxOf s k) (ctxOf s k) final
    rw [ctxRoom, ctxRoom, if_pos hguest, if_pos hguest, ← hv] at hroom
    rw [hroom, hi]
  have hstamp : stampedRecord v (outcomeKind x) = stampedRecord s (outcomeKind x) :=
    stampedRecord_congr (by simp [hv]) _
  rw [closingRecord, hctx, ctxGens, if_pos hguest, if_pos hguest, hfound, hstamp, hcls]

/-- The record of another class's session (R118). -/
theorem closingRecord_other (x : SessionOutcome) (hcls : ¬ (ctxOf s k).stay.cls = 1#8)
    (hv : v = closeEffects s (ctxOf s k) final) :
    closingRecord v k x =
      { stampedRecord s (outcomeKind x) with
        node := some (.node (ctxOf s k).node), serial := (ctxOf s k).serial, cls := some (ctxOf s k).stay.cls,
        detail := .issue none (outcomeFailure x) } := by
  have hguest : ¬ isGuest (ctxOf s k) = true := by simpa [isGuest] using hcls
  have hctx : ctxOf v k = ctxOf s k := by simp [ctxOf, hv]
  have hstamp : stampedRecord v (outcomeKind x) = stampedRecord s (outcomeKind x) :=
    stampedRecord_congr (by simp [hv]) _
  rw [closingRecord, hctx, ctxGens, if_neg hguest, if_neg hguest, hstamp]
  rfl

end

/-- A GUEST session's closing, by what its effects leave of the store and append (R109 to R111, R113 to R115, R118). -/
theorem closing_guest {s v : State} {k : Fin 2} {i : Slot} {g : Gen} {out final : SessionOutcome} {rs : List Record}
    (hop : opInHand s (.closing k)) (hout : (ctxOf s k).outcome = some out) (hcls : (ctxOf s k).stay.cls = 1)
    (hi : findRoom s (ctxOf s k).stay.room = some i) (hfinal : finalOutcome (ctxOf s k) out = final)
    (hv : v = closeEffects s (ctxOf s k) final) (hrs : appendsAll s v rs)
    (hdyns : v.store.dyns =
      put s.store.dyns i
        { closedDyn (dynOf s i) (roomOf s i).limit (ctxOf s k) g final with marker := none }) :
    ∃ t, exec (.issueClosing .complete) s = .next t ∧ unchangedBut [.issue, .store, .port, .journal, .trunk] s t ∧
      t.port.inHand = none ∧ t.issue = { s.issue with ctxs := put s.issue.ctxs k .free } ∧
      dynOf t i = { closedDyn (dynOf s i) (roomOf s i).limit (ctxOf s k) g final with marker := none } ∧
      (∀ j, j ≠ i → dynOf t j = dynOf s j) ∧ t.store = v.store ∧
      appendsAll s t
        (rs ++
          [{ stampedRecord s (outcomeKind final) with
            node := some (.node (ctxOf s k).node), serial := (ctxOf s k).serial, room := some (ctxOf s k).stay.room,
            cls := some 1,
            detail :=
              .issue
                (some
                  ((ctxOf s k).gen.getD 0, (closedDyn (dynOf s i) (roomOf s i).limit (ctxOf s k) g final).accepted,
                    (closedDyn (dynOf s i) (roomOf s i).limit (ctxOf s k) g final).issued))
                (outcomeFailure final) }]) ∧
      notifies s t (.issueResult (ctxOf s k).tag k final (ctxOf s k).serial (ctxOf s k).gen) := by
  obtain ⟨t, hexec, hunchanged, hhand, hissue, hstore, happends, hnotice⟩ := closing_leaves hop hout hfinal hv hrs
  have hguest : isGuest (ctxOf s k) = true := by simp [isGuest, hcls]
  have hvdyn : dynOf v i = { closedDyn (dynOf s i) (roomOf s i).limit (ctxOf s k) g final with marker := none } := by
    rw [dynOf, hdyns, look_put_same]
  rw [closingRecord_guest final hcls hi hv, hvdyn] at happends
  rw [if_pos hguest] at hnotice
  refine ⟨t, hexec, hunchanged, hhand, hissue, ?_, fun j hj => ?_, hstore, happends, hnotice⟩
  · rw [dynOf, hstore, hdyns, look_put_same]
  · rw [dynOf, hstore, hdyns, look_put_ne _ hj.symm]
    rfl

/-- Settles O28: what an outcome does to the store is one lemma an outcome (`closeDone_guest`, `closeVoid_guest`,
`closeFailed_guest`), and `closing_guest` ends the session after it. -/
theorem closingCommitsOrBurns : Obligations.ClosingCommitsOrBurns := by
  unfold Obligations.ClosingCommitsOrBurns
  refine ⟨fun s k i g out hop => ?_, fun s k hop => ?_⟩
  · intro c d hout hcls hi hwriting fresh final d' hcause hburn hvoid
    have hroom : ctxRoom s c = some i := by
      have hguest : isGuest c = true := by simp [isGuest, hcls]
      rw [ctxRoom, if_pos hguest, hi]
    have hnew : c.state = .writing → c.duplicate = false → c.gen = some g ∧ g = (dynOf s i).issued + 1 :=
      fun hw hd => ⟨(hwriting hw).1, (hwriting hw).2 hd⟩
    cases out with
    | void => exact absurd rfl hvoid
    | done =>
      have hw : c.state = .writing := by simpa using hcause
      by_cases hflag : c.void = true
      · have hfinal : finalOutcome c .done = .void := by simp [finalOutcome, hflag]
        have heq : final = .void := by simp [final, hflag]
        have hstore := closeVoid_guest (s := s) hroom (hwriting hw).1
        obtain ⟨t, hexec, hunchanged, hhand, hissue, hdyn, hothers, htstore, happends, hnotice⟩ :=
          closing_guest (g := g) hop hout hcls hi hfinal rfl (appendsAll_nil (by simp [closeEffects]))
            (congrArg Store.dyns hstore)
        simp only [d', heq]
        refine ⟨t, hexec, hunchanged, hhand, hissue, hdyn, hothers, nofun, fun _ => ?_, fun _ => happends, nofun, hnotice⟩
        rw [htstore.trans hstore]
      · have hfinal : finalOutcome c .done = .done := by simp [finalOutcome, hflag]
        have heq : final = .done := by simp [final, hflag]
        obtain ⟨hdyns, hdenied, hdenies⟩ := closeDone_guest (s := s) hroom (hnew hw)
        obtain ⟨t, hexec, hunchanged, hhand, hissue, hdyn, hothers, htstore, happends, hnotice⟩ :=
          closing_guest (g := g) hop hout hcls hi hfinal rfl hdenies hdyns
        simp only [d', heq]
        refine ⟨t, hexec, hunchanged, hhand, hissue, hdyn, hothers, fun _ => ⟨?_, happends⟩, fun h => absurd rfl h, nofun,
          nofun, hnotice⟩
        unfold denyCommitted
        rw [htstore]
        exact hdenied
    | failed why burn =>
      have hfinal : finalOutcome c (.failed why burn) = .failed why burn := rfl
      have heq : final = .failed why burn := by simp [final]
      have hburned : burn = true → c.gen = some g ∧ g = (dynOf s i).issued + 1 := by
        rintro rfl
        have hw : c.state = .writing := by simpa using hcause
        exact hnew hw (hburn why rfl)
      have hstore := closeFailed_guest (s := s) why burn hroom hburned
      obtain ⟨t, hexec, hunchanged, hhand, hissue, hdyn, hothers, htstore, happends, hnotice⟩ :=
        closing_guest (g := g) hop hout hcls hi hfinal rfl (appendsAll_nil (by simp [closeEffects]))
          (congrArg Store.dyns hstore)
      simp only [d', heq]
      refine ⟨t, hexec, hunchanged, hhand, hissue, hdyn, hothers, nofun, fun _ => ?_, nofun, ?_, hnotice⟩
      · rw [htstore.trans hstore]
      · rintro r b h
        cases h
        exact happends
  · intro c hout hcls hflag
    have hguest : ¬ isGuest c = true := by simpa [isGuest] using hcls
    have heffects : closeEffects s c .done = undeny s c.serial := by
      simp only [closeEffects, closeDone, ctxRoom, if_neg hguest]
    have hfinal : finalOutcome c .done = .done := by simp [finalOutcome, hflag]
    obtain ⟨t, hexec, hunchanged, hhand, hissue, hstore, happends, hnotice⟩ :=
      closing_leaves hop hout hfinal heffects.symm (undeny_appends c.serial)
    rw [closingRecord_other .done hcls heffects.symm] at happends
    rw [if_neg hguest] at hnotice
    refine ⟨t, hexec, hunchanged, hhand, hissue, ?_, by rw [hstore]; simp, happends, hnotice⟩
    unfold denyCommitted
    rw [hstore]
    exact undeny_denyCommitted c.serial

end Sys2Proof.Machine
end

section
/-!
ROOM_CHECKOUT (06_issue_and_supersession.md, R115, R119; 08_minibars.md, R137, R149, R152): the charges and the restock, the room
record, the session open for the room, and the answer.
-/

namespace Sys2Proof.Machine

/-! ### The charges and the end of a restock (R152) -/

/-- The tally a checkout reports: the room's with its pending charges committed (R137, R152). -/
def finalTally (d : RoomDyn) : Half :=
  BitVec.ofNat 16
    (tallyAfter ((d.minibar.map (·.tally.toNat)).getD 0) ((d.minibar.map (·.charges)).getD []))

/-- The Minibar Engine's records of a checkout (R149, R150, R152). -/
def checkoutDetails (limit : Half) (d : RoomDyn) : List (RecordKind × Detail) :=
  (d.minibar.map fun m => commitDetails limit m.tally.toNat m.charges ++ relatchDetails m).getD []

/-- A minibar part with its charges committed and a restock over, in some state. -/
def partSettled (m : MinibarPart) (state : MinibarState) : MinibarPart :=
  { m with
    tally := BitVec.ofNat 16 (tallyAfter m.tally.toNat m.charges), charges := [], state := state
    stocked := if m.state = .restock then m.stable else m.stocked }

theorem partCommitted_all (m : MinibarPart) (occupied : Bool) (limit : Nat) :
    partCommitted m occupied limit (fun _ => true) =
      { m with
        tally := BitVec.ofNat 16 (tallyAfter m.tally.toNat m.charges), charges := []
        state := stateAfterCommits m occupied limit m.charges } := by
  simp [partCommitted]

/-- Commits neither begin nor end a restock (R149). -/
theorem stateAfterCommits_restock (m : MinibarPart) (occupied : Bool) (limit : Nat) (cs : List Charge) :
    stateAfterCommits m occupied limit cs = .restock ↔ m.state = .restock := by
  unfold stateAfterCommits
  by_cases hr : m.state = .restock
  · rw [if_neg fun h => h.2.2.2.2 hr]
  · split
    · cases occupied <;> simp [hr]
    · rfl

section
variable {s w : State} {i : Slot} {m : MinibarPart}

theorem checkoutCharges_none (h : partOf s i = none) : checkoutCharges s i = s := by
  have hcommit : commitAll s i = s := by simp only [commitAll, commitWhere, h]
  simp only [checkoutCharges, hcommit, h]

theorem checkoutCharges_some (hm : partOf s i = some m) :
    ∃ state,
      PartEdited s i { dynOf s i with minibar := some (partSettled m state) }
        (minibarRecords s i (commitDetails (roomOf s i).limit m.tally.toNat m.charges ++ relatchDetails m))
        (checkoutCharges s i) := by
  obtain ⟨x, hx⟩ : ∃ x, x = partCommitted m (dynOf s i).occupied (roomOf s i).limit.toNat fun _ => true := ⟨_, rfl⟩
  have hall : (m.charges.filter fun _ => true) = m.charges := List.filter_eq_self.2 fun _ _ => rfl
  have hcommitted := (PartEdited.refl s i).committed hm fun _ => true
  rw [← hx, hall, List.nil_append] at hcommitted
  have hpart : partOf (commitAll s i) i = some x := hcommitted.part
  have hrestock : x.state = .restock ↔ m.state = .restock := by
    rw [hx, partCommitted_all]
    exact stateAfterCommits_restock m _ _ _
  rw [minibarRecords_append]
  by_cases hr : m.state = .restock
  · have hdetails : relatchDetails x = relatchDetails m := by
      simp only [relatchDetails, if_pos hr, if_pos (hrestock.2 hr)]
      simp only [hx, partCommitted_all]
    have hended := hcommitted.restockEnded rfl (hrestock.2 hr)
    rw [hdetails] at hended
    refine ⟨restState (dynOf s i).occupied (roomOf s i).limit.toNat x.tally.toNat, ?_⟩
    have hcharges : checkoutCharges s i = endRestock (commitAll s i) i := by
      simp only [checkoutCharges, hpart, if_pos (hrestock.2 hr)]
    have hsettled : partSettled m (restState (dynOf s i).occupied (roomOf s i).limit.toNat x.tally.toNat) =
        { x with
          stocked := x.stable
          state := restState (dynOf s i).occupied (roomOf s i).limit.toNat x.tally.toNat } := by
      simp only [partSettled, if_pos hr, hx, partCommitted_all]
    rw [hcharges, hsettled]
    exact hended
  · have hcharges : checkoutCharges s i = commitAll s i := by
      simp only [checkoutCharges, hpart, if_neg fun h => hr (hrestock.1 h)]
    have hdetails : relatchDetails m = [] := if_neg hr
    have hsettled : partSettled m x.state = x := by
      simp only [partSettled, if_neg hr, hx, partCommitted_all]
    refine ⟨x.state, ?_⟩
    rw [hcharges, hdetails, minibarRecords_nil, List.append_nil, hsettled]
    exact hcommitted

/-! ### The room record (R119, R152) -/

/-- A room record's dynamic part once its stay is closed (R119, R152). -/
def checkedOutDyn (d : RoomDyn) : RoomDyn :=
  { d with
    accepted := d.issued + 1, occupied := false
    minibar :=
      d.minibar.map fun m =>
        { m with
          tally := 0, charges := [], state := .locked, stocked := if m.state = .restock then m.stable else m.stocked } }

/-- RETURN and RELATCH of a room's minibar node (R152). -/
def barDeadline (s : State) (i : Slot) (e : Deadline) : Bool :=
  decide ((roomOf s i).minibarNode = some e.node) && (e.kind == .ret || e.kind == .relatch)

theorem checkoutMinibar_none (h : partOf s i = none) : checkoutMinibar s i = s := by simp only [checkoutMinibar, h]

theorem checkoutMinibar_some (hm : partOf s i = some m) :
    checkoutMinibar s i =
      setDeadlines (setPart s i (some { m with tally := 0, state := .locked }))
        (s.time.deadlines.filter fun e => !barDeadline s i e) := by
  simp only [checkoutMinibar, hm]
  cases hn : (roomOf s i).minibarNode with
  | none =>
    have hall : (s.time.deadlines.filter fun e => !barDeadline s i e) = s.time.deadlines :=
      List.filter_eq_self.2 fun e _ => by simp [barDeadline, hn]
    rw [hall]
    rfl
  | some n =>
    have hboth : ∀ e : Deadline,
        (!(decide (e.node = n) && decide (e.kind = .relatch)) && !(decide (e.node = n) && decide (e.kind = .ret))) =
          !barDeadline s i e := fun e => by
      simp only [barDeadline, hn, Option.some.injEq, beq_eq_decide, eq_comm (a := n)]
      rw [← Bool.not_or, ← Bool.and_or_distrib_left, Bool.or_comm]
    have hcancels : cancel (cancel (setPart s i (some { m with tally := 0, state := .locked })) n .ret) n .relatch =
        setDeadlines (setPart s i (some { m with tally := 0, state := .locked }))
          ((s.time.deadlines.filter fun e => !(decide (e.node = n) && decide (e.kind = .ret))).filter
            fun e => !(decide (e.node = n) && decide (e.kind = .relatch))) := rfl
    simp only [hcancels, List.filter_filter, hboth]

end

/-- A room's stay closed in the tables and the time unit (R119, R152). -/
structure StayClosed (s : State) (i : Slot) (w : State) : Prop where
  same : unchangedBut [.time, .store, .port, .journal] s w
  dyn : DynSet i (checkedOutDyn (dynOf s i)) s w
  records : appendsAll s w (minibarRecords s i (checkoutDetails (roomOf s i).limit (dynOf s i)))
  time : w.time =
    { s.time with
      deadlines := s.time.deadlines.filter fun e => !((dynOf s i).minibar.isSome && barDeadline s i e) }

/-- The checkout's tally, and its room record closed with nothing of the session yet (R119, R152). -/
theorem checkout_stayClosed (s : State) (i : Slot) :
    tallyOf (dynOf (checkoutCharges s i) i) = finalTally (dynOf s i) ∧
      ∃ d, dynOf (checkoutMinibar (checkoutCharges s i) i) i = d ∧ d.accepted = (dynOf s i).accepted ∧
        d.issued = (dynOf s i).issued ∧
        StayClosed s i
          (setDyn (checkoutMinibar (checkoutCharges s i) i) i
            { d with accepted := d.issued + 1, occupied := false }) := by
  cases hm : partOf s i with
  | none =>
    have hnone : (dynOf s i).minibar = none := hm
    rw [checkoutCharges_none hm, checkoutMinibar_none hm]
    refine ⟨by simp [tallyOf, finalTally, hnone, tallyAfter], _, rfl, rfl, rfl, ?_, ?_, ?_, ?_⟩
    · rw [unchangedBut_iff]
      simp
    · have hdyn : checkedOutDyn (dynOf s i) =
          { dynOf s i with accepted := (dynOf s i).issued + 1, occupied := false } := by
        simp only [checkedOutDyn, hnone, Option.map_none]
      rw [hdyn]
      exact (DynSet.refl s i).setDyn _
    · simp only [checkoutDetails, hnone, Option.map_none, Option.getD_none, minibarRecords_nil]
      exact appendsAll_nil rfl
    · simp [hnone]
  | some m =>
    have hsome : (dynOf s i).minibar = some m := hm
    obtain ⟨state, hpaid⟩ := checkoutCharges_some hm
    have htime : (checkoutCharges s i).time = s.time := hpaid.blocks.1
    have hbar : ∀ e, barDeadline (checkoutCharges s i) i e = barDeadline s i e := fun e => by
      rw [barDeadline, hpaid.reads.2.1, barDeadline]
    have hlocked := hpaid.setPart (some { partSettled m state with tally := 0, state := .locked })
    have hminibar := checkoutMinibar_some hpaid.part
    simp only [hbar, htime] at hminibar
    rw [hminibar]
    refine ⟨?_, _, hlocked.dyn.dyn, rfl, rfl, ?_, ?_, ?_, ?_⟩
    · rw [tallyOf, hpaid.dyn.dyn]
      simp [finalTally, hsome, partSettled]
    · refine (hlocked.same.mono (by simp)).step ?_
      rw [unchangedBut_iff]
      simp [setDeadlines]
    · have hlast : checkedOutDyn (dynOf s i) =
          { dynOf s i with
            accepted := (dynOf s i).issued + 1, occupied := false
            minibar := some { partSettled m state with tally := 0, state := .locked } } := by
        simp only [checkedOutDyn, hsome, Option.map_some, partSettled]
      rw [hlast]
      refine DynSet.setDyn (hlocked.dyn.of_store ?_) _
      rfl
    · simp only [checkoutDetails, hsome, Option.map_some, Option.getD_some]
      exact hlocked.records.of_journal rfl
    · simp [setDeadlines, hsome]

/-! ### The session open for the room (R119) -/

/-- The session that a checkout voids (R119). -/
def voidedSession (s : State) (room : Half) : List (Fin 2) :=
  (ctxOfRoom s room).toList.filter fun k => (ctxOf s k).state == .writing

/-- The session that a checkout ends (R112, R119). -/
def endedSession (s : State) (room : Half) : List (Fin 2) :=
  (ctxOfRoom s room).toList.filter fun k => (ctxOf s k).state == .awaitBlank && (ctxOf s k).outcome.isNone

theorem ctxOfRoom_guest {s : State} {room : Half} {k : Fin 2} (h : ctxOfRoom s room = some k) :
    (ctxOf s k).stay.cls = 1 := by
  have := List.find?_some h
  simp only [Bool.and_eq_true] at this
  exact of_decide_eq_true this.1.2

theorem sessions_congr {s t : State} (h : t.issue = s.issue) (room : Half) :
    voidedSession t room = voidedSession s room ∧ endedSession t room = endedSession s room := by
  have hctx : ∀ k, ctxOf t k = ctxOf s k := fun k => by rw [ctxOf, h, ctxOf]
  constructor
  · simp only [voidedSession, ctxOfRoom, hctx]
  · simp only [endedSession, ctxOfRoom, hctx]

/-- What a checkout leaves of the session open for the room (R112, R115, R119). -/
structure SessionLeft (s : State) (room : Half) (t : State) : Prop where
  same : unchangedBut [.time, .lines, .issue] s t
  journal : t.journal = s.journal
  trunk : t.trunk = s.trunk
  time : t.time =
    { s.time with
      deadlines :=
        s.time.deadlines.filter fun e =>
          !(endedSession s room).any fun k => (ctxOf s k).node == e.node && e.kind == .issueTimeout }
  voided : ∀ k ∈ voidedSession s room,
    t.issue = { s.issue with ctxs := put s.issue.ctxs k { ctxOf s k with void := true } }
  ended : ∀ k ∈ endedSession s room,
    t.issue =
        { ctxs :=
            put s.issue.ctxs k { ctxOf s k with outcome := some (.failed .checkout false), heldBlank := none }
          work := (s.issue.work.filter fun w => w != .composition k) ++ [.closing k] } ∧
      t.lines = linesWithdrawn s (ctxOf s k).node
  issue : voidedSession s room = [] → endedSession s room = [] → t.issue = s.issue
  lines : endedSession s room = [] → t.lines = s.lines

section
variable {s : State} {room : Half} {k : Fin 2}

/-- With no session open for the room, or one already decided, nothing changes (R112). -/
theorem SessionLeft.refl (hv : voidedSession s room = []) (he : endedSession s room = []) : SessionLeft s room s where
  same := by rw [unchangedBut_iff]; simp
  journal := rfl
  trunk := rfl
  time := by simp [he]
  voided k hk := by simp [hv] at hk
  ended k hk := by simp [he] at hk
  issue _ _ := rfl
  lines _ := rfl

/-- A session in WRITING is voided (R119). -/
theorem SessionLeft.void (hv : voidedSession s room = [k]) (he : endedSession s room = []) :
    SessionLeft s room (setCtx s k { ctxOf s k with void := true }) where
  same := by rw [unchangedBut_iff]; simp
  journal := by simp
  trunk := by simp
  time := by simp [he]
  voided j hj := by
    obtain rfl : j = k := by simpa [hv] using hj
    simp [setCtx]
  ended j hj := by simp [he] at hj
  issue h _ := by simp [hv] at h
  lines _ := by simp

/-- A session in AWAIT_BLANK with no outcome decided ends CHECKOUT (R112, R115, R119). -/
theorem SessionLeft.over (hv : voidedSession s room = []) (he : endedSession s room = [k])
    (hk : ctxOfRoom s room = some k) (hs : (ctxOf s k).state = .awaitBlank) (hn : (ctxOf s k).outcome = none) :
    SessionLeft s room (endSession s k .checkout) where
  same := by
    obtain ⟨hjournal, htrunk⟩ := endSession_guest .checkout (ctxOfRoom_open hk) hn (ctxOfRoom_guest hk)
    rw [unchangedBut_iff, hjournal, htrunk]
    simp
  journal := (endSession_guest .checkout (ctxOfRoom_open hk) hn (ctxOfRoom_guest hk)).1
  trunk := (endSession_guest .checkout (ctxOfRoom_open hk) hn (ctxOfRoom_guest hk)).2
  time := by
    rw [endSession_time .checkout (ctxOfRoom_open hk) hn nofun, he]
    simp [beq_eq_decide, eq_comm]
  voided j hj := by simp [hv] at hj
  ended j hj := by
    obtain rfl : j = k := by simpa [he] using hj
    refine ⟨?_, endSession_lines .checkout (ctxOfRoom_open hk) hn⟩
    rw [endSession_issue .checkout (ctxOfRoom_open hk) hn, sessionsEnded_guest .checkout (ctxOfRoom_guest hk),
      burns_awaitBlank hs]
  issue _ h := by simp [he] at h
  lines h := by simp [he] at h

theorem checkoutSession_left (s : State) (room : Half) : SessionLeft s room (checkoutSession s room) := by
  cases hk : ctxOfRoom s room with
  | none =>
    simp only [checkoutSession, hk]
    exact .refl (by simp [voidedSession, hk]) (by simp [endedSession, hk])
  | some k =>
    cases hs : (ctxOf s k).state with
    | free => exact absurd hs (of_decide_eq_true (ctxOfRoom_open hk))
    | awaitBlank =>
      have hvoid : voidedSession s room = [] := by simp [voidedSession, hk, hs]
      simp only [checkoutSession, hk, hs]
      by_cases hn : (ctxOf s k).outcome = none
      · exact .over hvoid (by simp [endedSession, hk, hs, hn]) hk hs hn
      · rw [endSession_decided hn]
        exact .refl hvoid (by simp [endedSession, hk, hn])
    | writing =>
      have hvoid : voidedSession s room = [k] := by simp [voidedSession, hk, hs]
      have hsession : checkoutSession s room = setCtx s k { ctxOf s k with void := true } := by
        simp only [checkoutSession, hk, hs]
      rw [hsession]
      exact .void hvoid (by simp [endedSession, hk, hs])

end

/-! ### The whole checkout -/

/-- The deadlines that a checkout cancels (R115, R152). -/
def checkoutCancels (s : State) (room : Half) (i : Slot) (e : Deadline) : Bool :=
  ((dynOf s i).minibar.isSome && barDeadline s i e) ||
    (endedSession s room).any fun k => (ctxOf s k).node == e.node && e.kind == .issueTimeout

/-- The CHECKOUT record (R119): the final tally, and the accepted generation before and after. -/
def checkoutRecord (s : State) (room : Half) (i : Slot) : Record :=
  { stampedRecord s .checkout with
    room := some room
    detail := .checkout (finalTally (dynOf s i)) (dynOf s i).accepted ((dynOf s i).issued + 1) }

/-- The CHECKOUT record and the answer over the tables and the session (R119). -/
theorem checkoutRoom_some {s : State} {room : Half} {i : Slot} (hi : findRoom s room = some i) :
    ∃ w v, StayClosed s i w ∧ SessionLeft w room v ∧
      checkoutRoom s room =
        answerRequest
          (appendRecord v (checkoutRecord s room i))
          (.done
            (be2 room ++ be2 (finalTally (dynOf s i)) ++ [(dynOf s i).issued + 1, (dynOf s i).issued])) := by
  obtain ⟨htally, d, hd, hbefore, hissued, hclosed⟩ := checkout_stayClosed s i
  obtain ⟨w, hw⟩ : ∃ w, w = setDyn (checkoutMinibar (checkoutCharges s i) i) i
    { d with accepted := d.issued + 1, occupied := false } := ⟨_, rfl⟩
  rw [← hw] at hclosed
  have hleft := checkoutSession_left w room
  have hstamp : stampedRecord (checkoutSession w room) .checkout = stampedRecord s .checkout :=
    stampedRecord_congr (by rw [hleft.time, hclosed.time]) _
  have hdyn : ∀ r, dynOf (appendRecord (checkoutSession w room) r) i = checkedOutDyn (dynOf s i) := fun r => by
    rw [← hclosed.dyn.dyn]
    simp [dynOf]
  refine ⟨w, _, hclosed, hleft, ?_⟩
  simp only [checkoutRoom, hi, htally, hd, ← hw, hstamp, hdyn]
  rw [hbefore, hissued]
  rfl

/-- What a checkout leaves of the part (R119). -/
structure CheckedOut (s : State) (r : RequestInHand) (room : Half) (i : Slot) (t : State) : Prop where
  same : unchangedBut [.time, .lines, .issue, .store, .port, .journal, .trunk] s t
  store : t.store = { s.store with dyns := put s.store.dyns i (checkedOutDyn (dynOf s i)) }
  records : appendsAll s t
    (minibarRecords s i (checkoutDetails (roomOf s i).limit (dynOf s i)) ++ [checkoutRecord s room i])
  answer : answers s t r
    (.done (be2 room ++ be2 (finalTally (dynOf s i)) ++ [(dynOf s i).issued + 1, (dynOf s i).issued]))
  time : t.time = { s.time with deadlines := s.time.deadlines.filter fun e => !checkoutCancels s room i e }
  voided : ∀ k ∈ voidedSession s room,
    t.issue = { s.issue with ctxs := put s.issue.ctxs k { ctxOf s k with void := true } }
  ended : ∀ k ∈ endedSession s room,
    t.issue =
        { ctxs :=
            put s.issue.ctxs k { ctxOf s k with outcome := some (.failed .checkout false), heldBlank := none }
          work := (s.issue.work.filter fun w => w != .composition k) ++ [.closing k] } ∧
      t.lines = linesWithdrawn s (ctxOf s k).node
  issue : voidedSession s room = [] → endedSession s room = [] → t.issue = s.issue
  lines : endedSession s room = [] → t.lines = s.lines

theorem checkoutRoom_checkedOut {s : State} {r : RequestInHand} {room : Half} {i : Slot}
    (hi : findRoom s room = some i) (hr : s.trunk.inHand = some r) :
    CheckedOut s r room i (settle (checkoutRoom s room)) := by
  obtain ⟨w, v, hclosed, hleft, hcheckout⟩ := checkoutRoom_some hi
  have hissue : w.issue = s.issue := hclosed.same.2 .issue (by simp)
  have hlines : w.lines = s.lines := hclosed.same.2 .lines (by simp)
  have htrunk : trunkIs w s.trunk := hclosed.same.2 .trunk (by simp)
  have hchain : w.trunk.chain = s.trunk.chain := (congrArg Trunk.chain htrunk).trans rfl
  have hstore : v.store = w.store := hleft.same.2 .store (by simp)
  have hctx : ∀ k, ctxOf w k = ctxOf s k := fun k => by rw [ctxOf, hissue, ctxOf]
  have hwithdrawn : ∀ n, linesWithdrawn w n = linesWithdrawn s n := fun n => by
    simp only [linesWithdrawn, lineOf, hlines]
  obtain ⟨hvoided, hended⟩ := sessions_congr hissue room
  obtain ⟨hsame, hjournal, hvtrunk, htime, hleftVoided, hleftEnded, hleftIssue, hleftLines⟩ := hleft
  simp only [hvoided, hended, hctx, hissue, hlines, hwithdrawn] at htime hleftVoided hleftEnded hleftIssue hleftLines
  rw [hcheckout]
  constructor
  case same =>
    refine unchangedBut.settled (((hclosed.same.mono (by simp)).step (hsame.mono (by simp))).step ?_)
    rw [unchangedBut_iff]
    simp
  case store =>
    simp only [settle_frame, answerRequest_frame, appendRecord_frame, hstore]
    exact hclosed.dyn
  case records =>
    have happends := (hclosed.records.of_journal hjournal).record (by rw [hvtrunk, hchain])
      (checkoutRecord s room i)
    exact (happends.of_journal (by simp)).settled
  case answer =>
    refine trunkIs.settled (trunkIs.answered ?_ hr _)
    have hkept : (appendRecord v (checkoutRecord s room i)).trunk = w.trunk := by simp [hvtrunk]
    unfold trunkIs at htrunk ⊢
    rw [hkept]
    exact htrunk
  case time =>
    simp only [settle_frame, answerRequest_frame, appendRecord_frame, htime, hclosed.time, List.filter_filter]
    have hboth : ∀ e : Deadline,
        ((!(endedSession s room).any fun k => (ctxOf s k).node == e.node && e.kind == .issueTimeout) &&
            !((dynOf s i).minibar.isSome && barDeadline s i e)) = !checkoutCancels s room i e := fun e => by
      rw [checkoutCancels, Bool.not_or, Bool.and_comm]
    simp only [hboth]
  case voided => simpa using hleftVoided
  case ended => simpa using hleftEnded
  case issue => simpa using hleftIssue
  case lines => simpa using hleftLines

theorem checkoutRoom_none {s : State} {room : Half} (h : findRoom s room = none) :
    checkoutRoom s room = answerRequest s (.refused .room) := by simp only [checkoutRoom, h]

/-- Settles O30: the tables (`StayClosed`), then the session (`SessionLeft`), then the record and the answer over both. -/
theorem checkoutClosesStay : Obligations.CheckoutClosesStay := by
  intro s r room hop hreq
  obtain ⟨hhand, hr⟩ := hop
  obtain ⟨request, tag, unicast⟩ := r
  subst hreq
  have hexec : exec (.roomCheckout .complete) s = .next (settle (checkoutRoom (setInHand s none) room)) := by
    have := runForm_complete (grant := grantSimple .requestUnit .checkout (requestAsks .checkout))
      (finishOp_eq hhand (eff := effCheckout) rfl)
    simp only [setInHand_frame, hr] at this
    exact this
  have hfree : unchangedBut [.port] s (setInHand s none) := by
    rw [unchangedBut_iff]
    simp
  refine ⟨fun hnone => ?_, fun i hi => ?_⟩
  · rw [checkoutRoom_none (s := setInHand s none) hnone] at hexec
    refine ⟨_, hexec, unchangedBut.settled ((hfree.mono (by simp)).step ?_), by simp [setInHand],
      (trunkIs.answered (trunkIs_of_eq (by simp)) hr _).settled⟩
    rw [unchangedBut_iff]
    simp
  · have hout := checkoutRoom_checkedOut (s := setInHand s none) hi hr
    have htime := hout.time
    simp only [checkoutCancels, barDeadline, ← Bool.and_assoc] at htime
    exact ⟨_, hexec, (hfree.mono (by simp)).step hout.same, by simp [setInHand], hout.store, hout.records, hout.answer,
      htime, hout.voided, hout.ended, hout.issue, hout.lines⟩

end Sys2Proof.Machine
end
